-- ==== Sys2Proof/Word.lean ====
section
/-! DEFINITION. The word types of the ELXSI SYSTEM 6400 and their plainest arithmetic (R11, R12, R13, R153).
Bit numbers in the spec count from the most significant bit; Lean's `getLsbD` counts from the least. -/

namespace Sys2Proof

/-- A general register's contents, the PSW, a timer (R20, R27, R40): 64 bits. -/
abbrev Word := BitVec 64
/-- A virtual address or the program counter (R25, R80): 32 bits. -/
abbrev Addr := BitVec 32
/-- One byte of memory or of an instruction (R81, R140). -/
abbrev Byte := BitVec 8
/-- One instruction nibble (R12). -/
abbrev Nib := BitVec 4
/-- A register specifier nibble (R145): the number of a general register R0 to RF. -/
abbrev Reg := BitVec 4
/-- A channel number or a local priority (R36, R54): 0 is the highest priority, 15 the lowest. -/
abbrev Chan := Fin 16

/-- `lo_32(v)` (R13): the low-order 32 bits of a register. -/
def lo32 (v : Word) : Addr := v.setWidth 32

/-- `zext_32(a)` (R13): a 32-bit address in a register. -/
def zext32 (a : Addr) : Word := a.setWidth 64

/-- `lo_64` of a mathematical integer (R13). -/
def lo64 (n : Int) : Word := BitVec.ofInt 64 n

/-- Whether an exact result lies in the signed 64-bit range (R261). -/
def fitsSigned64 (n : Int) : Bool := decide (-(2 ^ 63 : Int) ≤ n) && decide (n ≤ 2 ^ 63 - 1)

/-- The two nibbles of a byte, high-order first (R140). -/
def hiNib (b : Byte) : Nib := b.extractLsb' 4 4
/-- The low-order nibble of a byte (R140). -/
def loNib (b : Byte) : Nib := b.extractLsb' 0 4

/-- A big-endian byte list read as a number (R81). -/
def beNat : List Byte → Nat
  | [] => 0
  | b :: bs => b.toNat * 256 ^ bs.length + beNat bs

/-- The `n` low-order bytes of a number, most significant byte first (R81, R101). -/
def beBytes : Nat → Nat → List Byte
  | 0, _ => []
  | n + 1, v => BitVec.ofNat 8 (v / 256 ^ n) :: beBytes n v

end Sys2Proof
end

