-- ==== Sys2Proof/Config.lean ====
section
/-! DEFINITION. What an implementation or the operating system fixes and the manual does not: the open
parameters of R9 and 93_implementation_defined.md, their default values, and the free values
(opaque constants) that stand for every "any value" and every environment input. -/

namespace Sys2Proof.Config

/-- The 26 third opcode nibbles the source lost (R655, R670; decisions D48, D52), one field per
instruction, each the value of the parameter `OPC_<NAME>`. -/
structure OpcodeMap where
  attFunToChan : Nib
  createFun : Nib
  createLink : Nib
  delFun : Nib
  delMsg : Nib
  disableChanInt : Nib
  disableFun : Nib
  enableChanInt : Nib
  enableFun : Nib
  sendToHardware : Nib
  setFunIntVector : Nib
  copyLink : Nib
  passLink : Nib
  rcv : Nib
  rcvChan : Nib
  rcvLink : Nib
  rcvLinkOnChan : Nib
  readFte : Nib
  readLte : Nib
  send : Nib
  setLocalPri : Nib
  readCpuTimer : Nib
  readPme : Nib
  readRealTimer : Nib
  readStat : Nib
  writeStat : Nib
deriving DecidableEq, Repr

/-- The nibbles of the `80n` group, with the three known ones (R655). -/
def OpcodeMap.group80 (o : OpcodeMap) : List Nib :=
  [9, 0xA, 0xE, o.attFunToChan, o.createFun, o.createLink, o.delFun, o.delMsg, o.disableChanInt,
   o.disableFun, o.enableChanInt, o.enableFun, o.sendToHardware, o.setFunIntVector]

/-- The nibbles of the `90n` group, with the two known ones (R655, R374). -/
def OpcodeMap.group90 (o : OpcodeMap) : List Nib :=
  [1, 0xE, o.copyLink, o.passLink, o.rcv, o.rcvChan, o.rcvLink, o.rcvLinkOnChan, o.readFte, o.readLte,
   o.send, o.setLocalPri]

/-- The nibbles of the `60n` group, with the two known ones (R670). -/
def OpcodeMap.group60 (o : OpcodeMap) : List Nib :=
  [0, 3, o.readCpuTimer, o.readPme, o.readRealTimer, o.readStat, o.writeStat]

/-- R655, R670: the map is injective and avoids the known opcodes. -/
def OpcodeMap.valid (o : OpcodeMap) : Bool :=
  decide o.group80.Nodup && decide o.group90.Nodup && decide o.group60.Nodup

/-- SH91_WIDTH (R203, D24). -/
inductive Sh91 | w8 | w32
deriving DecidableEq, Repr
/-- SH87_WIDTH (R206, D24). -/
inductive Sh87 | w8 | w64
deriving DecidableEq, Repr
/-- SH8D_WIDTH (R412, D30). -/
inductive Sh8D | w32 | w64
deriving DecidableEq, Repr

/-- An opcode of FSQR (R355, D36): of the generalized class, 32 or 64 bits, by OP1 and OP2; or `F0n`, on register
pairs, by its third nibble (notes/assumptions/34.md). -/
inductive FsqrOpcode
  | single (op1 op2 : Nib)
  | double (op1 op2 : Nib)
  | extended (op2 : Nib)
deriving DecidableEq, Repr

/-- The open parameters that an instruction's decoding or meaning reads (R9,
93_implementation_defined.md part 2). They stand in the machine's state and no step changes them, so
that a statement about every state is a statement about every value of every parameter. -/
structure Params where
  /-- OPC_* (D48, D52). -/
  opc : OpcodeMap
  /-- IMPL_603, IMPL_700, IMPL_701, IMPL_809, IMPL_80A, IMPL_80E (D14). -/
  impl603 : Bool
  impl700 : Bool
  impl701 : Bool
  impl809 : Bool
  impl80A : Bool
  impl80E : Bool
  sh91 : Sh91
  sh87 : Sh87
  sh8D : Sh8D
  /-- SHORT_ADD64 and SHORT_MUL64 (R267, D26): the nibble after the mode nibble 0. -/
  shortAdd64 : Nib
  shortMul64 : Nib
  /-- SHORT_FSUBR (R334, D34): whether `1Bx`, `1Fx`, `9Bx` exist. -/
  shortFsubr : Bool
  /-- NEG64_YMODES (R280, D27): whether `6B2`, `BB2`, `FB2` exist. -/
  neg64YModes : Bool
  /-- MM_TOUCH, MM_FORCE, MM_CLEANSE (R671). -/
  mmTouch : Word
  mmForce : Word
  mmCleanse : Word
  /-- Whether FORCE and CLEANSE are synchronous; TOUCH never is (R671; notes/assumptions/31.md). -/
  mmForceSync : Bool
  mmCleanseSync : Bool
  /-- SYS_HANDLER_PC (D56, D60), the vector CREATE.FUN gives a new funnel. -/
  sysHandlerPc : Addr
  /-- DEBUGGER_PC (D50). -/
  debuggerPc : Addr
  /-- FSQR_OPCODES (D36). -/
  fsqrOpcodes : List FsqrOpcode
  /-- MSG_BUFFER_LIMIT (R55): the queued messages the system's buffers hold, none for an unbounded pool. -/
  msgBufferLimit : Option Nat
  /-- MUL's overflow message has product bits 64 to 127 in its low word and zero in the high (R724), or else the wrapped
  product in its low word and those bits in the high (R275; notes/assumptions/47.md). -/
  mulHighInLow : Bool
  /-- NUM_CPUS, NUM_IOPS, MEM_BYTES (R9): no rule of one process reads them. -/
  numCpus : Nat
  numIops : Nat
  memBytes : Nat
deriving DecidableEq, Repr

/-- The mode-0 short opcode nibbles that other instructions hold (R170). -/
def bank0Taken : List Nib := [1, 3, 4, 5, 0xA, 0xB, 0xD, 0xE]

/-- The parameters give every encoding one instruction (R655, R670, R267). -/
def Params.valid (p : Params) : Bool :=
  p.opc.valid && decide (p.shortAdd64 ≠ 0) && decide (p.shortMul64 ≠ 0)
    && decide (p.shortAdd64 ≠ p.shortMul64)
    && decide (p.shortAdd64 ∉ bank0Taken) && decide (p.shortMul64 ∉ bank0Taken)

/-- The ranges of the system's size (R9, 93_implementation_defined.md part 2). -/
def Params.sizeValid (p : Params) : Bool :=
  decide (1 ≤ p.numCpus) && decide (p.numCpus ≤ 10) && decide (1 ≤ p.numIops) && decide (p.numIops ≤ 4)
    && decide (4 * 2 ^ 20 ≤ p.memBytes) && decide (p.memBytes ≤ 192 * 2 ^ 20)

/-- DESIGN CHOICE (unsafe; notes/assumptions/1.md): the lost nibbles, alphabetical over the free values. -/
def opcodes : OpcodeMap where
  attFunToChan := 0
  createFun := 1
  createLink := 2
  delFun := 3
  delMsg := 4
  disableChanInt := 5
  disableFun := 6
  enableChanInt := 7
  enableFun := 8
  sendToHardware := 0xB
  setFunIntVector := 0xC
  copyLink := 0
  passLink := 2
  rcv := 3
  rcvChan := 4
  rcvLink := 5
  rcvLinkOnChan := 6
  readFte := 7
  readLte := 8
  send := 9
  setLocalPri := 0xA
  readCpuTimer := 1
  readPme := 2
  readRealTimer := 4
  readStat := 5
  writeStat := 6

/-- The parameter values at reset: the defaults of 93_implementation_defined.md, and where it gives none
a DESIGN CHOICE (unsafe; notes/assumptions/1.md, 2.md, 3.md). -/
def params : Params where
  opc := opcodes
  impl603 := false
  impl700 := false
  impl701 := false
  impl809 := false
  impl80A := false
  impl80E := false
  sh91 := .w32
  sh87 := .w8
  sh8D := .w32
  shortAdd64 := 9
  shortMul64 := 8
  shortFsubr := true
  neg64YModes := false
  mmTouch := 0
  mmForce := 1
  mmCleanse := 2
  mmForceSync := false
  mmCleanseSync := false
  sysHandlerPc := 0x00050000
  debuggerPc := 0x00040000
  fsqrOpcodes := []
  msgBufferLimit := none
  mulHighInLow := true
  numCpus := 1
  numIops := 1
  memBytes := 4 * 2 ^ 20

/-- ENTRY_PC (D2). DESIGN CHOICE (unsafe; notes/assumptions/2.md). -/
def entryPc : Addr := 0x00010000
/-- STACK_BASE (D2). DESIGN CHOICE (unsafe; notes/assumptions/2.md). -/
def stackBase : Addr := 0x00080000
/-- DISPATCHER_PC (D60). DESIGN CHOICE (unsafe; notes/assumptions/2.md). -/
def dispatcherPc : Addr := 0x00030000
/-- INIT_CHAN_MASK (D8), channel 0 the most significant bit; the suggested default. -/
def initChanMask : BitVec 16 := 0xC000
/-- PROCESS_ID (R43). DESIGN CHOICE (unsafe; notes/assumptions/2.md). -/
def processId : BitVec 16 := 0x0042
/-- VERSION_ID (R43). DESIGN CHOICE (unsafe; notes/assumptions/2.md). -/
def versionId : BitVec 22 := 0
/-- MACH_ID (R42). DESIGN CHOICE (unsafe; notes/assumptions/2.md). -/
def machId : Word := 0

/-! ### Free values (93_implementation_defined.md part 1 and the environment inputs of part 2;
notes/assumptions/11.md). Nothing can evaluate them. The first argument is the state's counter `draws`,
which every step advances; `slot` tells the uses within one step apart. -/

/-- An arbitrary register word. -/
opaque freeWord (draw slot : Nat) : Word
/-- An arbitrary byte at an offset of a destination range (U9). -/
opaque freeByte (draw offset : Nat) : Byte
/-- An arbitrary truth value. -/
opaque freeBool (draw slot : Nat) : Bool
/-- An arbitrary choice, used modulo the number of choices. -/
opaque freePick (draw slot : Nat) : Nat
/-- The CPU timer's advance over one step (D10). -/
opaque cpuTicks (draw : Nat) : Nat
/-- The real-time clock's advance over one step (D11). -/
opaque clockTicks (draw : Nat) : Nat

end Sys2Proof.Config
end

