-- ==== Sys2Proof/Syntax.lean ====
section
/-! DEFINITION. The syntax of the instruction set: one constructor of `Instr` per mnemonic of
spec/opcode_table.json, the addressing mode of a row being part of the operand (R141, R150, R164).
Every nibble an instruction carries stands in the syntax, the ignored ones too, so that an encoding
drops no bit (an exception message holds the instruction as it stood in memory, R722). -/

namespace Sys2Proof

/-- The operand fields of a generalized or short-op instruction, by addressing mode (R150). `u` is a
nibble the mode requires and ignores (R148). -/
inductive GOp
  /-- Mode 0, register (short): `op Rx,Rw`. -/
  | m0 (w x : Reg)
  /-- Mode 1, register (short): `op Rx,Rw`. -/
  | m1 (w x : Reg)
  /-- Mode 3, register: `op Rx,Ry,Rz`. -/
  | m3 (x y z : Reg)
  /-- Mode 4, absolute 16-bit address: `op Rx,e`. -/
  | m4 (x : Reg) (addr : BitVec 16)
  /-- Mode 5, 12-bit immediate: `op Rx,Ry,=e`. -/
  | m5 (x y : Reg) (imm : BitVec 12)
  /-- Mode 6, absolute 32-bit address: `op Rx,Ry,e`. -/
  | m6 (x y : Reg) (u : Nib) (addr : BitVec 32)
  /-- Mode 7, 32-bit immediate: `op Rx,Ry,=e`. -/
  | m7 (x y : Reg) (u : Nib) (imm : BitVec 32)
  /-- Mode 8, stack relative (short): `op Rx,[SP]4n`. -/
  | m8 (n : Nib) (x : Reg)
  /-- Mode 9, stack relative (short): `op Rx,[SP]4n`. -/
  | m9 (n : Nib) (x : Reg)
  /-- Mode A, base (short): `op Rx,[Rw]`. -/
  | mA (w x : Reg)
  /-- Mode B, base: `op Rx,Ry,[Rz]`. -/
  | mB (x y z : Reg)
  /-- Mode C, base and index: `op Rx,[Ry][Rz]`. -/
  | mC (x y z : Reg)
  /-- Mode D, base and 12-bit displacement: `op Rx,[Ry]e`. -/
  | mD (x y : Reg) (disp : BitVec 12)
  /-- Mode E, base, index and 32-bit displacement: `op Rx,[Ry][Rz]e`. -/
  | mE (x y z : Reg) (disp : BitVec 32)
  /-- Mode F, base and 32-bit displacement: `op Rx,Ry,[Rz]e`. -/
  | mF (x y z : Reg) (disp : BitVec 32)
deriving DecidableEq, Repr

/-- The addressing-mode nibble (R141). -/
def GOp.mode : GOp → Nat
  | .m0 .. => 0
  | .m1 .. => 1
  | .m3 .. => 3
  | .m4 .. => 4
  | .m5 .. => 5
  | .m6 .. => 6
  | .m7 .. => 7
  | .m8 .. => 8
  | .m9 .. => 9
  | .mA .. => 10
  | .mB .. => 11
  | .mC .. => 12
  | .mD .. => 13
  | .mE .. => 14
  | .mF .. => 15

/-- The relational appendage (R431): the compare condition field and the 12 action bits. -/
structure App where
  ccf : BitVec 4
  act : BitVec 12
deriving DecidableEq, Repr

/-- The bit-field appendage (R210, R212): two bytes, each two ignored bits and a 6-bit value; `start` is
the first bit, `len` the length (INSERT) or 64 minus the length (EXTRACT, EXTRACTZ). -/
structure FieldApp where
  u0 : BitVec 2
  start : BitVec 6
  u1 : BitVec 2
  len : BitVec 6
deriving DecidableEq, Repr

/-- The instructions, in the order of spec/opcode_table.json. `o` holds the operand fields of a
generalized instruction, `a` its appendage; `u` is an ignored field; `b` an 8-bit literal; `d` a 32-bit
displacement. A register field the instruction ignores stays a field (R145). -/
inductive Instr
  /-- LD.8 (R201). -/
  | ld8 (o : GOp)
  /-- LD.16 (R201). -/
  | ld16 (o : GOp)
  /-- LD.32 (R201). -/
  | ld32 (o : GOp)
  /-- LD.64 (R201). -/
  | ld64 (o : GOp)
  /-- LDZ.8 (R202). -/
  | ldz8 (o : GOp)
  /-- LDZ.16 (R202). -/
  | ldz16 (o : GOp)
  /-- LDZ.24 (R202). -/
  | ldz24 (o : GOp)
  /-- LDZ.32 (R202). -/
  | ldz32 (o : GOp)
  /-- LDZ.40 (R202). -/
  | ldz40 (o : GOp)
  /-- LDZ.48 (R202). -/
  | ldz48 (o : GOp)
  /-- LDZ.56 (R202). -/
  | ldz56 (o : GOp)
  /-- ST.8 (R204). -/
  | st8 (o : GOp)
  /-- ST.16 (R204). -/
  | st16 (o : GOp)
  /-- ST.24 (R204). -/
  | st24 (o : GOp)
  /-- ST.32 (R204). -/
  | st32 (o : GOp)
  /-- ST.40 (R204). -/
  | st40 (o : GOp)
  /-- ST.48 (R204). -/
  | st48 (o : GOp)
  /-- ST.56 (R204). -/
  | st56 (o : GOp)
  /-- ST.64 (R204). -/
  | st64 (o : GOp)
  /-- STV.8 (R207). -/
  | stv8 (o : GOp)
  /-- STV.16 (R207). -/
  | stv16 (o : GOp)
  /-- STV.32 (R207). -/
  | stv32 (o : GOp)
  /-- STI.8 (R208). -/
  | sti8 (o : GOp)
  /-- STI.16 (R208). -/
  | sti16 (o : GOp)
  /-- STI.32 (R208). -/
  | sti32 (o : GOp)
  /-- STI.64 (R208). -/
  | sti64 (o : GOp)
  /-- STIN.8 (R209). -/
  | stin8 (o : GOp)
  /-- STIN.16 (R209). -/
  | stin16 (o : GOp)
  /-- STIN.32 (R209). -/
  | stin32 (o : GOp)
  /-- STIN.64 (R209). -/
  | stin64 (o : GOp)
  /-- EXTRACT (R210). -/
  | extract (x : Reg) (y : Reg) (z : Reg) (f : FieldApp)
  /-- EXTRACTZ (R211). -/
  | extractz (x : Reg) (y : Reg) (z : Reg) (f : FieldApp)
  /-- INSERT (R212). -/
  | insert (x : Reg) (y : Reg) (z : Reg) (f : FieldApp)
  /-- EXCH (R241). -/
  | exch (x : Reg) (y : Reg) (z : Reg)
  /-- EXCH.AND (R242). -/
  | exchAnd (x : Reg) (y : Reg) (z : Reg)
  /-- EXCH.OR (R243). -/
  | exchOr (x : Reg) (y : Reg) (z : Reg)
  /-- COPYB (R245). -/
  | copyb (x : Reg) (y : Reg) (z : Reg)
  /-- COPYB.CONST (R246). -/
  | copybConst (x : Reg) (y : Reg) (z : Reg)
  /-- ADD.16 (R264). -/
  | add16 (o : GOp)
  /-- ADD.32 (R264). -/
  | add32 (o : GOp)
  /-- ADD.64 (R264). -/
  | add64 (o : GOp)
  /-- ADDUC.64 (R265). -/
  | adduc64 (o : GOp)
  /-- ADDI.64 (R266). -/
  | addi64 (o : GOp)
  /-- DIV.16 (R270). -/
  | div16 (o : GOp)
  /-- DIV.32 (R270). -/
  | div32 (o : GOp)
  /-- DIV.64 (R270). -/
  | div64 (o : GOp)
  /-- DIVR.16 (R271). -/
  | divr16 (o : GOp)
  /-- DIVR.32 (R271). -/
  | divr32 (o : GOp)
  /-- DIVR.64 (R271). -/
  | divr64 (o : GOp)
  /-- REM.16 (R283). -/
  | rem16 (o : GOp)
  /-- REM.32 (R283). -/
  | rem32 (o : GOp)
  /-- REM.64 (R283). -/
  | rem64 (o : GOp)
  /-- REMR.16 (R284). -/
  | remr16 (o : GOp)
  /-- REMR.32 (R284). -/
  | remr32 (o : GOp)
  /-- REMR.64 (R284). -/
  | remr64 (o : GOp)
  /-- MUL.16 (R275). -/
  | mul16 (o : GOp)
  /-- MUL.32 (R275). -/
  | mul32 (o : GOp)
  /-- MUL.64 (R275). -/
  | mul64 (o : GOp)
  /-- MUL.128 (R276). -/
  | mul128 (x : Reg) (y : Reg) (z : Reg)
  /-- MULU.128 (R277). -/
  | mulu128 (x : Reg) (y : Reg) (z : Reg)
  /-- NEG.16 (R280). -/
  | neg16 (o : GOp)
  /-- NEG.32 (R280). -/
  | neg32 (o : GOp)
  /-- NEG.64 (R280). -/
  | neg64 (o : GOp)
  /-- SUB.16 (R290). -/
  | sub16 (o : GOp)
  /-- SUB.32 (R290). -/
  | sub32 (o : GOp)
  /-- SUB.64 (R290). -/
  | sub64 (o : GOp)
  /-- SUBR.16 (R291). -/
  | subr16 (o : GOp)
  /-- SUBR.32 (R291). -/
  | subr32 (o : GOp)
  /-- SUBR.64 (R291). -/
  | subr64 (o : GOp)
  /-- SUBUC.64 (R292). -/
  | subuc64 (o : GOp)
  /-- SUBUCR.64 (R293). -/
  | subucr64 (o : GOp)
  /-- SUBI.64 (R295). -/
  | subi64 (o : GOp)
  /-- SLA (R300). -/
  | sla (o : GOp)
  /-- SRA (R301). -/
  | sra (o : GOp)
  /-- FADD.32 (R330). -/
  | fadd32 (o : GOp)
  /-- FADD.64 (R330). -/
  | fadd64 (o : GOp)
  /-- FADD.80 (R331). -/
  | fadd80 (x : Reg) (y : Reg) (z : Reg)
  /-- FSUB.32 (R333). -/
  | fsub32 (o : GOp)
  /-- FSUB.64 (R333). -/
  | fsub64 (o : GOp)
  /-- FSUBR.32 (R334). -/
  | fsubr32 (o : GOp)
  /-- FSUBR.64 (R334). -/
  | fsubr64 (o : GOp)
  /-- FSUB.80 (R335). -/
  | fsub80 (x : Reg) (y : Reg) (z : Reg)
  /-- FMUL.32 (R340). -/
  | fmul32 (o : GOp)
  /-- FMUL.64 (R340). -/
  | fmul64 (o : GOp)
  /-- FMUL.80 (R341). -/
  | fmul80 (x : Reg) (y : Reg) (z : Reg)
  /-- FDIV.32 (R345). -/
  | fdiv32 (o : GOp)
  /-- FDIV.64 (R345). -/
  | fdiv64 (o : GOp)
  /-- FDIVR.32 (R346). -/
  | fdivr32 (o : GOp)
  /-- FDIVR.64 (R346). -/
  | fdivr64 (o : GOp)
  /-- FDIV.80 (R347). -/
  | fdiv80 (x : Reg) (y : Reg) (z : Reg)
  /-- FREM.32 (R350). -/
  | frem32 (x : Reg) (y : Reg) (z : Reg)
  /-- FREM.64 (R350). -/
  | frem64 (x : Reg) (y : Reg) (z : Reg)
  /-- FREM.80 (R350). -/
  | frem80 (x : Reg) (y : Reg) (z : Reg)
  /-- ASCII.ADD (R372). -/
  | asciiAdd (x : Reg) (y : Reg) (z : Reg)
  /-- ASCII.ADDC (R373). -/
  | asciiAddc (x : Reg) (y : Reg) (z : Reg)
  /-- ASCII.SUB (R374). -/
  | asciiSub (x : Reg) (y : Reg) (z : Reg) (t : Reg) (u : Nib)
  /-- ASCII.SUBC (R375). -/
  | asciiSubc (x : Reg) (y : Reg) (z : Reg)
  /-- AND (R391). -/
  | logAnd (o : GOp)
  /-- OR (R392). -/
  | logOr (o : GOp)
  /-- NOT (R393). -/
  | logNot (o : GOp)
  /-- XOR (R394). -/
  | logXor (o : GOp)
  /-- SET.BIT (R395). -/
  | setBit (x : Reg) (b : BitVec 8)
  /-- CLEAR.BIT (R396). -/
  | clearBit (x : Reg) (b : BitVec 8)
  /-- TOGGLE.BIT (R397). -/
  | toggleBit (x : Reg) (b : BitVec 8)
  /-- FIND.FIRST (R398). -/
  | findFirst (o : GOp)
  /-- ROL (R400). -/
  | rol (o : GOp)
  /-- ROR (R401). -/
  | ror (o : GOp)
  /-- SLL (R402). -/
  | sll (o : GOp)
  /-- SRL (R403). -/
  | srl (o : GOp)
  /-- SLL1.16 (R410). -/
  | sll1w16 (o : GOp)
  /-- SLL1.32 (R410). -/
  | sll1w32 (o : GOp)
  /-- SLL1.64 (R410). -/
  | sll1w64 (o : GOp)
  /-- SLL2.16 (R411). -/
  | sll2w16 (o : GOp)
  /-- SLL2.32 (R411). -/
  | sll2w32 (o : GOp)
  /-- SLL2.64 (R411). -/
  | sll2w64 (o : GOp)
  /-- SLL3.16 (R413). -/
  | sll3w16 (o : GOp)
  /-- SLL3.32 (R413). -/
  | sll3w32 (o : GOp)
  /-- SLL3.64 (R413). -/
  | sll3w64 (o : GOp)
  /-- CMP.BR.8 (R435). -/
  | cmpBr8 (o : GOp) (a : App)
  /-- CMP.BR.16 (R435). -/
  | cmpBr16 (o : GOp) (a : App)
  /-- CMP.BR.32 (R435). -/
  | cmpBr32 (o : GOp) (a : App)
  /-- CMP.BR.64 (R435). -/
  | cmpBr64 (o : GOp) (a : App)
  /-- CMPU.BR.8 (R436). -/
  | cmpuBr8 (o : GOp) (a : App)
  /-- CMPU.BR.16 (R436). -/
  | cmpuBr16 (o : GOp) (a : App)
  /-- CMPU.BR.32 (R436). -/
  | cmpuBr32 (o : GOp) (a : App)
  /-- CMPU.BR.64 (R436). -/
  | cmpuBr64 (o : GOp) (a : App)
  /-- CMP.8 (R437). -/
  | cmp8 (o : GOp) (a : App)
  /-- CMP.16 (R437). -/
  | cmp16 (o : GOp) (a : App)
  /-- CMP.32 (R437). -/
  | cmp32 (o : GOp) (a : App)
  /-- CMP.64 (R437). -/
  | cmp64 (o : GOp) (a : App)
  /-- CMPU.8 (R438). -/
  | cmpu8 (o : GOp) (a : App)
  /-- CMPU.16 (R438). -/
  | cmpu16 (o : GOp) (a : App)
  /-- CMPU.32 (R438). -/
  | cmpu32 (o : GOp) (a : App)
  /-- CMPU.64 (R438). -/
  | cmpu64 (o : GOp) (a : App)
  /-- FCMP.BR.32 (R441). -/
  | fcmpBr32 (o : GOp) (a : App)
  /-- FCMP.BR.64 (R441). -/
  | fcmpBr64 (o : GOp) (a : App)
  /-- FCMPX.BR.32 (R442). -/
  | fcmpxBr32 (o : GOp) (a : App)
  /-- FCMPX.BR.64 (R442). -/
  | fcmpxBr64 (o : GOp) (a : App)
  /-- FCMP.32 (R445). -/
  | fcmp32 (o : GOp) (a : App)
  /-- FCMP.64 (R445). -/
  | fcmp64 (o : GOp) (a : App)
  /-- FCMPX.32 (R446). -/
  | fcmpx32 (o : GOp) (a : App)
  /-- FCMPX.64 (R446). -/
  | fcmpx64 (o : GOp) (a : App)
  /-- FCMP.80 (R447). -/
  | fcmp80 (x : Reg) (y : Reg) (z : Reg) (a : App)
  /-- FCMP.BR.80 (R443). -/
  | fcmpBr80 (x : Reg) (y : Reg) (z : Reg) (a : App)
  /-- FCMPX.80 (R448). -/
  | fcmpx80 (x : Reg) (y : Reg) (z : Reg) (a : App)
  /-- FCMPX.BR.80 (R444). -/
  | fcmpxBr80 (x : Reg) (y : Reg) (z : Reg) (a : App)
  /-- CMPB.BR (R450). -/
  | cmpbBr (x : Reg) (y : Reg) (z : Reg) (a : App)
  /-- CMPB.BR.CONST (R451). -/
  | cmpbBrConst (x : Reg) (y : Reg) (z : Reg) (a : App)
  /-- CMPB.TEST (R452). -/
  | cmpbTest (x : Reg) (y : Reg) (z : Reg)
  /-- CVT.DE (R486). -/
  | cvtDe (o : GOp)
  /-- CVT.DI (R487). -/
  | cvtDi (o : GOp)
  /-- CVT.DS (R488). -/
  | cvtDs (o : GOp)
  /-- CVT.ID (R492). -/
  | cvtId (o : GOp)
  /-- CVT.IS (R493). -/
  | cvtIs (o : GOp)
  /-- CVT.SD (R495). -/
  | cvtSd (o : GOp)
  /-- CVT.SI (R496). -/
  | cvtSi (o : GOp)
  /-- CVT.SE (R497). -/
  | cvtSe (o : GOp)
  /-- FINP.32 (R498). -/
  | finp32 (o : GOp)
  /-- FINP.64 (R498). -/
  | finp64 (o : GOp)
  /-- CVT.AI (R484). -/
  | cvtAi (x : Reg) (y : Reg) (z : Reg)
  /-- CVT.IA (R485). -/
  | cvtIa (x : Reg) (y : Reg) (z : Reg)
  /-- CVT.IE (R494). -/
  | cvtIe (x : Reg) (y : Reg) (z : Reg)
  /-- CVT.EI (R490). -/
  | cvtEi (x : Reg) (y : Reg) (z : Reg)
  /-- CVT.ES (R491). -/
  | cvtEs (x : Reg) (y : Reg) (z : Reg)
  /-- CVT.ED (R489). -/
  | cvtEd (x : Reg) (y : Reg) (z : Reg)
  /-- FINP.80 (R499). -/
  | finp80 (x : Reg) (y : Reg) (z : Reg)
  /-- BR.ABS (R522). -/
  | brAbs (u : BitVec 12) (d : BitVec 32)
  /-- BR.REL (R523). -/
  | brRel (u : BitVec 12) (d : BitVec 32)
  /-- BR.BACKWARD (R524). -/
  | brBackward (b : BitVec 8)
  /-- BR.FORWARD (R525). -/
  | brForward (b : BitVec 8)
  /-- BR.GT.ABS (R526). -/
  | brGtAbs (x : Reg) (u : BitVec 8) (d : BitVec 32)
  /-- BR.GT.REL (R532). -/
  | brGtRel (x : Reg) (u : BitVec 8) (d : BitVec 32)
  /-- BR.B.GT.SH.REL (R538). -/
  | brBGtShRel (x : Reg) (b : BitVec 8)
  /-- BR.F.GT.SH.REL (R560). -/
  | brFGtShRel (x : Reg) (b : BitVec 8)
  /-- BR.EQ.ABS (R527). -/
  | brEqAbs (x : Reg) (u : BitVec 8) (d : BitVec 32)
  /-- BR.EQ.REL (R533). -/
  | brEqRel (x : Reg) (u : BitVec 8) (d : BitVec 32)
  /-- BR.B.EQ.SH.REL (R539). -/
  | brBEqShRel (x : Reg) (b : BitVec 8)
  /-- BR.F.EQ.SH.REL (R561). -/
  | brFEqShRel (x : Reg) (b : BitVec 8)
  /-- BR.GE.ABS (R528). -/
  | brGeAbs (x : Reg) (u : BitVec 8) (d : BitVec 32)
  /-- BR.GE.REL (R534). -/
  | brGeRel (x : Reg) (u : BitVec 8) (d : BitVec 32)
  /-- BR.B.GE.SH.REL (R540). -/
  | brBGeShRel (x : Reg) (b : BitVec 8)
  /-- BR.F.GE.SH.REL (R562). -/
  | brFGeShRel (x : Reg) (b : BitVec 8)
  /-- BR.LT.ABS (R529). -/
  | brLtAbs (x : Reg) (u : BitVec 8) (d : BitVec 32)
  /-- BR.LT.REL (R535). -/
  | brLtRel (x : Reg) (u : BitVec 8) (d : BitVec 32)
  /-- BR.B.LT.SH.REL (R541). -/
  | brBLtShRel (x : Reg) (b : BitVec 8)
  /-- BR.F.LT.SH.REL (R563). -/
  | brFLtShRel (x : Reg) (b : BitVec 8)
  /-- BR.NE.ABS (R530). -/
  | brNeAbs (x : Reg) (u : BitVec 8) (d : BitVec 32)
  /-- BR.NE.REL (R536). -/
  | brNeRel (x : Reg) (u : BitVec 8) (d : BitVec 32)
  /-- BR.B.NE.SH.REL (R542). -/
  | brBNeShRel (x : Reg) (b : BitVec 8)
  /-- BR.F.NE.SH.REL (R564). -/
  | brFNeShRel (x : Reg) (b : BitVec 8)
  /-- BR.LE.ABS (R531). -/
  | brLeAbs (x : Reg) (u : BitVec 8) (d : BitVec 32)
  /-- BR.LE.REL (R537). -/
  | brLeRel (x : Reg) (u : BitVec 8) (d : BitVec 32)
  /-- BR.B.LE.SH.REL (R543). -/
  | brBLeShRel (x : Reg) (b : BitVec 8)
  /-- BR.F.LE.SH.REL (R565). -/
  | brFLeShRel (x : Reg) (b : BitVec 8)
  /-- BR.REG (R545). -/
  | brReg (x : Reg)
  /-- CALL (R546). -/
  | call (u : BitVec 12) (d : BitVec 32)
  /-- CALL.REG (R548). -/
  | callReg (x : Reg) (u : BitVec 8) (d : BitVec 32)
  /-- EXIT (R549). -/
  | exit (u : Nib) (b : BitVec 8)
  /-- IXIT (R557). -/
  | ixit (u : Nib) (b : BitVec 8)
  /-- BXIT (R556). -/
  | bxit (u : Nib) (b : BitVec 8)
  /-- BREAKPOINT (R554). -/
  | breakpoint
  /-- EXCEPTION (R555). -/
  | exception (x : Reg) (y : Reg) (z : Reg)
  /-- EXCH.LINK.FORWARD (R631). -/
  | exchLinkForward (x : Reg) (y : Reg) (z : Reg)
  /-- FORWARD.MSG (R630). -/
  | forwardMsg (x : Reg) (y : Reg) (z : Reg)
  /-- SEND.SMALL.MSG (R612). -/
  | sendSmallMsg (x : Reg) (y : Reg) (z : Reg)
  /-- DEL.LINK (R605). -/
  | delLink (x : Reg) (y : Reg) (z : Reg) (t : Reg) (v : Reg)
  /-- ATT.FUN.TO.CHAN (R602). -/
  | attFunToChan (x : Reg) (y : Reg) (z : Reg)
  /-- CREATE.FUN (R601). -/
  | createFun (x : Reg) (y : Reg) (z : Reg)
  /-- CREATE.LINK (R600). -/
  | createLink (x : Reg) (y : Reg) (z : Reg)
  /-- DEL.FUN (R606). -/
  | delFun (x : Reg) (y : Reg) (z : Reg)
  /-- DEL.MSG (R633). -/
  | delMsg (x : Reg) (y : Reg) (z : Reg)
  /-- DISABLE.CHAN.INT (R642). -/
  | disableChanInt (x : Reg) (y : Reg) (z : Reg)
  /-- DISABLE.FUN (R636). -/
  | disableFun (x : Reg) (y : Reg) (z : Reg)
  /-- ENABLE.CHAN.INT (R643). -/
  | enableChanInt (x : Reg) (y : Reg) (z : Reg)
  /-- ENABLE.FUN (R635). -/
  | enableFun (x : Reg) (y : Reg) (z : Reg)
  /-- SEND.TO.HARDWARE (R613). -/
  | sendToHardware (x : Reg) (y : Reg) (z : Reg)
  /-- SET.FUN.INT.VECTOR (R644). -/
  | setFunIntVector (x : Reg) (y : Reg) (z : Reg)
  /-- COPY.LINK (R614). -/
  | copyLink (x : Reg) (y : Reg) (z : Reg) (t : Reg) (v : Reg)
  /-- PASS.LINK (R615). -/
  | passLink (x : Reg) (y : Reg) (z : Reg) (t : Reg) (v : Reg)
  /-- RCV (R621). -/
  | rcv (x : Reg) (y : Reg) (z : Reg) (t : Reg) (v : Reg)
  /-- RCV.CHAN (R622). -/
  | rcvChan (x : Reg) (y : Reg) (z : Reg) (t : Reg) (v : Reg)
  /-- RCV.LINK (R623). -/
  | rcvLink (x : Reg) (y : Reg) (z : Reg) (t : Reg) (v : Reg)
  /-- RCV.LINK.ON.CHAN (R624). -/
  | rcvLinkOnChan (x : Reg) (y : Reg) (z : Reg) (t : Reg) (v : Reg)
  /-- READ.FTE (R650). -/
  | readFte (x : Reg) (y : Reg) (z : Reg) (t : Reg) (v : Reg)
  /-- READ.LTE (R651). -/
  | readLte (x : Reg) (y : Reg) (z : Reg) (t : Reg) (v : Reg)
  /-- SEND (R611). -/
  | send (x : Reg) (y : Reg) (z : Reg) (t : Reg) (v : Reg)
  /-- SET.LOCAL.PRI (R645). -/
  | setLocalPri (x : Reg) (y : Reg) (z : Reg) (t : Reg) (v : Reg)
  /-- NOP (R680). -/
  | nop
  /-- READ.MACH.ID (R675). -/
  | readMachId (x : Reg)
  /-- MEMORY.MAN (R671). -/
  | memoryMan (x : Reg) (y : Reg) (z : Reg)
  /-- MODIFY.PME (R673). -/
  | modifyPme (x : Reg) (y : Reg) (z : Reg)
  /-- READ.CPU.TIMER (R674). -/
  | readCpuTimer (x : Reg)
  /-- READ.PME (R676). -/
  | readPme (x : Reg)
  /-- READ.REAL.TIMER (R677). -/
  | readRealTimer (x : Reg)
  /-- READ.STAT (R678). -/
  | readStat (x : Reg)
  /-- WRITE.STAT (R679). -/
  | writeStat (x : Reg)
deriving DecidableEq, Repr

end Sys2Proof
end

