-- ==== Sys2Proof/WellFormed.lean ====
section
/-! DEFINITION. Which instructions exist (30_encoding.md R148, R170; opcode_table.json): the addressing modes
of each generalized operation. A mode that appears in no opcode table, or that an open parameter takes away
(R203, R206, R267, R280, R334, R412), is no instruction. -/

namespace Sys2Proof

open Config

/-- The operation is listed for the operand's addressing mode. -/
def modeIn (ms : List Nat) (o : GOp) : Bool := decide (o.mode ∈ ms)

/-- An instruction of the opcode table, under the open parameters `p`. -/
def Instr.wellFormed (p : Params) : Instr → Bool
  | .ld8 o => modeIn [4, 6, 11, 12, 13, 14, 15] o
  | .ld16 o => modeIn [4, 6, 11, 12, 13, 14, 15] o
  | .ld32 o => modeIn [4, 6, 8, 10, 11, 12, 13, 14, 15] o
  | .ld64 o => modeIn [0, 3, 4, 5, 6, 11, 12, 13, 14, 15] o
  | .ldz8 o => modeIn [4, 6, 11, 12, 13, 14, 15] o || (decide (p.sh91 = .w8) && modeIn [9] o)
  | .ldz16 o => modeIn [4, 6, 11, 12, 13, 14, 15] o
  | .ldz24 o => modeIn [4, 6, 11, 12, 13, 14, 15] o
  | .ldz32 o => modeIn [4, 6, 11, 12, 13, 14, 15] o || (decide (p.sh91 = .w32) && modeIn [9] o)
  | .ldz40 o => modeIn [4, 6, 11, 12, 13, 14, 15] o
  | .ldz48 o => modeIn [4, 6, 11, 12, 13, 14, 15] o
  | .ldz56 o => modeIn [4, 6, 11, 12, 13, 14, 15] o
  | .st8 o => modeIn [4, 6, 11, 12, 13, 14, 15] o || (decide (p.sh87 = .w8) && modeIn [8] o)
  | .st16 o => modeIn [4, 6, 11, 12, 13, 14, 15] o
  | .st24 o => modeIn [4, 6, 11, 12, 13, 14, 15] o
  | .st32 o => modeIn [4, 6, 8, 10, 11, 12, 13, 14, 15] o
  | .st40 o => modeIn [4, 6, 11, 12, 13, 14, 15] o
  | .st48 o => modeIn [4, 6, 11, 12, 13, 14, 15] o
  | .st56 o => modeIn [4, 6, 11, 12, 13, 14, 15] o
  | .st64 o => modeIn [4, 6, 11, 12, 13, 14, 15] o || (decide (p.sh87 = .w64) && modeIn [8] o)
  | .stv8 o => modeIn [4, 6, 11, 12, 13, 14, 15] o
  | .stv16 o => modeIn [4, 6, 11, 12, 13, 14, 15] o
  | .stv32 o => modeIn [4, 6, 9, 10, 11, 12, 13, 14, 15] o
  | .sti8 o => modeIn [4, 6, 11, 12, 13, 14, 15] o
  | .sti16 o => modeIn [4, 6, 11, 12, 13, 14, 15] o
  | .sti32 o => modeIn [4, 6, 8, 11, 12, 13, 14, 15] o
  | .sti64 o => modeIn [0, 3, 4, 6, 11, 12, 13, 14, 15] o
  | .stin8 o => modeIn [4, 6, 11, 12, 13, 14, 15] o
  | .stin16 o => modeIn [4, 6, 11, 12, 13, 14, 15] o
  | .stin32 o => modeIn [4, 6, 11, 12, 13, 14, 15] o
  | .stin64 o => modeIn [1, 3, 4, 6, 11, 12, 13, 14, 15] o
  | .extract .. => true
  | .extractz .. => true
  | .insert .. => true
  | .exch .. => true
  | .exchAnd .. => true
  | .exchOr .. => true
  | .copyb .. => true
  | .copybConst .. => true
  | .add16 o => modeIn [4, 6, 11, 12, 13, 14, 15] o
  | .add32 o => modeIn [4, 6, 8, 10, 11, 12, 13, 14, 15] o
  | .add64 o => modeIn [0, 3, 4, 5, 6, 7, 11, 12, 13, 14, 15] o
  | .adduc64 o => modeIn [3, 4, 5, 6, 7, 11, 12, 13, 14, 15] o
  | .addi64 o => modeIn [0] o
  | .div16 o => modeIn [4, 6, 11, 12, 13, 14, 15] o
  | .div32 o => modeIn [4, 6, 11, 12, 13, 14, 15] o
  | .div64 o => modeIn [3, 4, 5, 6, 7, 11, 12, 13, 14, 15] o
  | .divr16 o => modeIn [4, 6, 11, 12, 13, 14, 15] o
  | .divr32 o => modeIn [4, 6, 11, 12, 13, 14, 15] o
  | .divr64 o => modeIn [4, 5, 6, 7, 11, 12, 13, 14, 15] o
  | .rem16 o => modeIn [4, 6, 11, 12, 13, 14, 15] o
  | .rem32 o => modeIn [4, 6, 11, 12, 13, 14, 15] o
  | .rem64 o => modeIn [3, 4, 5, 6, 7, 11, 12, 13, 14, 15] o
  | .remr16 o => modeIn [4, 6, 11, 12, 13, 14, 15] o
  | .remr32 o => modeIn [4, 6, 11, 12, 13, 14, 15] o
  | .remr64 o => modeIn [4, 5, 6, 7, 11, 12, 13, 14, 15] o
  | .mul16 o => modeIn [4, 6, 11, 12, 13, 14, 15] o
  | .mul32 o => modeIn [4, 6, 11, 12, 13, 14, 15] o
  | .mul64 o => modeIn [0, 3, 4, 5, 6, 7, 11, 12, 13, 14, 15] o
  | .mul128 .. => true
  | .mulu128 .. => true
  | .neg16 o => modeIn [4, 6, 11, 12, 13, 14, 15] o
  | .neg32 o => modeIn [4, 6, 11, 12, 13, 14, 15] o
  | .neg64 o => modeIn [3, 4, 12, 13, 14] o || (p.neg64YModes && modeIn [6, 11, 15] o)
  | .sub16 o => modeIn [4, 6, 11, 12, 13, 14, 15] o
  | .sub32 o => modeIn [4, 6, 8, 10, 11, 12, 13, 14, 15] o
  | .sub64 o => modeIn [0, 3, 4, 5, 6, 7, 11, 12, 13, 14, 15] o
  | .subr16 o => modeIn [4, 6, 11, 12, 13, 14, 15] o
  | .subr32 o => modeIn [4, 6, 8, 10, 11, 12, 13, 14, 15] o
  | .subr64 o => modeIn [0, 4, 5, 6, 7, 11, 12, 13, 14, 15] o
  | .subuc64 o => modeIn [3, 4, 5, 6, 7, 11, 12, 13, 14, 15] o
  | .subucr64 o => modeIn [4, 5, 6, 7, 11, 12, 13, 14, 15] o
  | .subi64 o => modeIn [1] o
  | .sla o => modeIn [3, 5, 7] o
  | .sra o => modeIn [3, 5, 7] o
  | .fadd32 o => modeIn [1, 3, 4, 6, 7, 9, 11, 12, 13, 14, 15] o
  | .fadd64 o => modeIn [1, 3, 4, 6, 11, 12, 13, 14, 15] o
  | .fadd80 .. => true
  | .fsub32 o => modeIn [1, 3, 4, 6, 7, 9, 11, 12, 13, 14, 15] o
  | .fsub64 o => modeIn [1, 3, 4, 6, 11, 12, 13, 14, 15] o
  | .fsubr32 o => modeIn [4, 6, 7, 11, 12, 13, 14, 15] o || (p.shortFsubr && modeIn [1, 9] o)
  | .fsubr64 o => modeIn [4, 6, 11, 12, 13, 14, 15] o || (p.shortFsubr && modeIn [1] o)
  | .fsub80 .. => true
  | .fmul32 o => modeIn [1, 3, 4, 6, 7, 9, 11, 12, 13, 14, 15] o
  | .fmul64 o => modeIn [1, 3, 4, 6, 11, 12, 13, 14, 15] o
  | .fmul80 .. => true
  | .fdiv32 o => modeIn [3, 4, 6, 7, 11, 12, 13, 14, 15] o
  | .fdiv64 o => modeIn [3, 4, 6, 11, 12, 13, 14, 15] o
  | .fdivr32 o => modeIn [4, 6, 7, 11, 12, 13, 14, 15] o
  | .fdivr64 o => modeIn [4, 6, 11, 12, 13, 14, 15] o
  | .fdiv80 .. => true
  | .frem32 .. => true
  | .frem64 .. => true
  | .frem80 .. => true
  | .asciiAdd .. => true
  | .asciiAddc .. => true
  | .asciiSub .. => true
  | .asciiSubc .. => true
  | .logAnd o => modeIn [3, 4, 5, 6, 7, 11, 12, 13, 14, 15] o
  | .logOr o => modeIn [3, 4, 5, 6, 7, 11, 12, 13, 14, 15] o
  | .logNot o => modeIn [3, 4, 6, 11, 12, 13, 14, 15] o
  | .logXor o => modeIn [3, 4, 5, 6, 7, 11, 12, 13, 14, 15] o
  | .setBit .. => true
  | .clearBit .. => true
  | .toggleBit .. => true
  | .findFirst o => modeIn [3, 4, 6, 11, 12, 13, 14, 15] o
  | .rol o => modeIn [3, 5, 7] o
  | .ror o => modeIn [3, 5, 7] o
  | .sll o => modeIn [3, 5, 7] o
  | .srl o => modeIn [3, 5, 7] o
  | .sll1w16 o => modeIn [3, 4, 6, 11, 12, 13, 14, 15] o
  | .sll1w32 o => modeIn [3, 4, 6, 11, 12, 13, 14, 15] o
  | .sll1w64 o => modeIn [3, 4, 6, 11, 12, 13, 14, 15] o
  | .sll2w16 o => modeIn [3, 4, 6, 11, 12, 13, 14, 15] o
  | .sll2w32 o => modeIn [3, 4, 6, 11, 12, 13, 14, 15] o || (decide (p.sh8D = .w32) && modeIn [8] o)
  | .sll2w64 o => modeIn [0, 3, 4, 6, 11, 12, 13, 14, 15] o || (decide (p.sh8D = .w64) && modeIn [8] o)
  | .sll3w16 o => modeIn [3, 4, 6, 11, 12, 13, 14, 15] o
  | .sll3w32 o => modeIn [3, 4, 6, 8, 11, 12, 13, 14, 15] o
  | .sll3w64 o => modeIn [0, 3, 4, 6, 11, 12, 13, 14, 15] o
  | .cmpBr8 o _ => modeIn [4, 6, 11, 12, 13, 14, 15] o
  | .cmpBr16 o _ => modeIn [4, 6, 11, 12, 13, 14, 15] o
  | .cmpBr32 o _ => modeIn [4, 6, 10, 11, 12, 13, 14, 15] o
  | .cmpBr64 o _ => modeIn [0, 3, 4, 5, 6, 7, 11, 12, 13, 14, 15] o
  | .cmpuBr8 o _ => modeIn [4, 6, 11, 12, 13, 14, 15] o
  | .cmpuBr16 o _ => modeIn [4, 6, 11, 12, 13, 14, 15] o
  | .cmpuBr32 o _ => modeIn [4, 6, 11, 12, 13, 14, 15] o
  | .cmpuBr64 o _ => modeIn [3, 4, 5, 6, 7, 11, 12, 13, 14, 15] o
  | .cmp8 o _ => modeIn [4, 6, 11, 12, 13, 14, 15] o
  | .cmp16 o _ => modeIn [4, 6, 11, 12, 13, 14, 15] o
  | .cmp32 o _ => modeIn [4, 6, 11, 12, 13, 14, 15] o
  | .cmp64 o _ => modeIn [3, 4, 5, 6, 7, 11, 12, 13, 14, 15] o
  | .cmpu8 o _ => modeIn [4, 6, 11, 12, 13, 14, 15] o
  | .cmpu16 o _ => modeIn [4, 6, 11, 12, 13, 14, 15] o
  | .cmpu32 o _ => modeIn [4, 6, 11, 12, 13, 14, 15] o
  | .cmpu64 o _ => modeIn [3, 4, 5, 6, 7, 11, 12, 13, 14, 15] o
  | .fcmpBr32 o _ => modeIn [1, 3, 4, 5, 6, 7, 9, 11, 12, 13, 14, 15] o
  | .fcmpBr64 o _ => modeIn [1, 3, 4, 6, 11, 12, 13, 14, 15] o
  | .fcmpxBr32 o _ => modeIn [3, 4, 5, 6, 7, 11, 12, 13, 14, 15] o
  | .fcmpxBr64 o _ => modeIn [3, 4, 6, 11, 12, 13, 14, 15] o
  | .fcmp32 o _ => modeIn [3, 4, 6, 7, 11, 12, 13, 14, 15] o
  | .fcmp64 o _ => modeIn [3, 4, 6, 11, 12, 13, 14, 15] o
  | .fcmpx32 o _ => modeIn [3, 4, 6, 7, 11, 12, 13, 14, 15] o
  | .fcmpx64 o _ => modeIn [3, 4, 6, 11, 12, 13, 14, 15] o
  | .fcmp80 .. => true
  | .fcmpBr80 .. => true
  | .fcmpx80 .. => true
  | .fcmpxBr80 .. => true
  | .cmpbBr .. => true
  | .cmpbBrConst .. => true
  | .cmpbTest .. => true
  | .cvtDe o => modeIn [3, 4, 6, 11, 12, 13, 14, 15] o
  | .cvtDi o => modeIn [3, 4, 6, 11, 12, 13, 14, 15] o
  | .cvtDs o => modeIn [3, 4, 6, 11, 12, 13, 14, 15] o
  | .cvtId o => modeIn [3, 4, 6, 11, 12, 13, 14, 15] o
  | .cvtIs o => modeIn [3, 4, 6, 11, 12, 13, 14, 15] o
  | .cvtSd o => modeIn [3, 4, 6, 11, 12, 13, 14, 15] o
  | .cvtSi o => modeIn [3, 4, 6, 11, 12, 13, 14, 15] o
  | .cvtSe o => modeIn [3, 4, 6, 11, 12, 13, 14, 15] o
  | .finp32 o => modeIn [3, 4, 6, 11, 12, 13, 14, 15] o
  | .finp64 o => modeIn [3, 4, 6, 11, 12, 13, 14, 15] o
  | .cvtAi .. => true
  | .cvtIa .. => true
  | .cvtIe .. => true
  | .cvtEi .. => true
  | .cvtEs .. => true
  | .cvtEd .. => true
  | .finp80 .. => true
  | .brAbs .. => true
  | .brRel .. => true
  | .brBackward .. => true
  | .brForward .. => true
  | .brGtAbs .. => true
  | .brGtRel .. => true
  | .brBGtShRel .. => true
  | .brFGtShRel .. => true
  | .brEqAbs .. => true
  | .brEqRel .. => true
  | .brBEqShRel .. => true
  | .brFEqShRel .. => true
  | .brGeAbs .. => true
  | .brGeRel .. => true
  | .brBGeShRel .. => true
  | .brFGeShRel .. => true
  | .brLtAbs .. => true
  | .brLtRel .. => true
  | .brBLtShRel .. => true
  | .brFLtShRel .. => true
  | .brNeAbs .. => true
  | .brNeRel .. => true
  | .brBNeShRel .. => true
  | .brFNeShRel .. => true
  | .brLeAbs .. => true
  | .brLeRel .. => true
  | .brBLeShRel .. => true
  | .brFLeShRel .. => true
  | .brReg .. => true
  | .call .. => true
  | .callReg .. => true
  | .exit .. => true
  | .ixit .. => true
  | .bxit .. => true
  | .breakpoint => true
  | .exception .. => true
  | .exchLinkForward .. => true
  | .forwardMsg .. => true
  | .sendSmallMsg .. => true
  | .delLink .. => true
  | .attFunToChan .. => true
  | .createFun .. => true
  | .createLink .. => true
  | .delFun .. => true
  | .delMsg .. => true
  | .disableChanInt .. => true
  | .disableFun .. => true
  | .enableChanInt .. => true
  | .enableFun .. => true
  | .sendToHardware .. => true
  | .setFunIntVector .. => true
  | .copyLink .. => true
  | .passLink .. => true
  | .rcv .. => true
  | .rcvChan .. => true
  | .rcvLink .. => true
  | .rcvLinkOnChan .. => true
  | .readFte .. => true
  | .readLte .. => true
  | .send .. => true
  | .setLocalPri .. => true
  | .nop => true
  | .readMachId .. => true
  | .memoryMan .. => true
  | .modifyPme .. => true
  | .readCpuTimer .. => true
  | .readPme .. => true
  | .readRealTimer .. => true
  | .readStat .. => true
  | .writeStat .. => true

end Sys2Proof
end

