-- ==== Sys2Proof/Decode.lean ====
section
/-! DEFINITION. Decoding (R140 to R170) and, after it, the encoder, both written from the encoding tables of
30_encoding.md and opcode_table.json. Decoding is total on any bytes and rejects by name. -/

namespace Sys2Proof

open Config

/-! ### Reading -/

/-- Why bytes are no instruction. -/
inductive DecodeError
  /-- Fewer bytes than the instruction's length (R147). -/
  | tooShort
  /-- Nibble 0 is 2 and nibble 1 is not zero: mode 2, reserved for future use (R148 (a)). -/
  | reservedMode
  /-- Nibble 1 is zero and nibble 0 is 4 or C: no instruction is defined (R148 (b)). -/
  | noFormat
  /-- The opcode, or the opcode in this mode, appears in no opcode table (R148 (c)). -/
  | unassigned
deriving DecidableEq, Repr

/-- Two nibbles as a byte, the first the high-order one (R140). -/
def nibs (h l : Nib) : Byte := h ++ l
/-- A 12-bit field: nibble 5 and a byte (R153). -/
def field12 (n : Nib) (b : Byte) : BitVec 12 := n ++ b
/-- A 16-bit field, most significant byte first (R153). -/
def field16 (a b : Byte) : BitVec 16 := a ++ b
/-- A 32-bit field, most significant byte first (R153). -/
def field32 (a b c d : Byte) : BitVec 32 := a ++ b ++ c ++ d
/-- The bytes of a 12-bit field under nibble `h`. -/
def bytes12 (h : Nib) (v : BitVec 12) : List Byte := [nibs h (v.extractLsb' 8 4), v.extractLsb' 0 8]
/-- The bytes of a 16-bit field. -/
def bytes16 (v : BitVec 16) : List Byte := [v.extractLsb' 8 8, v.extractLsb' 0 8]
/-- The bytes of a 32-bit field. -/
def bytes32 (v : BitVec 32) : List Byte :=
  [v.extractLsb' 24 8, v.extractLsb' 16 8, v.extractLsb' 8 8, v.extractLsb' 0 8]

/-- The first entry of a table under a key. -/
def findRow {α : Type} : List (Nat × α) → Nat → Option α
  | [], _ => none
  | (k, a) :: t, n => if k = n then some a else findRow t n

/-- A row of an opcode table: the instruction an operand gives, with or without an appendage. -/
inductive Row
  | plain (c : GOp → Instr)
  | cmp (c : GOp → App → Instr)

/-- The long opcodes (R142): key OP1 * 16 + OP2. -/
def longRows : List (Nat × Row) :=
  [(0x10, Row.plain Instr.sll), (0x11, Row.plain Instr.srl), (0x12, Row.plain Instr.sla), (0x13, Row.plain Instr.sra), (0x14, Row.plain Instr.rol), (0x15, Row.plain Instr.ror)]
    ++ [(0x17, Row.plain Instr.findFirst), (0x19, Row.plain Instr.adduc64), (0x1A, Row.plain Instr.subuc64), (0x1B, Row.plain Instr.subucr64), (0x1C, Row.plain Instr.logAnd), (0x1D, Row.plain Instr.logOr)]
    ++ [(0x1E, Row.plain Instr.logNot), (0x1F, Row.plain Instr.logXor), (0x20, Row.cmp Instr.cmp8), (0x21, Row.cmp Instr.cmp16), (0x22, Row.cmp Instr.cmp32), (0x23, Row.cmp Instr.cmp64)]
    ++ [(0x24, Row.cmp Instr.cmpu8), (0x25, Row.cmp Instr.cmpu16), (0x26, Row.cmp Instr.cmpu32), (0x27, Row.cmp Instr.cmpu64), (0x28, Row.cmp Instr.fcmp32), (0x29, Row.cmp Instr.fcmp64)]
    ++ [(0x2A, Row.cmp Instr.fcmpx32), (0x2B, Row.cmp Instr.fcmpx64), (0x30, Row.cmp Instr.cmpBr8), (0x31, Row.cmp Instr.cmpBr16), (0x32, Row.cmp Instr.cmpBr32), (0x33, Row.cmp Instr.cmpBr64)]
    ++ [(0x34, Row.cmp Instr.cmpuBr8), (0x35, Row.cmp Instr.cmpuBr16), (0x36, Row.cmp Instr.cmpuBr32), (0x37, Row.cmp Instr.cmpuBr64), (0x38, Row.cmp Instr.fcmpBr32), (0x39, Row.cmp Instr.fcmpBr64)]
    ++ [(0x3A, Row.cmp Instr.fcmpxBr32), (0x3B, Row.cmp Instr.fcmpxBr64), (0x50, Row.plain Instr.sti8), (0x51, Row.plain Instr.sti16), (0x52, Row.plain Instr.sti32), (0x53, Row.plain Instr.sti64)]
    ++ [(0x54, Row.plain Instr.stin8), (0x55, Row.plain Instr.stin16), (0x56, Row.plain Instr.stin32), (0x57, Row.plain Instr.stin64), (0x60, Row.plain Instr.st8), (0x61, Row.plain Instr.st16)]
    ++ [(0x62, Row.plain Instr.st32), (0x63, Row.plain Instr.st64), (0x64, Row.plain Instr.stv8), (0x65, Row.plain Instr.stv16), (0x66, Row.plain Instr.stv32), (0x6C, Row.plain Instr.st24)]
    ++ [(0x6D, Row.plain Instr.st40), (0x6E, Row.plain Instr.st48), (0x6F, Row.plain Instr.st56), (0x80, Row.plain Instr.ld8), (0x81, Row.plain Instr.ldz8), (0x90, Row.plain Instr.ld16)]
    ++ [(0x91, Row.plain Instr.ldz16), (0x92, Row.plain Instr.neg16), (0x94, Row.plain Instr.sll1w16), (0x95, Row.plain Instr.sll2w16), (0x96, Row.plain Instr.sll3w16), (0x97, Row.plain Instr.ldz40)]
    ++ [(0x98, Row.plain Instr.mul16), (0x99, Row.plain Instr.add16), (0x9A, Row.plain Instr.sub16), (0x9B, Row.plain Instr.subr16), (0x9C, Row.plain Instr.div16), (0x9D, Row.plain Instr.divr16)]
    ++ [(0x9E, Row.plain Instr.rem16), (0x9F, Row.plain Instr.remr16), (0xA0, Row.plain Instr.ld32), (0xA1, Row.plain Instr.ldz32), (0xA2, Row.plain Instr.neg32), (0xA4, Row.plain Instr.sll1w32)]
    ++ [(0xA5, Row.plain Instr.sll2w32), (0xA6, Row.plain Instr.sll3w32), (0xA7, Row.plain Instr.ldz48), (0xA8, Row.plain Instr.mul32), (0xA9, Row.plain Instr.add32), (0xAA, Row.plain Instr.sub32)]
    ++ [(0xAB, Row.plain Instr.subr32), (0xAC, Row.plain Instr.div32), (0xAD, Row.plain Instr.divr32), (0xAE, Row.plain Instr.rem32), (0xAF, Row.plain Instr.remr32), (0xB0, Row.plain Instr.ld64)]
    ++ [(0xB1, Row.plain Instr.ldz24), (0xB2, Row.plain Instr.neg64), (0xB4, Row.plain Instr.sll1w64), (0xB5, Row.plain Instr.sll2w64), (0xB6, Row.plain Instr.sll3w64), (0xB7, Row.plain Instr.ldz56)]
    ++ [(0xB8, Row.plain Instr.mul64), (0xB9, Row.plain Instr.add64), (0xBA, Row.plain Instr.sub64), (0xBB, Row.plain Instr.subr64), (0xBC, Row.plain Instr.div64), (0xBD, Row.plain Instr.divr64)]
    ++ [(0xBE, Row.plain Instr.rem64), (0xBF, Row.plain Instr.remr64), (0xC2, Row.plain Instr.cvtIs), (0xC3, Row.plain Instr.cvtSi), (0xC6, Row.plain Instr.cvtSd), (0xC7, Row.plain Instr.cvtSe)]
    ++ [(0xC8, Row.plain Instr.fmul32), (0xC9, Row.plain Instr.fadd32), (0xCA, Row.plain Instr.fsub32), (0xCB, Row.plain Instr.fsubr32), (0xCC, Row.plain Instr.fdiv32), (0xCD, Row.plain Instr.fdivr32)]
    ++ [(0xCF, Row.plain Instr.finp32), (0xD2, Row.plain Instr.cvtId), (0xD3, Row.plain Instr.cvtDi), (0xD6, Row.plain Instr.cvtDs), (0xD7, Row.plain Instr.cvtDe), (0xD8, Row.plain Instr.fmul64)]
    ++ [(0xD9, Row.plain Instr.fadd64), (0xDA, Row.plain Instr.fsub64), (0xDB, Row.plain Instr.fsubr64), (0xDC, Row.plain Instr.fdiv64), (0xDD, Row.plain Instr.fdivr64), (0xDF, Row.plain Instr.finp64)]

/-- The short opcodes (R170) that no parameter touches: key mode * 16 + sh. -/
def shortRows : List (Nat × Row) :=
  [(0x01, Row.plain Instr.ld64), (0x03, Row.cmp Instr.cmpBr64), (0x04, Row.plain Instr.addi64), (0x05, Row.plain Instr.sti64), (0x0A, Row.plain Instr.sub64), (0x0B, Row.plain Instr.subr64)]
    ++ [(0x0D, Row.plain Instr.sll2w64), (0x0E, Row.plain Instr.sll3w64), (0x12, Row.cmp Instr.fcmpBr64), (0x13, Row.cmp Instr.fcmpBr32), (0x14, Row.plain Instr.subi64), (0x15, Row.plain Instr.stin64)]
    ++ [(0x18, Row.plain Instr.fmul32), (0x19, Row.plain Instr.fadd32), (0x1A, Row.plain Instr.fsub32), (0x1C, Row.plain Instr.fmul64), (0x1D, Row.plain Instr.fadd64), (0x1E, Row.plain Instr.fsub64)]
    ++ [(0x81, Row.plain Instr.ld32), (0x85, Row.plain Instr.sti32), (0x86, Row.plain Instr.st32), (0x89, Row.plain Instr.add32), (0x8A, Row.plain Instr.sub32), (0x8B, Row.plain Instr.subr32)]
    ++ [(0x8E, Row.plain Instr.sll3w32), (0x93, Row.cmp Instr.fcmpBr32), (0x96, Row.plain Instr.stv32), (0x98, Row.plain Instr.fmul32), (0x99, Row.plain Instr.fadd32), (0x9A, Row.plain Instr.fsub32)]
    ++ [(0xA1, Row.plain Instr.ld32), (0xA3, Row.cmp Instr.cmpBr32), (0xA6, Row.plain Instr.stv32), (0xA7, Row.plain Instr.st32), (0xA9, Row.plain Instr.add32), (0xAA, Row.plain Instr.sub32)]
    ++ [(0xAB, Row.plain Instr.subr32)]

/-- The short opcodes that an open parameter fixes: LDZ `91x` (R203), ST `87x` (R206), SLL2 `8Dx` (R412), FSUBR
`1Bx`, `1Fx`, `9Bx` (R334), ADD.64 and MUL.64 (R267). -/
def paramShortRow (p : Params) (mode : Nat) (sh : Nib) : Option Row :=
  if mode = 0 ∧ sh = p.shortAdd64 then some (.plain .add64)
  else if mode = 0 ∧ sh = p.shortMul64 then some (.plain .mul64)
  else if mode = 9 ∧ sh = 1 then some (.plain (match p.sh91 with | .w8 => .ldz8 | .w32 => .ldz32))
  else if mode = 8 ∧ sh = 7 then some (.plain (match p.sh87 with | .w8 => .st8 | .w64 => .st64))
  else if mode = 8 ∧ sh = 0xD then some (.plain (match p.sh8D with | .w32 => .sll2w32 | .w64 => .sll2w64))
  else if mode = 1 ∧ sh = 0xB then (if p.shortFsubr then some (.plain .fsubr32) else none)
  else if mode = 1 ∧ sh = 0xF then (if p.shortFsubr then some (.plain .fsubr64) else none)
  else if mode = 9 ∧ sh = 0xB then (if p.shortFsubr then some (.plain .fsubr32) else none)
  else none

/-- The short-op of a bank (R143, R170). -/
def shortRow (p : Params) (mode : Nat) (sh : Nib) : Option Row :=
  match findRow shortRows (mode * 16 + sh.toNat) with
  | some r => some r
  | none => paramShortRow p mode sh

/-- The operand of a short-op: nibbles 2 and 3 (R143, R150). -/
def shortOperand (mode : Nib) (b1 : Byte) : GOp :=
  if mode = 0 then .m0 (hiNib b1) (loNib b1)
  else if mode = 1 then .m1 (hiNib b1) (loNib b1)
  else if mode = 8 then .m8 (hiNib b1) (loNib b1)
  else if mode = 9 then .m9 (hiNib b1) (loNib b1)
  else .mA (hiNib b1) (loNib b1)

/-- The operand of a long-form instruction: nibble 3 and the bytes after it (R150); the bytes left over. -/
def longOperand (mode x : Nib) (bs : List Byte) : Option (GOp × List Byte) :=
  match bs with
  | b2 :: r =>
    if mode = 3 then some (.m3 x (hiNib b2) (loNib b2), r)
    else if mode = 0xB then some (.mB x (hiNib b2) (loNib b2), r)
    else if mode = 0xC then some (.mC x (hiNib b2) (loNib b2), r)
    else match r with
      | b3 :: r' =>
        if mode = 4 then some (.m4 x (field16 b2 b3), r')
        else if mode = 5 then some (.m5 x (hiNib b2) (field12 (loNib b2) b3), r')
        else if mode = 0xD then some (.mD x (hiNib b2) (field12 (loNib b2) b3), r')
        else match r' with
          | b4 :: b5 :: b6 :: r'' =>
            let e := field32 b3 b4 b5 b6
            if mode = 6 then some (.m6 x (hiNib b2) (loNib b2) e, r'')
            else if mode = 7 then some (.m7 x (hiNib b2) (loNib b2) e, r'')
            else if mode = 0xE then some (.mE x (hiNib b2) (loNib b2) e, r'')
            else some (.mF x (hiNib b2) (loNib b2) e, r'')
          | _ => none
      | [] => none
  | [] => none

/-- A row with its operand: the appendage follows (R431); the instruction must be listed for the mode. -/
def finishRow (p : Params) (row : Row) (o : GOp) (bs : List Byte) : Except DecodeError (Instr × List Byte) :=
  match row with
  | .plain c => if (c o).wellFormed p then .ok (c o, bs) else .error .unassigned
  | .cmp c =>
    if (c o ⟨0, 0⟩).wellFormed p then
      match bs with
      | a :: b :: r => .ok (c o ⟨hiNib a, field12 (loNib a) b⟩, r)
      | _ => .error .tooShort
    else .error .unassigned

/-- A row of the non-generalized table (R164), by the shape of the bytes after nibble 2. -/
inductive NRow
  | x (c : Reg → Instr)
  | xyz (c : Reg → Reg → Reg → Instr)
  | xb (c : Nib → BitVec 8 → Instr)
  | xyztv (c : Reg → Reg → Reg → Reg → Reg → Instr)
  | xud (c : Reg → BitVec 8 → BitVec 32 → Instr)
  | ud (c : BitVec 12 → BitVec 32 → Instr)
  | xyza (c : Reg → Reg → Reg → App → Instr)
  | xyzf (c : Reg → Reg → Reg → FieldApp → Instr)

/-- The non-generalized opcodes of three nibbles (R164): key OP0 * 16 + OP2. -/
def nonRows : List (Nat × NRow) :=
  [(0x00, NRow.xyz Instr.exception), (0x30, NRow.xb Instr.exit), (0x31, NRow.xb Instr.ixit), (0x32, NRow.xb Instr.bxit), (0x35, NRow.xb Instr.setBit), (0x36, NRow.xb Instr.clearBit)]
    ++ [(0x37, NRow.xb Instr.toggleBit), (0x39, NRow.xb Instr.brFGtShRel), (0x3A, NRow.xb Instr.brFEqShRel), (0x3B, NRow.xb Instr.brFGeShRel), (0x3C, NRow.xb Instr.brFLtShRel), (0x3D, NRow.xb Instr.brFNeShRel)]
    ++ [(0x3E, NRow.xb Instr.brFLeShRel), (0x60, NRow.x Instr.brReg), (0x63, NRow.x Instr.readMachId), (0x70, NRow.xyz Instr.memoryMan), (0x71, NRow.xyz Instr.modifyPme), (0x72, NRow.xyz Instr.exch)]
    ++ [(0x73, NRow.xyz Instr.exchAnd), (0x74, NRow.xyz Instr.exchOr), (0x75, NRow.xyz Instr.cmpbTest), (0x76, NRow.xyz Instr.copyb), (0x77, NRow.xyz Instr.copybConst), (0x78, NRow.xyz Instr.asciiAdd)]
    ++ [(0x79, NRow.xyz Instr.asciiAddc), (0x7B, NRow.xyz Instr.asciiSubc), (0x7C, NRow.xyz Instr.cvtAi), (0x7D, NRow.xyz Instr.cvtIa), (0x89, NRow.xyz Instr.exchLinkForward), (0x8A, NRow.xyz Instr.forwardMsg)]
    ++ [(0x8E, NRow.xyz Instr.sendSmallMsg), (0x91, NRow.xyztv Instr.delLink), (0x9E, NRow.xyztv Instr.asciiSub), (0xB2, NRow.xyz Instr.mul128), (0xB3, NRow.xyz Instr.mulu128), (0xB4, NRow.xyz Instr.frem32)]
    ++ [(0xB5, NRow.xyz Instr.frem64), (0xB6, NRow.xyz Instr.frem80), (0xB9, NRow.xb Instr.brBGtShRel), (0xBA, NRow.xb Instr.brBEqShRel), (0xBB, NRow.xb Instr.brBGeShRel), (0xBC, NRow.xb Instr.brBLtShRel)]
    ++ [(0xBD, NRow.xb Instr.brBNeShRel), (0xBE, NRow.xb Instr.brBLeShRel), (0xD0, NRow.xyza Instr.cmpbBr), (0xD1, NRow.xyza Instr.cmpbBrConst), (0xD5, NRow.xyzf Instr.insert), (0xD6, NRow.xyzf Instr.extract)]
    ++ [(0xD7, NRow.xyzf Instr.extractz), (0xD8, NRow.xyza Instr.fcmp80), (0xD9, NRow.xyza Instr.fcmpBr80), (0xDA, NRow.xyza Instr.fcmpx80), (0xDB, NRow.xyza Instr.fcmpxBr80), (0xE0, NRow.ud Instr.call)]
    ++ [(0xE1, NRow.xud Instr.brGtAbs), (0xE2, NRow.xud Instr.brEqAbs), (0xE3, NRow.xud Instr.brGeAbs), (0xE4, NRow.xud Instr.brLtAbs), (0xE5, NRow.xud Instr.brNeAbs), (0xE6, NRow.xud Instr.brLeAbs)]
    ++ [(0xE7, NRow.ud Instr.brAbs), (0xE8, NRow.xud Instr.callReg), (0xE9, NRow.xud Instr.brGtRel), (0xEA, NRow.xud Instr.brEqRel), (0xEB, NRow.xud Instr.brGeRel), (0xEC, NRow.xud Instr.brLtRel)]
    ++ [(0xED, NRow.xud Instr.brNeRel), (0xEE, NRow.xud Instr.brLeRel), (0xEF, NRow.ud Instr.brRel), (0xF2, NRow.xyz Instr.cvtIe), (0xF3, NRow.xyz Instr.cvtEi), (0xF6, NRow.xyz Instr.cvtEs)]
    ++ [(0xF7, NRow.xyz Instr.cvtEd), (0xF8, NRow.xyz Instr.fmul80), (0xF9, NRow.xyz Instr.fadd80), (0xFA, NRow.xyz Instr.fsub80), (0xFC, NRow.xyz Instr.fdiv80), (0xFF, NRow.xyz Instr.finp80)]

/-- The opcodes whose third nibble the source lost (R655, R670): OP2 is a parameter. -/
def paramNonRows (p : Params) : List (Nat × NRow) :=
  [(0x80 + p.opc.attFunToChan.toNat, NRow.xyz Instr.attFunToChan),
     (0x80 + p.opc.createFun.toNat, NRow.xyz Instr.createFun),
     (0x80 + p.opc.createLink.toNat, NRow.xyz Instr.createLink),
     (0x80 + p.opc.delFun.toNat, NRow.xyz Instr.delFun)]
    ++ [(0x80 + p.opc.delMsg.toNat, NRow.xyz Instr.delMsg),
     (0x80 + p.opc.disableChanInt.toNat, NRow.xyz Instr.disableChanInt),
     (0x80 + p.opc.disableFun.toNat, NRow.xyz Instr.disableFun),
     (0x80 + p.opc.enableChanInt.toNat, NRow.xyz Instr.enableChanInt)]
    ++ [(0x80 + p.opc.enableFun.toNat, NRow.xyz Instr.enableFun),
     (0x80 + p.opc.sendToHardware.toNat, NRow.xyz Instr.sendToHardware),
     (0x80 + p.opc.setFunIntVector.toNat, NRow.xyz Instr.setFunIntVector),
     (0x90 + p.opc.copyLink.toNat, NRow.xyztv Instr.copyLink)]
    ++ [(0x90 + p.opc.passLink.toNat, NRow.xyztv Instr.passLink),
     (0x90 + p.opc.rcv.toNat, NRow.xyztv Instr.rcv),
     (0x90 + p.opc.rcvChan.toNat, NRow.xyztv Instr.rcvChan),
     (0x90 + p.opc.rcvLink.toNat, NRow.xyztv Instr.rcvLink)]
    ++ [(0x90 + p.opc.rcvLinkOnChan.toNat, NRow.xyztv Instr.rcvLinkOnChan),
     (0x90 + p.opc.readFte.toNat, NRow.xyztv Instr.readFte),
     (0x90 + p.opc.readLte.toNat, NRow.xyztv Instr.readLte),
     (0x90 + p.opc.send.toNat, NRow.xyztv Instr.send)]
    ++ [(0x90 + p.opc.setLocalPri.toNat, NRow.xyztv Instr.setLocalPri),
     (0x60 + p.opc.readCpuTimer.toNat, NRow.x Instr.readCpuTimer),
     (0x60 + p.opc.readPme.toNat, NRow.x Instr.readPme),
     (0x60 + p.opc.readRealTimer.toNat, NRow.x Instr.readRealTimer)]
    ++ [(0x60 + p.opc.readStat.toNat, NRow.x Instr.readStat),
     (0x60 + p.opc.writeStat.toNat, NRow.x Instr.writeStat)]

/-- The row of a non-generalized opcode. -/
def nonRow (p : Params) (op0 op2 : Nib) : Option NRow :=
  match findRow nonRows (op0.toNat * 16 + op2.toNat) with
  | some r => some r
  | none => findRow (paramNonRows p) (op0.toNat * 16 + op2.toNat)

/-- The fields of a non-generalized instruction, nibble 3 being `x` (R164). -/
def finishNon (row : NRow) (x : Nib) (bs : List Byte) : Except DecodeError (Instr × List Byte) :=
  match row with
  | .x c => .ok (c x, bs)
  | .xyz c =>
    match bs with
    | b2 :: r => .ok (c x (hiNib b2) (loNib b2), r)
    | _ => .error .tooShort
  | .xb c =>
    match bs with
    | b2 :: r => .ok (c x b2, r)
    | _ => .error .tooShort
  | .xyztv c =>
    match bs with
    | b2 :: b3 :: r => .ok (c x (hiNib b2) (loNib b2) (hiNib b3) (loNib b3), r)
    | _ => .error .tooShort
  | .xud c =>
    match bs with
    | b2 :: b3 :: b4 :: b5 :: b6 :: r => .ok (c x b2 (field32 b3 b4 b5 b6), r)
    | _ => .error .tooShort
  | .ud c =>
    match bs with
    | b2 :: b3 :: b4 :: b5 :: b6 :: r => .ok (c (field12 x b2) (field32 b3 b4 b5 b6), r)
    | _ => .error .tooShort
  | .xyza c =>
    match bs with
    | b2 :: b3 :: b4 :: r =>
      .ok (c x (hiNib b2) (loNib b2) ⟨hiNib b3, field12 (loNib b3) b4⟩, r)
    | _ => .error .tooShort
  | .xyzf c =>
    match bs with
    | b2 :: b3 :: b4 :: r =>
      .ok (c x (hiNib b2) (loNib b2)
        ⟨b3.extractLsb' 6 2, b3.extractLsb' 0 6, b4.extractLsb' 6 2, b4.extractLsb' 0 6⟩, r)
    | _ => .error .tooShort

/-- The non-generalized class: nibble 1 is zero (R141, R144, R164, R169 step 2). -/
def decodeNon (p : Params) (op0 : Nib) (bs : List Byte) : Except DecodeError (Instr × List Byte) :=
  if op0 = 1 then .ok (.breakpoint, bs)
  else if op0 = 5 then .ok (.nop, bs)
  else if op0 = 4 ∨ op0 = 0xC then .error .noFormat
  else match bs with
    | [] => .error .tooShort
    | b1 :: r =>
      if op0 = 2 then .ok (.brForward b1, r)
      else if op0 = 0xA then .ok (.brBackward b1, r)
      else match nonRow p op0 (hiNib b1) with
        | some row => finishNon row (loNib b1) r
        | none => .error .unassigned

/-- Nibble 0 names a bank of short-ops (R141). -/
def isShortMode (m : Nib) : Bool := decide (m ∈ ([0, 1, 8, 9, 0xA] : List Nib))

/-- The decoder (R169): the instruction the bytes begin with, and the bytes after it. -/
def decode (p : Params) (bs : List Byte) : Except DecodeError (Instr × List Byte) :=
  match bs with
  | [] => .error .tooShort
  | b0 :: r =>
    if loNib b0 = 0 then decodeNon p (hiNib b0) r
    else if hiNib b0 = 2 then .error .reservedMode
    else match r with
      | [] => .error .tooShort
      | b1 :: r' =>
        if isShortMode (hiNib b0) then
          match shortRow p (hiNib b0).toNat (loNib b0) with
          | some row => finishRow p row (shortOperand (hiNib b0) b1) r'
          | none => .error .unassigned
        else
          match findRow longRows (nibs (loNib b0) (hiNib b1)).toNat with
          | some row =>
            match longOperand (hiNib b0) (loNib b1) r' with
            | some (o, r'') => finishRow p row o r''
            | none => .error .tooShort
          | none => .error .unassigned

/-! ### Lengths -/

/-- R147's first table: the base length of a generalized or short-op instruction, by nibble 0. -/
def genLen (m : Nib) : Nat :=
  match m.toNat with
  | 0 => 2
  | 1 => 2
  | 3 => 3
  | 4 => 4
  | 5 => 4
  | 6 => 7
  | 7 => 7
  | 8 => 2
  | 9 => 2
  | 10 => 2
  | 11 => 3
  | 12 => 3
  | 13 => 4
  | 14 => 7
  | 15 => 7
  | _ => 1

/-- R147's second table: the length of a non-generalized instruction, by nibble 0; 1 where none is
defined (R148). -/
def nonLen (m : Nib) : Nat :=
  match m.toNat with
  | 0 => 3
  | 1 => 1
  | 2 => 2
  | 3 => 3
  | 5 => 1
  | 6 => 2
  | 7 => 3
  | 8 => 3
  | 9 => 4
  | 10 => 2
  | 11 => 3
  | 13 => 5
  | 14 => 7
  | 15 => 3
  | _ => 1

/-- A relational test instruction, which carries a 2-byte appendage (R147): long form OP1 = 2 or 3, short
form `03x`, `12x`, `13x`, `93x`, `A3x`. -/
def hasAppendage (b0 : Byte) : Bool :=
  if isShortMode (hiNib b0) then decide (b0 ∈ ([0x03, 0x12, 0x13, 0x93, 0xA3] : List Byte))
  else decide (loNib b0 = 2 ∨ loNib b0 = 3)

/-- The length in bytes that the first byte fixes (R147); 1 for reserved mode 2 and for OP0 = 4, C (R148). -/
def instrLen (b0 : Byte) : Nat :=
  if loNib b0 = 0 then nonLen (hiNib b0)
  else if hiNib b0 = 2 then 1
  else if hasAppendage b0 then genLen (hiNib b0) + 2
  else genLen (hiNib b0)

/-- The base length of an instruction with this operand (R147, R150). -/
def GOp.len : GOp → Nat
  | .m0 .. => 2
  | .m1 .. => 2
  | .m3 .. => 3
  | .m4 .. => 4
  | .m5 .. => 4
  | .m6 .. => 7
  | .m7 .. => 7
  | .m8 .. => 2
  | .m9 .. => 2
  | .mA .. => 2
  | .mB .. => 3
  | .mC .. => 3
  | .mD .. => 4
  | .mE .. => 7
  | .mF .. => 7

/-- `ilen` (R13, R147): the length of an instruction in bytes. -/
def Instr.ilen : Instr → Nat
  | .ld8 o => o.len
  | .ld16 o => o.len
  | .ld32 o => o.len
  | .ld64 o => o.len
  | .ldz8 o => o.len
  | .ldz16 o => o.len
  | .ldz24 o => o.len
  | .ldz32 o => o.len
  | .ldz40 o => o.len
  | .ldz48 o => o.len
  | .ldz56 o => o.len
  | .st8 o => o.len
  | .st16 o => o.len
  | .st24 o => o.len
  | .st32 o => o.len
  | .st40 o => o.len
  | .st48 o => o.len
  | .st56 o => o.len
  | .st64 o => o.len
  | .stv8 o => o.len
  | .stv16 o => o.len
  | .stv32 o => o.len
  | .sti8 o => o.len
  | .sti16 o => o.len
  | .sti32 o => o.len
  | .sti64 o => o.len
  | .stin8 o => o.len
  | .stin16 o => o.len
  | .stin32 o => o.len
  | .stin64 o => o.len
  | .extract .. => 5
  | .extractz .. => 5
  | .insert .. => 5
  | .exch .. => 3
  | .exchAnd .. => 3
  | .exchOr .. => 3
  | .copyb .. => 3
  | .copybConst .. => 3
  | .add16 o => o.len
  | .add32 o => o.len
  | .add64 o => o.len
  | .adduc64 o => o.len
  | .addi64 o => o.len
  | .div16 o => o.len
  | .div32 o => o.len
  | .div64 o => o.len
  | .divr16 o => o.len
  | .divr32 o => o.len
  | .divr64 o => o.len
  | .rem16 o => o.len
  | .rem32 o => o.len
  | .rem64 o => o.len
  | .remr16 o => o.len
  | .remr32 o => o.len
  | .remr64 o => o.len
  | .mul16 o => o.len
  | .mul32 o => o.len
  | .mul64 o => o.len
  | .mul128 .. => 3
  | .mulu128 .. => 3
  | .neg16 o => o.len
  | .neg32 o => o.len
  | .neg64 o => o.len
  | .sub16 o => o.len
  | .sub32 o => o.len
  | .sub64 o => o.len
  | .subr16 o => o.len
  | .subr32 o => o.len
  | .subr64 o => o.len
  | .subuc64 o => o.len
  | .subucr64 o => o.len
  | .subi64 o => o.len
  | .sla o => o.len
  | .sra o => o.len
  | .fadd32 o => o.len
  | .fadd64 o => o.len
  | .fadd80 .. => 3
  | .fsub32 o => o.len
  | .fsub64 o => o.len
  | .fsubr32 o => o.len
  | .fsubr64 o => o.len
  | .fsub80 .. => 3
  | .fmul32 o => o.len
  | .fmul64 o => o.len
  | .fmul80 .. => 3
  | .fdiv32 o => o.len
  | .fdiv64 o => o.len
  | .fdivr32 o => o.len
  | .fdivr64 o => o.len
  | .fdiv80 .. => 3
  | .frem32 .. => 3
  | .frem64 .. => 3
  | .frem80 .. => 3
  | .asciiAdd .. => 3
  | .asciiAddc .. => 3
  | .asciiSub .. => 4
  | .asciiSubc .. => 3
  | .logAnd o => o.len
  | .logOr o => o.len
  | .logNot o => o.len
  | .logXor o => o.len
  | .setBit .. => 3
  | .clearBit .. => 3
  | .toggleBit .. => 3
  | .findFirst o => o.len
  | .rol o => o.len
  | .ror o => o.len
  | .sll o => o.len
  | .srl o => o.len
  | .sll1w16 o => o.len
  | .sll1w32 o => o.len
  | .sll1w64 o => o.len
  | .sll2w16 o => o.len
  | .sll2w32 o => o.len
  | .sll2w64 o => o.len
  | .sll3w16 o => o.len
  | .sll3w32 o => o.len
  | .sll3w64 o => o.len
  | .cmpBr8 o _ => o.len + 2
  | .cmpBr16 o _ => o.len + 2
  | .cmpBr32 o _ => o.len + 2
  | .cmpBr64 o _ => o.len + 2
  | .cmpuBr8 o _ => o.len + 2
  | .cmpuBr16 o _ => o.len + 2
  | .cmpuBr32 o _ => o.len + 2
  | .cmpuBr64 o _ => o.len + 2
  | .cmp8 o _ => o.len + 2
  | .cmp16 o _ => o.len + 2
  | .cmp32 o _ => o.len + 2
  | .cmp64 o _ => o.len + 2
  | .cmpu8 o _ => o.len + 2
  | .cmpu16 o _ => o.len + 2
  | .cmpu32 o _ => o.len + 2
  | .cmpu64 o _ => o.len + 2
  | .fcmpBr32 o _ => o.len + 2
  | .fcmpBr64 o _ => o.len + 2
  | .fcmpxBr32 o _ => o.len + 2
  | .fcmpxBr64 o _ => o.len + 2
  | .fcmp32 o _ => o.len + 2
  | .fcmp64 o _ => o.len + 2
  | .fcmpx32 o _ => o.len + 2
  | .fcmpx64 o _ => o.len + 2
  | .fcmp80 .. => 5
  | .fcmpBr80 .. => 5
  | .fcmpx80 .. => 5
  | .fcmpxBr80 .. => 5
  | .cmpbBr .. => 5
  | .cmpbBrConst .. => 5
  | .cmpbTest .. => 3
  | .cvtDe o => o.len
  | .cvtDi o => o.len
  | .cvtDs o => o.len
  | .cvtId o => o.len
  | .cvtIs o => o.len
  | .cvtSd o => o.len
  | .cvtSi o => o.len
  | .cvtSe o => o.len
  | .finp32 o => o.len
  | .finp64 o => o.len
  | .cvtAi .. => 3
  | .cvtIa .. => 3
  | .cvtIe .. => 3
  | .cvtEi .. => 3
  | .cvtEs .. => 3
  | .cvtEd .. => 3
  | .finp80 .. => 3
  | .brAbs .. => 7
  | .brRel .. => 7
  | .brBackward .. => 2
  | .brForward .. => 2
  | .brGtAbs .. => 7
  | .brGtRel .. => 7
  | .brBGtShRel .. => 3
  | .brFGtShRel .. => 3
  | .brEqAbs .. => 7
  | .brEqRel .. => 7
  | .brBEqShRel .. => 3
  | .brFEqShRel .. => 3
  | .brGeAbs .. => 7
  | .brGeRel .. => 7
  | .brBGeShRel .. => 3
  | .brFGeShRel .. => 3
  | .brLtAbs .. => 7
  | .brLtRel .. => 7
  | .brBLtShRel .. => 3
  | .brFLtShRel .. => 3
  | .brNeAbs .. => 7
  | .brNeRel .. => 7
  | .brBNeShRel .. => 3
  | .brFNeShRel .. => 3
  | .brLeAbs .. => 7
  | .brLeRel .. => 7
  | .brBLeShRel .. => 3
  | .brFLeShRel .. => 3
  | .brReg .. => 2
  | .call .. => 7
  | .callReg .. => 7
  | .exit .. => 3
  | .ixit .. => 3
  | .bxit .. => 3
  | .breakpoint => 1
  | .exception .. => 3
  | .exchLinkForward .. => 3
  | .forwardMsg .. => 3
  | .sendSmallMsg .. => 3
  | .delLink .. => 4
  | .attFunToChan .. => 3
  | .createFun .. => 3
  | .createLink .. => 3
  | .delFun .. => 3
  | .delMsg .. => 3
  | .disableChanInt .. => 3
  | .disableFun .. => 3
  | .enableChanInt .. => 3
  | .enableFun .. => 3
  | .sendToHardware .. => 3
  | .setFunIntVector .. => 3
  | .copyLink .. => 4
  | .passLink .. => 4
  | .rcv .. => 4
  | .rcvChan .. => 4
  | .rcvLink .. => 4
  | .rcvLinkOnChan .. => 4
  | .readFte .. => 4
  | .readLte .. => 4
  | .send .. => 4
  | .setLocalPri .. => 4
  | .nop => 1
  | .readMachId .. => 2
  | .memoryMan .. => 3
  | .modifyPme .. => 3
  | .readCpuTimer .. => 2
  | .readPme .. => 2
  | .readRealTimer .. => 2
  | .readStat .. => 2
  | .writeStat .. => 2

/-! ### The encoder -/

/-- The bytes of an instruction, before they are laid out: a generalized operation with its long opcode, its
short opcodes by mode, its operand and its appendage; or the bytes themselves. -/
inductive Enc
  | gen (op : Byte) (sh : List (Nat × Nib)) (o : GOp) (a : Option App)
  | bytes (bs : List Byte)

/-- The short opcode of a mode; 0 where the table lists none (not well-formed). -/
def shortNib (sh : List (Nat × Nib)) (mode : Nat) : Nib := (findRow sh mode).getD 0

/-- The bytes of a generalized or short-op instruction without its appendage (R142, R143, R150). -/
def encodeOp (op : Byte) (sh : List (Nat × Nib)) : GOp → List Byte
  | .m0 w x => [nibs 0 (shortNib sh 0), nibs w x]
  | .m1 w x => [nibs 1 (shortNib sh 1), nibs w x]
  | .m3 x y z => [nibs 3 (hiNib op), nibs (loNib op) x, nibs y z]
  | .m4 x e => [nibs 4 (hiNib op), nibs (loNib op) x] ++ bytes16 e
  | .m5 x y e => [nibs 5 (hiNib op), nibs (loNib op) x] ++ bytes12 y e
  | .m6 x y u e => [nibs 6 (hiNib op), nibs (loNib op) x, nibs y u] ++ bytes32 e
  | .m7 x y u e => [nibs 7 (hiNib op), nibs (loNib op) x, nibs y u] ++ bytes32 e
  | .m8 n x => [nibs 8 (shortNib sh 8), nibs n x]
  | .m9 n x => [nibs 9 (shortNib sh 9), nibs n x]
  | .mA w x => [nibs 0xA (shortNib sh 10), nibs w x]
  | .mB x y z => [nibs 0xB (hiNib op), nibs (loNib op) x, nibs y z]
  | .mC x y z => [nibs 0xC (hiNib op), nibs (loNib op) x, nibs y z]
  | .mD x y e => [nibs 0xD (hiNib op), nibs (loNib op) x] ++ bytes12 y e
  | .mE x y z e => [nibs 0xE (hiNib op), nibs (loNib op) x, nibs y z] ++ bytes32 e
  | .mF x y z e => [nibs 0xF (hiNib op), nibs (loNib op) x, nibs y z] ++ bytes32 e

/-- The 16 bits of a relational appendage (R431). -/
def App.bytes (a : App) : List Byte := bytes12 a.ccf a.act

/-- The two bytes of a bit-field appendage (R210, R212). -/
def FieldApp.bytes (f : FieldApp) : List Byte := [f.u0 ++ f.start, f.u1 ++ f.len]

/-- The bytes of an encoding, laid out. -/
def Enc.toBytes : Enc → List Byte
  | .gen op sh o none => encodeOp op sh o
  | .gen op sh o (some a) => encodeOp op sh o ++ a.bytes
  | .bytes bs => bs

/-- The bytes of a non-generalized instruction: nibble 1 is zero, nibble 2 is `op2`, nibble 3 is `x`. -/
def nonEnc (op0 op2 x : Nib) (r : List Byte) : Enc := .bytes (nibs op0 0 :: nibs op2 x :: r)

/-- Each instruction's row of the opcode tables. -/
def Instr.enc (p : Params) : Instr → Enc
  | .ld8 o => .gen 0x80 [] o none
  | .ld16 o => .gen 0x90 [] o none
  | .ld32 o => .gen 0xA0 [(8, 0x1), (10, 0x1)] o none
  | .ld64 o => .gen 0xB0 [(0, 0x1)] o none
  | .ldz8 o => .gen 0x81 [(9, 1)] o none
  | .ldz16 o => .gen 0x91 [] o none
  | .ldz24 o => .gen 0xB1 [] o none
  | .ldz32 o => .gen 0xA1 [(9, 0x1)] o none
  | .ldz40 o => .gen 0x97 [] o none
  | .ldz48 o => .gen 0xA7 [] o none
  | .ldz56 o => .gen 0xB7 [] o none
  | .st8 o => .gen 0x60 [(8, 0x7)] o none
  | .st16 o => .gen 0x61 [] o none
  | .st24 o => .gen 0x6C [] o none
  | .st32 o => .gen 0x62 [(8, 0x6), (10, 0x7)] o none
  | .st40 o => .gen 0x6D [] o none
  | .st48 o => .gen 0x6E [] o none
  | .st56 o => .gen 0x6F [] o none
  | .st64 o => .gen 0x63 [(8, 7)] o none
  | .stv8 o => .gen 0x64 [] o none
  | .stv16 o => .gen 0x65 [] o none
  | .stv32 o => .gen 0x66 [(9, 0x6), (10, 0x6)] o none
  | .sti8 o => .gen 0x50 [] o none
  | .sti16 o => .gen 0x51 [] o none
  | .sti32 o => .gen 0x52 [(8, 0x5)] o none
  | .sti64 o => .gen 0x53 [(0, 0x5)] o none
  | .stin8 o => .gen 0x54 [] o none
  | .stin16 o => .gen 0x55 [] o none
  | .stin32 o => .gen 0x56 [] o none
  | .stin64 o => .gen 0x57 [(1, 0x5)] o none
  | .extract x y z f => nonEnc 0xD 0x6 x (nibs y z :: f.bytes)
  | .extractz x y z f => nonEnc 0xD 0x7 x (nibs y z :: f.bytes)
  | .insert x y z f => nonEnc 0xD 0x5 x (nibs y z :: f.bytes)
  | .exch x y z => nonEnc 0x7 0x2 x [nibs y z]
  | .exchAnd x y z => nonEnc 0x7 0x3 x [nibs y z]
  | .exchOr x y z => nonEnc 0x7 0x4 x [nibs y z]
  | .copyb x y z => nonEnc 0x7 0x6 x [nibs y z]
  | .copybConst x y z => nonEnc 0x7 0x7 x [nibs y z]
  | .add16 o => .gen 0x99 [] o none
  | .add32 o => .gen 0xA9 [(8, 0x9), (10, 0x9)] o none
  | .add64 o => .gen 0xB9 [(0, p.shortAdd64)] o none
  | .adduc64 o => .gen 0x19 [] o none
  | .addi64 o => .gen 0x00 [(0, 0x4)] o none
  | .div16 o => .gen 0x9C [] o none
  | .div32 o => .gen 0xAC [] o none
  | .div64 o => .gen 0xBC [] o none
  | .divr16 o => .gen 0x9D [] o none
  | .divr32 o => .gen 0xAD [] o none
  | .divr64 o => .gen 0xBD [] o none
  | .rem16 o => .gen 0x9E [] o none
  | .rem32 o => .gen 0xAE [] o none
  | .rem64 o => .gen 0xBE [] o none
  | .remr16 o => .gen 0x9F [] o none
  | .remr32 o => .gen 0xAF [] o none
  | .remr64 o => .gen 0xBF [] o none
  | .mul16 o => .gen 0x98 [] o none
  | .mul32 o => .gen 0xA8 [] o none
  | .mul64 o => .gen 0xB8 [(0, p.shortMul64)] o none
  | .mul128 x y z => nonEnc 0xB 0x2 x [nibs y z]
  | .mulu128 x y z => nonEnc 0xB 0x3 x [nibs y z]
  | .neg16 o => .gen 0x92 [] o none
  | .neg32 o => .gen 0xA2 [] o none
  | .neg64 o => .gen 0xB2 [] o none
  | .sub16 o => .gen 0x9A [] o none
  | .sub32 o => .gen 0xAA [(8, 0xA), (10, 0xA)] o none
  | .sub64 o => .gen 0xBA [(0, 0xA)] o none
  | .subr16 o => .gen 0x9B [] o none
  | .subr32 o => .gen 0xAB [(8, 0xB), (10, 0xB)] o none
  | .subr64 o => .gen 0xBB [(0, 0xB)] o none
  | .subuc64 o => .gen 0x1A [] o none
  | .subucr64 o => .gen 0x1B [] o none
  | .subi64 o => .gen 0x00 [(1, 0x4)] o none
  | .sla o => .gen 0x12 [] o none
  | .sra o => .gen 0x13 [] o none
  | .fadd32 o => .gen 0xC9 [(1, 0x9), (9, 0x9)] o none
  | .fadd64 o => .gen 0xD9 [(1, 0xD)] o none
  | .fadd80 x y z => nonEnc 0xF 0x9 x [nibs y z]
  | .fsub32 o => .gen 0xCA [(1, 0xA), (9, 0xA)] o none
  | .fsub64 o => .gen 0xDA [(1, 0xE)] o none
  | .fsubr32 o => .gen 0xCB [(1, 0xB), (9, 0xB)] o none
  | .fsubr64 o => .gen 0xDB [(1, 0xF)] o none
  | .fsub80 x y z => nonEnc 0xF 0xA x [nibs y z]
  | .fmul32 o => .gen 0xC8 [(1, 0x8), (9, 0x8)] o none
  | .fmul64 o => .gen 0xD8 [(1, 0xC)] o none
  | .fmul80 x y z => nonEnc 0xF 0x8 x [nibs y z]
  | .fdiv32 o => .gen 0xCC [] o none
  | .fdiv64 o => .gen 0xDC [] o none
  | .fdivr32 o => .gen 0xCD [] o none
  | .fdivr64 o => .gen 0xDD [] o none
  | .fdiv80 x y z => nonEnc 0xF 0xC x [nibs y z]
  | .frem32 x y z => nonEnc 0xB 0x4 x [nibs y z]
  | .frem64 x y z => nonEnc 0xB 0x5 x [nibs y z]
  | .frem80 x y z => nonEnc 0xB 0x6 x [nibs y z]
  | .asciiAdd x y z => nonEnc 0x7 0x8 x [nibs y z]
  | .asciiAddc x y z => nonEnc 0x7 0x9 x [nibs y z]
  | .asciiSub x y z t u => nonEnc 0x9 0xE x [nibs y z, nibs t u]
  | .asciiSubc x y z => nonEnc 0x7 0xB x [nibs y z]
  | .logAnd o => .gen 0x1C [] o none
  | .logOr o => .gen 0x1D [] o none
  | .logNot o => .gen 0x1E [] o none
  | .logXor o => .gen 0x1F [] o none
  | .setBit x b => nonEnc 0x3 0x5 x [b]
  | .clearBit x b => nonEnc 0x3 0x6 x [b]
  | .toggleBit x b => nonEnc 0x3 0x7 x [b]
  | .findFirst o => .gen 0x17 [] o none
  | .rol o => .gen 0x14 [] o none
  | .ror o => .gen 0x15 [] o none
  | .sll o => .gen 0x10 [] o none
  | .srl o => .gen 0x11 [] o none
  | .sll1w16 o => .gen 0x94 [] o none
  | .sll1w32 o => .gen 0xA4 [] o none
  | .sll1w64 o => .gen 0xB4 [] o none
  | .sll2w16 o => .gen 0x95 [] o none
  | .sll2w32 o => .gen 0xA5 [(8, 0xD)] o none
  | .sll2w64 o => .gen 0xB5 [(0, 0xD), (8, 0xD)] o none
  | .sll3w16 o => .gen 0x96 [] o none
  | .sll3w32 o => .gen 0xA6 [(8, 0xE)] o none
  | .sll3w64 o => .gen 0xB6 [(0, 0xE)] o none
  | .cmpBr8 o a => .gen 0x30 [] o (some a)
  | .cmpBr16 o a => .gen 0x31 [] o (some a)
  | .cmpBr32 o a => .gen 0x32 [(10, 0x3)] o (some a)
  | .cmpBr64 o a => .gen 0x33 [(0, 0x3)] o (some a)
  | .cmpuBr8 o a => .gen 0x34 [] o (some a)
  | .cmpuBr16 o a => .gen 0x35 [] o (some a)
  | .cmpuBr32 o a => .gen 0x36 [] o (some a)
  | .cmpuBr64 o a => .gen 0x37 [] o (some a)
  | .cmp8 o a => .gen 0x20 [] o (some a)
  | .cmp16 o a => .gen 0x21 [] o (some a)
  | .cmp32 o a => .gen 0x22 [] o (some a)
  | .cmp64 o a => .gen 0x23 [] o (some a)
  | .cmpu8 o a => .gen 0x24 [] o (some a)
  | .cmpu16 o a => .gen 0x25 [] o (some a)
  | .cmpu32 o a => .gen 0x26 [] o (some a)
  | .cmpu64 o a => .gen 0x27 [] o (some a)
  | .fcmpBr32 o a => .gen 0x38 [(1, 0x3), (9, 0x3)] o (some a)
  | .fcmpBr64 o a => .gen 0x39 [(1, 0x2)] o (some a)
  | .fcmpxBr32 o a => .gen 0x3A [] o (some a)
  | .fcmpxBr64 o a => .gen 0x3B [] o (some a)
  | .fcmp32 o a => .gen 0x28 [] o (some a)
  | .fcmp64 o a => .gen 0x29 [] o (some a)
  | .fcmpx32 o a => .gen 0x2A [] o (some a)
  | .fcmpx64 o a => .gen 0x2B [] o (some a)
  | .fcmp80 x y z a => nonEnc 0xD 0x8 x (nibs y z :: a.bytes)
  | .fcmpBr80 x y z a => nonEnc 0xD 0x9 x (nibs y z :: a.bytes)
  | .fcmpx80 x y z a => nonEnc 0xD 0xA x (nibs y z :: a.bytes)
  | .fcmpxBr80 x y z a => nonEnc 0xD 0xB x (nibs y z :: a.bytes)
  | .cmpbBr x y z a => nonEnc 0xD 0x0 x (nibs y z :: a.bytes)
  | .cmpbBrConst x y z a => nonEnc 0xD 0x1 x (nibs y z :: a.bytes)
  | .cmpbTest x y z => nonEnc 0x7 0x5 x [nibs y z]
  | .cvtDe o => .gen 0xD7 [] o none
  | .cvtDi o => .gen 0xD3 [] o none
  | .cvtDs o => .gen 0xD6 [] o none
  | .cvtId o => .gen 0xD2 [] o none
  | .cvtIs o => .gen 0xC2 [] o none
  | .cvtSd o => .gen 0xC6 [] o none
  | .cvtSi o => .gen 0xC3 [] o none
  | .cvtSe o => .gen 0xC7 [] o none
  | .finp32 o => .gen 0xCF [] o none
  | .finp64 o => .gen 0xDF [] o none
  | .cvtAi x y z => nonEnc 0x7 0xC x [nibs y z]
  | .cvtIa x y z => nonEnc 0x7 0xD x [nibs y z]
  | .cvtIe x y z => nonEnc 0xF 0x2 x [nibs y z]
  | .cvtEi x y z => nonEnc 0xF 0x3 x [nibs y z]
  | .cvtEs x y z => nonEnc 0xF 0x6 x [nibs y z]
  | .cvtEd x y z => nonEnc 0xF 0x7 x [nibs y z]
  | .finp80 x y z => nonEnc 0xF 0xF x [nibs y z]
  | .brAbs u d => nonEnc 0xE 0x7 (u.extractLsb' 8 4) (u.extractLsb' 0 8 :: bytes32 d)
  | .brRel u d => nonEnc 0xE 0xF (u.extractLsb' 8 4) (u.extractLsb' 0 8 :: bytes32 d)
  | .brBackward b => .bytes [0xA0, b]
  | .brForward b => .bytes [0x20, b]
  | .brGtAbs x u d => nonEnc 0xE 0x1 x (u :: bytes32 d)
  | .brGtRel x u d => nonEnc 0xE 0x9 x (u :: bytes32 d)
  | .brBGtShRel x b => nonEnc 0xB 0x9 x [b]
  | .brFGtShRel x b => nonEnc 0x3 0x9 x [b]
  | .brEqAbs x u d => nonEnc 0xE 0x2 x (u :: bytes32 d)
  | .brEqRel x u d => nonEnc 0xE 0xA x (u :: bytes32 d)
  | .brBEqShRel x b => nonEnc 0xB 0xA x [b]
  | .brFEqShRel x b => nonEnc 0x3 0xA x [b]
  | .brGeAbs x u d => nonEnc 0xE 0x3 x (u :: bytes32 d)
  | .brGeRel x u d => nonEnc 0xE 0xB x (u :: bytes32 d)
  | .brBGeShRel x b => nonEnc 0xB 0xB x [b]
  | .brFGeShRel x b => nonEnc 0x3 0xB x [b]
  | .brLtAbs x u d => nonEnc 0xE 0x4 x (u :: bytes32 d)
  | .brLtRel x u d => nonEnc 0xE 0xC x (u :: bytes32 d)
  | .brBLtShRel x b => nonEnc 0xB 0xC x [b]
  | .brFLtShRel x b => nonEnc 0x3 0xC x [b]
  | .brNeAbs x u d => nonEnc 0xE 0x5 x (u :: bytes32 d)
  | .brNeRel x u d => nonEnc 0xE 0xD x (u :: bytes32 d)
  | .brBNeShRel x b => nonEnc 0xB 0xD x [b]
  | .brFNeShRel x b => nonEnc 0x3 0xD x [b]
  | .brLeAbs x u d => nonEnc 0xE 0x6 x (u :: bytes32 d)
  | .brLeRel x u d => nonEnc 0xE 0xE x (u :: bytes32 d)
  | .brBLeShRel x b => nonEnc 0xB 0xE x [b]
  | .brFLeShRel x b => nonEnc 0x3 0xE x [b]
  | .brReg x => nonEnc 0x6 0x0 x []
  | .call u d => nonEnc 0xE 0x0 (u.extractLsb' 8 4) (u.extractLsb' 0 8 :: bytes32 d)
  | .callReg x u d => nonEnc 0xE 0x8 x (u :: bytes32 d)
  | .exit u b => nonEnc 0x3 0x0 u [b]
  | .ixit u b => nonEnc 0x3 0x1 u [b]
  | .bxit u b => nonEnc 0x3 0x2 u [b]
  | .breakpoint => .bytes [0x10]
  | .exception x y z => nonEnc 0x0 0x0 x [nibs y z]
  | .exchLinkForward x y z => nonEnc 0x8 0x9 x [nibs y z]
  | .forwardMsg x y z => nonEnc 0x8 0xA x [nibs y z]
  | .sendSmallMsg x y z => nonEnc 0x8 0xE x [nibs y z]
  | .delLink x y z t v => nonEnc 0x9 0x1 x [nibs y z, nibs t v]
  | .attFunToChan x y z => nonEnc 0x8 p.opc.attFunToChan x [nibs y z]
  | .createFun x y z => nonEnc 0x8 p.opc.createFun x [nibs y z]
  | .createLink x y z => nonEnc 0x8 p.opc.createLink x [nibs y z]
  | .delFun x y z => nonEnc 0x8 p.opc.delFun x [nibs y z]
  | .delMsg x y z => nonEnc 0x8 p.opc.delMsg x [nibs y z]
  | .disableChanInt x y z => nonEnc 0x8 p.opc.disableChanInt x [nibs y z]
  | .disableFun x y z => nonEnc 0x8 p.opc.disableFun x [nibs y z]
  | .enableChanInt x y z => nonEnc 0x8 p.opc.enableChanInt x [nibs y z]
  | .enableFun x y z => nonEnc 0x8 p.opc.enableFun x [nibs y z]
  | .sendToHardware x y z => nonEnc 0x8 p.opc.sendToHardware x [nibs y z]
  | .setFunIntVector x y z => nonEnc 0x8 p.opc.setFunIntVector x [nibs y z]
  | .copyLink x y z t v => nonEnc 0x9 p.opc.copyLink x [nibs y z, nibs t v]
  | .passLink x y z t v => nonEnc 0x9 p.opc.passLink x [nibs y z, nibs t v]
  | .rcv x y z t v => nonEnc 0x9 p.opc.rcv x [nibs y z, nibs t v]
  | .rcvChan x y z t v => nonEnc 0x9 p.opc.rcvChan x [nibs y z, nibs t v]
  | .rcvLink x y z t v => nonEnc 0x9 p.opc.rcvLink x [nibs y z, nibs t v]
  | .rcvLinkOnChan x y z t v => nonEnc 0x9 p.opc.rcvLinkOnChan x [nibs y z, nibs t v]
  | .readFte x y z t v => nonEnc 0x9 p.opc.readFte x [nibs y z, nibs t v]
  | .readLte x y z t v => nonEnc 0x9 p.opc.readLte x [nibs y z, nibs t v]
  | .send x y z t v => nonEnc 0x9 p.opc.send x [nibs y z, nibs t v]
  | .setLocalPri x y z t v => nonEnc 0x9 p.opc.setLocalPri x [nibs y z, nibs t v]
  | .nop => .bytes [0x50]
  | .readMachId x => nonEnc 0x6 0x3 x []
  | .memoryMan x y z => nonEnc 0x7 0x0 x [nibs y z]
  | .modifyPme x y z => nonEnc 0x7 0x1 x [nibs y z]
  | .readCpuTimer x => nonEnc 0x6 p.opc.readCpuTimer x []
  | .readPme x => nonEnc 0x6 p.opc.readPme x []
  | .readRealTimer x => nonEnc 0x6 p.opc.readRealTimer x []
  | .readStat x => nonEnc 0x6 p.opc.readStat x []
  | .writeStat x => nonEnc 0x6 p.opc.writeStat x []

/-- The bytes of an instruction, as they stand in memory. -/
def encode (p : Params) (i : Instr) : List Byte := (i.enc p).toBytes

/-! ### The opcode table's words -/

/-- The instruction read from a word numbered as the opcode table numbers it: the instruction's bytes as one
big-endian number (R12, R140), with bytes of zero after them up to the longest instruction. -/
def tableBytes (nbits w : Nat) : List Byte := (beBytes (nbits / 8) w ++ List.replicate 9 0).take 9

/-- The instruction the decoder reads from a row of the opcode table. -/
def decodeTableWord (nbits w : Nat) : Option Instr :=
  match decode params (tableBytes nbits w) with
  | .ok (i, _) => some i
  | .error _ => none

end Sys2Proof
end

