-- ==== Sys2Proof/Machine/Assoc.lean ====
section
/-! DEFINITION. Sparse data by number: a list of (key, value) pairs with strictly rising keys. Memory, the page
map, the link table and the funnel table are held so (20_memory.md R80, R90; 10_state.md R44, R49). -/

namespace Sys2Proof.Machine.Assoc

variable {α : Type}

/-- The value under a key. -/
def get : List (Nat × α) → Nat → Option α
  | [], _ => none
  | (k, a) :: t, n => if k = n then some a else get t n

/-- Put a value under a key, keeping the keys in order. -/
def set : List (Nat × α) → Nat → α → List (Nat × α)
  | [], n, v => [(n, v)]
  | (k, a) :: t, n, v =>
    if n < k then (n, v) :: (k, a) :: t
    else if n = k then (n, v) :: t
    else (k, a) :: set t n v

/-- Take a key out. -/
def erase : List (Nat × α) → Nat → List (Nat × α)
  | [], _ => []
  | (k, a) :: t, n => if k = n then t else (k, a) :: erase t n

/-- All keys are above `n` and strictly rising. -/
def sortedFrom : Nat → List (Nat × α) → Bool
  | _, [] => true
  | n, (k, _) :: t => decide (n ≤ k) && sortedFrom (k + 1) t

/-- The keys are strictly rising. -/
def sorted (l : List (Nat × α)) : Bool := sortedFrom 0 l

/-- The keys, in order. -/
def keys (l : List (Nat × α)) : List Nat := l.map Prod.fst

end Sys2Proof.Machine.Assoc
end

