-- ==== Sys2Proof/Machine/State.lean ====
section
/-! DEFINITION. The state of one process's virtual machine (10_state.md), the ways a step can stop, and the
state at process start-up (R57, R771). -/

namespace Sys2Proof.Machine

open Sys2Proof

/-! ### Links, messages, funnels -/

/-- A defined link table entry's fields (R45, R46). -/
structure Lte where
  toFunnel : BitVec 8
  /-- High to low: unused, informOnPass, informOnCopy, informOnDelete, canPass, canCopy, canForward,
  toHardware. -/
  rights : BitVec 8
  toProcess : BitVec 16
  versionId : BitVec 22
  linkCode : BitVec 16
  linkGrail : BitVec 48
deriving DecidableEq, Repr

/-- The link table (R44, R47). `entries` lists the defined entries by link ID; `pages` the allocated pages of 128
entries, but page 0, which always is, in the order in which they were allocated. The free list is `free`, then the
IDs above 20 on allocated pages in neither list and without an entry, page by page in that order and rising on each,
then `freeTail` (notes/assumptions/8.md, 28.md). -/
structure LinkTable where
  entries : List (Nat × Lte)
  free : List Nat
  freeTail : List Nat
  pages : List Nat
  maxCreated : Nat
  /-- The number of links the creator of the process allows (R44). -/
  limit : Nat
  allocatablePages : Bool
  allocatablePageCount : BitVec 16
deriving DecidableEq, Repr

/-- A message in transit or queued on a funnel (R574). -/
structure Message where
  /-- The receive control information (R576). -/
  rci : Word
  data : List Byte
  link : Option Lte
deriving DecidableEq, Repr

/-- A defined funnel table entry (R50): the message count and the buffer addresses are read off the queue. -/
structure Funnel where
  channel : Chan
  vector : Addr
  queue : List Message
deriving DecidableEq, Repr

/-- The funnel table (R49, R52). The free list is as for links; `active` holds the funnels with messages in the
order in which they became active, of all channels together (R54, D55). -/
structure FunnelTable where
  entries : List (Nat × Funnel)
  free : List Nat
  freeTail : List Nat
  maxCreated : Nat
  page2 : Bool
  allocatablePages : Bool
  active : List Nat
deriving DecidableEq, Repr

/-- A page of the process's map: its access rights (R92) and the PME bits 60 to 63 (R91). -/
structure Page where
  r : Bool
  w : Bool
  x : Bool
  maintenance : Bool
  readTrace : Bool
  writeTrace : Bool
  executeTrace : Bool
deriving DecidableEq, Repr

/-! ### The environment -/

/-- Why the Debugger is entered (R701, R709). -/
inductive BreakReason | breakpoint | singleStep | executeBreak | readBreak | writeBreak
deriving DecidableEq, Repr

/-- What the environment does at an instruction boundary (R10, R702; notes/assumptions/12.md). -/
inductive EnvEvent
  /-- A message from another process reaches funnel `f` (R578). -/
  | arrival (f : BitVec 8) (m : Message)
  /-- Another agent stores into a page shared with this process (R104, R764). -/
  | sharedStore (a : Addr) (b : Byte)
  /-- The memory manager or the system changes the map of a page (R90). -/
  | remap (page : Nat) (p : Option Page)
  /-- BREAK_CONDITION holds of the instruction just executed (R714): reason 2, 3 or 4. -/
  | breakEntry (reason : BreakReason) (data : Addr)
  /-- The operating system changes the channel priority map (R38). -/
  | chanPrio (c : Chan) (v : BitVec 8)
  /-- The system ends the process (R742). -/
  | terminate
  /-- The Memory Manager restarts the process after a synchronous request (R671). -/
  | restart
  /-- The process goes on on another CPU, with that CPU's identification code (R42, R675, R764). -/
  | migrate (code : Word)
deriving DecidableEq, Repr

/-- What the process sends out of the model. -/
inductive OutEvent
  /-- A message on a link to another process (R570, D57). -/
  | send (dest : Lte) (m : Message)
  /-- The 64-bit message of SEND.TO.HARDWARE (R613). -/
  | hardware (process : BitVec 16) (v : Word)
  /-- The request of MEMORY.MAN to the Memory Manager: operation, address, number of bytes (R671). -/
  | memoryManager (code : Word) (a : Addr) (n : Word)
deriving DecidableEq, Repr

/-- Where the process stands with a synchronous request of MEMORY.MAN (R56 (f), R671). -/
inductive ManagerWait
  /-- No request is under way. -/
  | idle
  /-- The request has been sent; the process is stopped. -/
  | waiting
  /-- The Memory Manager has restarted the process; the instruction may end. -/
  | restarted
deriving DecidableEq, Repr

/-! ### The state -/

/-- The machine's state. -/
structure State where
  /-- R0 to R15 (R20, R22). -/
  regs : Vector Word 16
  /-- The program counter (R25). -/
  pc : Addr
  /-- The Process Status Word (R27, R28). -/
  psw : Word
  /-- The local priority (R36). -/
  lp : Chan
  /-- The channel interrupt mask, channel 0 its most significant bit (R37). -/
  chanMask : BitVec 16
  /-- The channel priority map (R38). -/
  chanPrio : Vector (BitVec 8) 16
  /-- The enabled funnels map, funnel `f` its bit of weight `2 ^ f` (R39). -/
  enabled : BitVec 256
  /-- The CPU timer (R40). -/
  cpuTimer : Word
  /-- The real-time clock, a signed count (R41). -/
  clock : Word
  /-- The CPU identification code (R42). -/
  machId : Word
  /-- The process ID (R43). -/
  processId : BitVec 16
  /-- The version ID (R43). -/
  versionId : BitVec 22
  /-- The link table (R44). -/
  links : LinkTable
  /-- The funnel table with its message queues (R49, R55). -/
  funnels : FunnelTable
  /-- The bytes of virtual memory that are not zero (R80, R86). -/
  mem : List Host.Cell
  /-- The allocated pages (R88, R90). -/
  pages : List (Nat × Page)
  /-- The address of the last instruction that executed (R740). -/
  lastPc : Addr
  /-- The process waits in a synchronous receive or a synchronous MEMORY.MAN (R56 (f), R579). -/
  blocked : Bool
  /-- The synchronous request of MEMORY.MAN (R56 (f), R671). -/
  manager : ManagerWait
  /-- The process has been ended (R742). -/
  ended : Bool
  /-- The model's own: the open parameters (R9); no step changes them (notes/assumptions/14.md). -/
  params : Config.Params
  /-- The model's own: what the environment does at each coming boundary (notes/assumptions/12.md). -/
  arrivals : List (List EnvEvent)
  /-- The model's own: what was sent out, oldest first (notes/assumptions/13.md). -/
  outputs : List OutEvent
  /-- The model's own: the counter the free values are applied to (notes/assumptions/11.md). -/
  draws : Nat
deriving DecidableEq, Repr

/-! ### Stops -/

/-- The ways a step stops with no further step. -/
inductive Fault
  /-- A store of an interrupt or Debugger frame is an access violation (R706, D61, U18: `stuck`). Raised by
  the frame entries. Safe. -/
  | frameStore
  /-- An instruction fetch is an access violation while PSW bit 58 is 0 (R740, U19: `stuck`). Raised by the
  step. Safe. -/
  | fetchUnhandled
  /-- The environment has ended the process (R742). Raised by the step. Safe. -/
  | terminated
deriving DecidableEq, Repr

/-- The cases to which the spec gives no effect (93_implementation_defined.md: `refuse`). -/
inductive Refusal
  /-- An instruction without a meaning in this model. Safe. -/
  | notModelled (mnemonic : String)
  /-- EXTRACT, EXTRACTZ, INSERT of a field past bit 63, or INSERT of a value wider than its field (U4, U5).
  Safe. -/
  | undefinedBitField
  /-- EXCH, EXCH.AND, EXCH.OR at an address that is not a multiple of 8 (U6, D23). Safe. -/
  | misalignedExchange
  /-- COPYB of more than 2^31 - 1 bytes (U8). Safe. -/
  | stringTooLong
  /-- BXIT with R0 neither 0 nor 1 (U16, D6). Safe. -/
  | bxitFlag
deriving DecidableEq, Repr

/-- The outcome of an instruction or of a step. -/
abbrev Res := Host.Outcome State Fault Refusal

/-! ### Start-up -/

/-- A page with these rights. DESIGN CHOICE (unsafe; notes/assumptions/6.md): its PME bits 60 to 63, of which the spec gives
no start-up value (R91, R771), are 0. -/
def Page.plain (r w x : Bool) : Page :=
  { r := r, w := w, x := x, maintenance := false, readTrace := false, writeTrace := false,
    executeTrace := false }

/-- INIT_LINKS: link 1 into funnel 2 of this process (R48). DESIGN CHOICE for the rest (unsafe;
notes/assumptions/8.md). -/
def initLinks : LinkTable where
  entries := [(1, { toFunnel := 2, rights := 0, toProcess := Config.processId,
                    versionId := Config.versionId, linkCode := 0, linkGrail := 0 })]
  free := []
  freeTail := [2, 3, 4, 5, 6, 7, 8, 9, 10, 11, 12, 13, 14, 15, 16, 17, 18, 19, 20]
  pages := []
  maxCreated := 1
  limit := 65535
  allocatablePages := true
  allocatablePageCount := 511

/-- INIT_FUNNELS: funnel 1 on channel 0 and funnel 2 on channel 1 (R53), empty (D9). DESIGN CHOICE for the
rest (unsafe; notes/assumptions/9.md). -/
def initFunnels : FunnelTable where
  entries := [(1, { channel := 0, vector := Config.params.sysHandlerPc, queue := [] }),
              (2, { channel := 1, vector := Config.dispatcherPc, queue := [] })]
  free := []
  freeTail := [3, 4, 5, 6, 7, 8, 9, 10, 11, 12, 13, 14, 15, 16, 17, 18, 19, 20]
  maxCreated := 2
  page2 := true
  allocatablePages := false
  active := []

/-- INIT_MEMORY's pages: data, code, the system's code, the stack; code is execute-only (R92, R772). DESIGN CHOICE (unsafe;
notes/assumptions/6.md). -/
def initPages : List (Nat × Page) :=
  [(0x4, .plain true true false), (0x20, .plain false false true), (0x21, .plain false false true),
   (0x60, .plain false false true), (0x80, .plain false false true), (0xA0, .plain false false true)]
  ++ [(0xF0, .plain true true false), (0xF1, .plain true true false), (0xF2, .plain true true false),
   (0xF3, .plain true true false), (0xF4, .plain true true false), (0xF5, .plain true true false),
   (0xF6, .plain true true false), (0xF7, .plain true true false)]
  ++ [(0xF8, .plain true true false), (0xF9, .plain true true false), (0xFA, .plain true true false),
   (0xFB, .plain true true false), (0xFC, .plain true true false), (0xFD, .plain true true false),
   (0xFE, .plain true true false), (0xFF, .plain true true false)]

/-- The machine right after reset, which is process start-up (R57, R770, R771). R0 to R14, the parameters
and the model's own fields: DESIGN CHOICE (unsafe; notes/assumptions/2.md, 4.md). -/
def State.reset : State where
  regs := (Vector.replicate 16 0).set 15 (zext32 Config.stackBase)
  pc := Config.entryPc
  psw := 0x0000A000000000A8
  lp := 15
  chanMask := Config.initChanMask
  chanPrio := Vector.replicate 16 0
  enabled := 0b110
  cpuTimer := 0
  clock := 0
  machId := Config.machId
  processId := Config.processId
  versionId := Config.versionId
  links := initLinks
  funnels := initFunnels
  mem := []
  pages := initPages
  lastPc := Config.entryPc
  blocked := false
  manager := .idle
  ended := false
  params := Config.params
  arrivals := []
  outputs := []
  draws := 0

end Sys2Proof.Machine
end

