-- ==== Sys2Proof/Machine/Flags.lean ====
section
/-! DEFINITION. The Process Status Word (R27 to R34) and the carry and overflow computations of integer
arithmetic (R261, R263). Bit numbers are the manual's: bit 0 is the most significant (R11). -/

namespace Sys2Proof.Machine

open Sys2Proof

/-! ### PSW bits -/

/-- The mask of the manual's bit `i` of a 64-bit word (R11). -/
def bitMask (i : Nat) : Word := BitVec.twoPow 64 (63 - i)

/-- The manual's bit `i` of a word (R11). -/
def wordBit (w : Word) (i : Nat) : Bool := w.getMsbD i

/-- A word with the manual's bit `i` made `b`. -/
def setWordBit (w : Word) (i : Nat) (b : Bool) : Word :=
  if b then w ||| bitMask i else w &&& ~~~(bitMask i)

/-- `psw<i>` (R13). -/
def State.pswBit (s : State) (i : Nat) : Bool := wordBit s.psw i

/-- `psw<i> <- b`. -/
def State.setPswBit (s : State) (i : Nat) (b : Bool) : State := { s with psw := setWordBit s.psw i b }

/-- CI, the integer carry bit (R30). -/
def State.ci (s : State) : Bool := s.pswBit 9
/-- CD, the decimal carry bit (R31). -/
def State.cd (s : State) : Bool := s.pswBit 10
/-- FZ, flush underflows to zero (R32). -/
def State.fz (s : State) : Bool := s.pswBit 11
/-- SS, single step pending (R33). -/
def State.ss (s : State) : Bool := s.pswBit 12

/-- CI <- b. -/
def State.setCi (s : State) (b : Bool) : State := s.setPswBit 9 b
/-- CD <- b. -/
def State.setCd (s : State) (b : Bool) : State := s.setPswBit 10 b
/-- SS <- b. -/
def State.setSs (s : State) (b : Bool) : State := s.setPswBit 12 b

/-- A rounding mode (R28). -/
inductive Rounding
  /-- 00, RN: to nearest. -/
  | nearest
  /-- 01, RZ: to zero. -/
  | zero
  /-- 10, RP: to plus infinity. -/
  | plus
  /-- 11, RM: to minus infinity. -/
  | minus
deriving DecidableEq, Repr

/-- RMODE (R28): PSW bits 0 and 1. -/
def State.rmode (s : State) : Rounding :=
  if s.pswBit 0 then (if s.pswBit 1 then .minus else .plus)
  else (if s.pswBit 1 then .zero else .nearest)

/-! ### Exception codes -/

/-- The exception codes of Table 2-3 that have a cause (R701, R723). -/
inductive ExcCode
  | intOverflow | intDivZero | fpOverflow | fpUnderflow | fpDivZero | fpInvalid | fpInexact
  | software | accessViolation | illegal
deriving DecidableEq, Repr

/-- The code's number (R723). -/
def ExcCode.num : ExcCode → Nat
  | .intOverflow => 0
  | .intDivZero => 1
  | .fpOverflow => 2
  | .fpUnderflow => 3
  | .fpDivZero => 4
  | .fpInvalid => 5
  | .fpInexact => 6
  | .software => 20
  | .accessViolation => 21
  | .illegal => 22

/-- The PSW bit that enables the handler of a code: 16 + 2c (R701). -/
def ExcCode.enableBit (c : ExcCode) : Nat := 16 + 2 * c.num
/-- The PSW bit that records a code: 17 + 2c (R701). -/
def ExcCode.occurredBit (c : ExcCode) : Nat := 17 + 2 * c.num

/-- The exception's handler is enabled (R34). -/
def State.excEnabled (s : State) (c : ExcCode) : Bool := s.pswBit c.enableBit

/-- Record an exception's occurrence (R34, R720). -/
def State.setOccurred (s : State) (c : ExcCode) : State := s.setPswBit c.occurredBit true

/-! ### Integer results -/

/-- What an integer operation gives: the destination's value, the new carry (none: CI is not written), whether
the exact result overflows (R261), and bits 64 to 127 of a product, which MUL alone gives its message (R275, R724). -/
structure IntOut where
  value : Word
  carry : Option Bool
  overflow : Bool
  info : Option Word
deriving DecidableEq, Repr

/-- "Actual result - high" and "actual result - low" of an overflow message (R724): zero, but for a product, of whose two
words R724 and R275 differ (notes/assumptions/47.md). -/
def IntOut.words (out : IntOut) (p : Config.Params) : Word × Word :=
  match out.info with
  | none => (0, 0)
  | some h => if p.mulHighInLow then (0, h) else (h, out.value)

/-- The carry bit as a number. -/
def carryNat (c : Bool) : Nat := if c then 1 else 0

/-- An exact signed result `S`: the destination gets `lo_64(S)`, overflow iff it does not fit (R261). -/
def signedOut (carry : Option Bool) (S : Int) : IntOut :=
  { value := lo64 S, carry := carry, overflow := !fitsSigned64 S, info := none }

/-- ADD: signed(A) + signed(B) + C, carry cleared (R264). -/
def intAdd (c : Bool) (a b : Word) : IntOut := signedOut (some false) (a.toInt + b.toInt + carryNat c)

/-- ADDUC: unsigned, carry set to the carry out (R265). -/
def intAdduc (c : Bool) (a b : Word) : IntOut :=
  let u := a.toNat + b.toNat + carryNat c
  { value := BitVec.ofNat 64 u, carry := some (decide (2 ^ 64 ≤ u)), overflow := false, info := none }

/-- SUB: signed(A) - signed(B) - C, carry cleared (R290). -/
def intSub (c : Bool) (a b : Word) : IntOut := signedOut (some false) (a.toInt - b.toInt - carryNat c)

/-- SUBR: signed(B) - signed(A) - C, carry cleared (R291). -/
def intSubr (c : Bool) (a b : Word) : IntOut := intSub c b a

/-- SUBUC: A + ~B + (1 - C), carry the complement of the carry out (R292). -/
def intSubuc (c : Bool) (a b : Word) : IntOut :=
  let u := a.toNat + (2 ^ 64 - 1 - b.toNat) + (1 - carryNat c)
  { value := BitVec.ofNat 64 u, carry := some (decide (u < 2 ^ 64)), overflow := false, info := none }

/-- SUBUCR: SUBUC with the operands exchanged (R293). -/
def intSubucr (c : Bool) (a b : Word) : IntOut := intSubuc c b a

/-- MUL: signed(A) * signed(B), carry untouched; the message carries product bits 64 to 127 (R275, R724). -/
def intMul (_ : Bool) (a b : Word) : IntOut :=
  let p := a.toInt * b.toInt
  { value := lo64 p, carry := none, overflow := !fitsSigned64 p, info := some (lo64 (p / 2 ^ 64)) }

/-- NEG: -signed(B), carry untouched (R280). -/
def intNeg (_ : Bool) (_ b : Word) : IntOut := signedOut none (-b.toInt)

/-- ADDI: signed(Rw) + k, the carry not added in, then cleared (R266). -/
def intAddi (a : Word) (k : Nib) : IntOut := signedOut (some false) (a.toInt + k.toNat)

/-- SUBI: signed(Rw) - (k + 1), the carry not subtracted, then cleared (R295). -/
def intSubi (a : Word) (k : Nib) : IntOut := signedOut (some false) (a.toInt - (k.toNat + 1))

/-- The quotient rounded toward zero, overflow checked, carry untouched (R270). -/
def intDiv (a b : Word) : IntOut := signedOut none (a.toInt.tdiv b.toInt)

/-- The remainder of the quotient rounded toward zero; it cannot overflow (R283). -/
def intRem (a b : Word) : IntOut :=
  { value := lo64 (a.toInt - a.toInt.tdiv b.toInt * b.toInt), carry := none, overflow := false, info := none }

/-- A shift distance: the low-order 6 bits (R300, R400). -/
def shiftDistance (b : Word) : Nat := b.toNat % 64

/-- SLA: signed(Ry) * 2^n, overflow as in multiplication (R300, D28). -/
def intSla (a b : Word) : IntOut := signedOut none (a.toInt * 2 ^ shiftDistance b)

/-- SRA: the floor of signed(Ry) / 2^n (R301). -/
def intSra (a b : Word) : IntOut :=
  { value := lo64 (a.toInt / 2 ^ shiftDistance b), carry := none, overflow := false, info := none }

end Sys2Proof.Machine
end

