-- ==== Sys2Proof/Machine/Ops.lean ====
section
/-! DEFINITION. The named operations over registers, memory, channels and messages; taking an exception
(R720), an interrupt (R706), a Debugger entry (R709); the return from one (R556, R557) is beside them. -/

namespace Sys2Proof.Machine

open Sys2Proof

/-! ### Results -/

/-- Go on from a next state; a stop stays a stop. -/
def Res.bind (r : Res) (f : State → Res) : Res :=
  match r with
  | .next s => f s
  | .fault e => .fault e
  | .refused e => .refused e

/-! ### Registers -/

/-- `x[r]` (R13, R20). -/
def State.reg (s : State) (r : Reg) : Word := s.regs.get ⟨r.toNat, r.isLt⟩

/-- `x[r] <- v` (R13, R20). -/
def State.setReg (s : State) (r : Reg) (v : Word) : State :=
  { s with regs := s.regs.set r.toNat v r.isLt }

/-- The stack pointer's register (R22). -/
def sp : Reg := 15

/-- `pc <- a`. -/
def State.setPc (s : State) (a : Addr) : State := { s with pc := a }

/-! ### Memory (20_memory.md) -/

/-- The byte at an address; an unlisted byte is zero (R86; notes/assumptions/7.md). -/
def readCell (m : List Host.Cell) (n : Nat) : Byte := (Assoc.get m n).getD 0

/-- Store a byte; a zero byte is not listed. -/
def writeCell (m : List Host.Cell) (n : Nat) (b : Byte) : List Host.Cell :=
  if b = 0 then Assoc.erase m n else Assoc.set m n b

/-- The canonical form of memory: addresses strictly rising and below 2^32, no zero byte listed. -/
def Memory.wf (m : List Host.Cell) : Bool :=
  Assoc.sorted m && m.all fun c => decide (c.1 < 2 ^ 32) && decide (c.2 ≠ 0)

/-- The byte of memory at an address (R80). -/
def State.byteAt (s : State) (a : Addr) : Byte := readCell s.mem a.toNat

/-- The `n` bytes from address `a` up, addresses modulo 2^32 (R100, R160). -/
def readBytes (m : List Host.Cell) (a : Addr) : Nat → List Byte
  | 0 => []
  | n + 1 => readCell m a.toNat :: readBytes m (a + 1) n

/-- Store bytes from address `a` up, addresses modulo 2^32 (R101, R160). -/
def writeBytes (m : List Host.Cell) (a : Addr) : List Byte → List Host.Cell
  | [] => m
  | b :: bs => writeBytes (writeCell m a.toNat b) (a + 1) bs

/-- The kinds of access a page's rights distinguish (R92). -/
inductive Access | read | write | fetch
deriving DecidableEq, Repr

/-- A page's rights allow the access (R92). -/
def Page.allows (p : Page) : Access → Bool
  | .read => p.r
  | .write => p.w
  | .fetch => p.x

/-- Page zero and the Reserved subspace are never allocated (R84). -/
def allocatable (a : Addr) : Bool := decide (2048 ≤ a.toNat) && decide (a.toNat < 0xC0000000)

/-- The page of an address: its bits 0 to 20 (R88). -/
def pageNo (a : Addr) : Nat := a.toNat / 2048

/-- The page an address lies in, if it is allocated (R84, R90). -/
def State.pageAt (s : State) (a : Addr) : Option Page :=
  if allocatable a then Assoc.get s.pages (pageNo a) else none

/-- One byte's access is no violation (R84, R92). -/
def State.allowed (s : State) (k : Access) (a : Addr) : Bool :=
  match s.pageAt a with
  | some p => p.allows k
  | none => false

/-- The access is no violation on any of `n` bytes from `a` up; each byte against its own page (R95, R100). -/
def State.allowedRange (s : State) (k : Access) (a : Addr) : Nat → Bool
  | 0 => true
  | n + 1 => s.allowed k a && s.allowedRange k (a + 1) n

/-- Read `n` bytes; none is an access violation (R100). -/
def State.load (s : State) (a : Addr) (n : Nat) : Option (List Byte) :=
  if s.allowedRange .read a n then some (readBytes s.mem a n) else none

/-- `MemRead(a, n)` as a number (R100). -/
def State.loadNat (s : State) (a : Addr) (n : Nat) : Option Nat := (s.load a n).map beNat

/-- Store bytes with no check of rights. -/
def State.poke (s : State) (a : Addr) (bs : List Byte) : State := { s with mem := writeBytes s.mem a bs }

/-- Store bytes; none is an access violation, and then no byte is stored (R101, D18). -/
def State.store (s : State) (a : Addr) (bs : List Byte) : Option State :=
  if s.allowedRange .write a bs.length then some (s.poke a bs) else none

/-- The 8 bytes of a register, most significant first (R81). -/
def wordBytes (w : Word) : List Byte := beBytes 8 w.toNat

/-- The low-order `n` bytes of a register, most significant first (R101). -/
def lowBytes (n : Nat) (w : Word) : List Byte := beBytes n w.toNat

/-- A register from its 8 bytes (R81). -/
def wordOf (bs : List Byte) : Word := BitVec.ofNat 64 (beNat bs)

/-! ### Free values (notes/assumptions/11.md) -/

/-- The slots of the free words used within one step. -/
inductive Slot
  | fromProcess | destHigh | destLow | regX | regY | regZ | sign | status | sendStatus
  | fteHead | fteTail | header | pme | freePos | fpBits | string
deriving DecidableEq, Repr

/-- The number a free value is drawn with. -/
def Slot.num : Slot → Nat
  | .fromProcess => 0
  | .destHigh => 1
  | .destLow => 2
  | .regX => 3
  | .regY => 4
  | .regZ => 5
  | .sign => 6
  | .status => 7
  | .sendStatus => 8
  | .fteHead => 9
  | .fteTail => 10
  | .header => 11
  | .pme => 12
  | .freePos => 13
  | .fpBits => 14
  | .string => 15

/-- An arbitrary word. -/
def State.anyWord (s : State) (k : Slot) : Word := Config.freeWord s.draws k.num
/-- An arbitrary truth value. -/
def State.anyBool (s : State) (k : Slot) : Bool := Config.freeBool s.draws k.num
/-- An arbitrary member of a list, `d` if it is empty. -/
def State.anyOf {α : Type} (s : State) (k : Slot) (l : List α) (d : α) : α :=
  l.getD (Config.freePick s.draws k.num % l.length) d

/-! ### Channels, funnels, local priority (R36 to R39, R54) -/

/-- The table entry of a funnel (R49). -/
def State.funnel (s : State) (f : Nat) : Option Funnel := Assoc.get s.funnels.entries f

/-- The enabled funnels map's bit (R39). -/
def State.funnelEnabled (s : State) (f : Nat) : Bool := s.enabled.getLsbD f

/-- The enabled funnels map with one bit set or cleared (R39). -/
def setFunnelBit (m : BitVec 256) (f : Nat) (b : Bool) : BitVec 256 :=
  if b then m ||| BitVec.twoPow 256 f else m &&& ~~~(BitVec.twoPow 256 f)

/-- The channel mask's bit of a channel, channel 0 the most significant (R37). -/
def chanBit (mask : BitVec 16) (c : Chan) : Bool := mask.getMsbD c.val

/-- The channels that are active, that is have a funnel with a message, with repeats (R54). -/
def activeChannels : List (Nat × Funnel) → List Chan
  | [] => []
  | (_, f) :: t => if f.queue.isEmpty then activeChannels t else f.channel :: activeChannels t

/-- The highest of some channels in priority, 15 if there is none (R640). -/
def highest : List Chan → Chan
  | [] => 15
  | c :: t => min c (highest t)

/-- `hpac`: the highest priority active channel, or 15 (R640). -/
def State.hpac (s : State) : Chan := highest (activeChannels s.funnels.entries)

/-- The set local priority function (R36, R640). -/
def State.setLocalPriority (s : State) (p : Chan) : State := { s with lp := min p s.hpac }

/-- Put a changed entry for a funnel (R49). -/
def State.setFunnel (s : State) (f : Nat) (e : Funnel) : State :=
  { s with funnels := { s.funnels with entries := Assoc.set s.funnels.entries f e } }

/-- A message reaches the tail of a funnel's queue (R578 step 2); an empty funnel becomes active. -/
def State.enqueue (s : State) (f : Nat) (e : Funnel) (m : Message) : State :=
  { s with funnels := { s.funnels with
      entries := Assoc.set s.funnels.entries f { e with queue := e.queue ++ [m] }
      active := if e.queue.isEmpty then s.funnels.active ++ [f] else s.funnels.active } }

/-- The head of a funnel's queue is taken off; a funnel left empty is no longer active (R54, R620). -/
def State.dequeue (s : State) (f : Nat) (e : Funnel) : State :=
  { s with funnels := { s.funnels with
      entries := Assoc.set s.funnels.entries f { e with queue := e.queue.tail }
      active := if e.queue.tail.isEmpty then s.funnels.active.filter (· ≠ f) else s.funnels.active } }

/-! ### Frames (R706, R707, R709, R710) -/

/-- The sixteen registers as they lie in a frame, R0 lowest (R706). -/
def State.regBytes (s : State) : List Byte := s.regs.toList.flatMap wordBytes

/-- The size of an interrupt frame (R706). -/
def intFrameSize : Nat := 144
/-- The size of a Debugger frame (R709). -/
def dbgFrameSize : Nat := 136

/-- The 144 bytes of an interrupt frame: R0 to RF, the old local priority, the PC (R706, R707, D42). -/
def State.intFrame (s : State) (lpBefore : Chan) : List Byte :=
  s.regBytes ++ wordBytes (BitVec.ofNat 64 lpBefore.val) ++ wordBytes (zext32 s.pc)

/-- The 136 bytes of a Debugger frame: R0 to RF, the PC (R709, R710). -/
def State.dbgFrame (s : State) : List Byte := s.regBytes ++ wordBytes (zext32 s.pc)

/-- Enter the interrupt handler at `vector` for funnel `f`; `s.pc` is the next instruction's address
(R706). A process that waited in a receive or for the Memory Manager waits no longer: the instruction is executed again
after the return (R579, R705). An access violation of the frame has no further
step (D61). -/
def interruptEntry (f : Nat) (vector : Addr) (lpBefore : Chan) (s : State) : Res :=
  let b := lo32 (s.reg sp) - 144
  match s.store b (s.intFrame lpBefore) with
  | none => .fault .frameStore
  | some s1 =>
    .next { ((((s1.setReg 15 (zext32 b)).setReg 0 (zext32 (b + 136))).setReg 1 (zext32 b)).setReg 2
      (BitVec.ofNat 64 f)) with pc := vector, blocked := false, manager := .idle }

/-- The reason code in R2 at the Debugger's entry (R701, R709). -/
def BreakReason.code : BreakReason → Word
  | .breakpoint => 0
  | .singleStep => 1
  | .executeBreak => 2
  | .readBreak => 3
  | .writeBreak => 4

/-- R3 at the Debugger's entry: the old PC, zero for a single step (R709). -/
def BreakReason.r3 (r : BreakReason) (oldPc : Addr) : Word :=
  match r with
  | .singleStep => 0
  | .breakpoint => zext32 oldPc
  | .executeBreak => zext32 oldPc
  | .readBreak => zext32 oldPc
  | .writeBreak => zext32 oldPc

/-- R4 at the Debugger's entry: the data address of a data break, else zero (R709). -/
def BreakReason.r4 (r : BreakReason) (data : Addr) : Word :=
  match r with
  | .readBreak => zext32 data
  | .writeBreak => zext32 data
  | .breakpoint => 0
  | .singleStep => 0
  | .executeBreak => 0

/-- The Debugger entered; `s.pc` is the next instruction's address; none where a store of the frame is an
access violation (R709). -/
def enterDebugger (r : BreakReason) (oldPc data : Addr) (s : State) : Option State :=
  let b := lo32 (s.reg sp) - 136
  (s.store b s.dbgFrame).map fun s1 =>
    (((((((s1.setReg 15 (zext32 b)).setReg 0 (zext32 (b + 128))).setReg 1 (zext32 b)).setReg 2
      r.code).setReg 3 (r.r3 oldPc)).setReg 4 (r.r4 data)).setSs false).setPc s.params.debuggerPc

/-- A Debugger entry between instructions: a frame that cannot be stored has no further step (D61). The
BREAKPOINT instruction raises an access violation instead (R554, D18). -/
def debuggerEntry (r : BreakReason) (oldPc data : Addr) (s : State) : Res :=
  match enterDebugger r oldPc data s with
  | none => .fault .frameStore
  | some s1 => .next s1

/-! ### Messages (R574 to R578) -/

/-- The receive control information (R576). -/
def mkRci (code : BitVec 16) (funnel : BitVec 8) (type : BitVec 8) (sender : BitVec 16) (n : Nat) : Word :=
  code ++ funnel ++ type ++ sender ++ BitVec.ofNat 16 n

/-- An arrival on a funnel of channel `c` interrupts (R703): `c` has interrupts enabled, is the highest
priority active channel after the arrival, and is above the local priority before it. -/
def State.interrupts (s : State) (c lpBefore : Chan) : Bool :=
  chanBit s.chanMask c && decide (c = s.hpac) && decide (c < lpBefore)

/-- `deliver(m, f)` for a funnel that is defined and enabled (R578 steps 2 to 4). -/
def deliverTo (f : Nat) (e : Funnel) (m : Message) (s : State) : Res :=
  let s1 := s.enqueue f e m
  let s2 := { s1 with lp := min s.lp e.channel }
  if s2.interrupts e.channel s.lp then interruptEntry f e.vector s.lp s2 else .next s2

/-- The funnel can take a message: it is defined and enabled (R578 step 1). -/
def State.openFunnel (s : State) (f : Nat) : Option Funnel :=
  if s.funnelEnabled f then s.funnel f else none

/-- `deliver(m, f)` (R578); a funnel that is not defined or not enabled refuses, and nothing changes. -/
def deliver (f : Nat) (m : Message) (s : State) : Res :=
  match s.openFunnel f with
  | some e => deliverTo f e m s
  | none => .next s

/-! ### Exceptions (R720 to R741) -/

/-- What an exception message tells: the code and the words 5, 7, 8 and 9 (R722). -/
structure Exc where
  code : ExcCode
  src1 : Word := 0
  src2 : Word := 0
  high : Word := 0
  low : Word := 0
deriving DecidableEq, Repr

/-- Bytes left justified in a field of `n` bytes. -/
def leftJustify (n : Nat) (bs : List Byte) : List Byte := (bs ++ List.replicate n 0).take n

/-- The 104 bytes of an exception message (R722); unused fields are zero (U25). -/
def excData (instr : List Byte) (pcField : Addr) (e : Exc) : List Byte :=
  leftJustify 9 instr ++ List.replicate 6 0 ++ [BitVec.ofNat 8 e.code.num]
    ++ beBytes 4 pcField.toNat ++ List.replicate 20 0
    ++ wordBytes e.src1 ++ List.replicate 8 0 ++ wordBytes e.src2
    ++ wordBytes e.high ++ wordBytes e.low ++ List.replicate 24 0

/-- The link the firmware sends exception messages on and the funnel they reach (R48, R53, R721). -/
def excLink : Nat := 1
/-- The user exception funnel (R53). -/
def excFunnel : Nat := 2

/-- The table entry of a link (R44). -/
def State.link (s : State) (id : Nat) : Option Lte := Assoc.get s.links.entries id

/-- The exception message's sender is not stated: any process ID (R721; notes/assumptions/16.md). -/
def State.excSender (s : State) : BitVec 16 := (s.anyWord .fromProcess).setWidth 16

/-- Send an exception message on link 1 into funnel 2; without link 1, or where funnel 2 is not defined or
not enabled, it is lost (R720, R721, R734; notes/assumptions/17.md). -/
def sendException (instr : List Byte) (pcField : Addr) (e : Exc) (s : State) : Res :=
  match s.link excLink with
  | none => .next s
  | some l =>
    deliver excFunnel
      { rci := mkRci l.linkCode 2 0 s.excSender 104, data := excData instr pcField e, link := none } s

/-- `raise` (R720) in general: record the exception; the next instruction is at `next`; if the handler is
enabled, send the message, whose arrival may interrupt. -/
def raiseAt (instr : List Byte) (pcField next : Addr) (e : Exc) (s : State) : Res :=
  let s1 := (s.setOccurred e.code).setPc next
  if s.excEnabled e.code then sendException instr pcField e s1 else .next s1

/-- The address after instruction `i` at the current pc (R26). -/
def State.nextPc (s : State) (i : Instr) : Addr := s.pc + BitVec.ofNat 32 i.ilen

/-- `raise` by instruction `i` at the current pc, the instruction's effects being in `s` (R720). -/
def raise (i : Instr) (e : Exc) (s : State) : Res :=
  raiseAt (encode s.params i) s.pc (s.nextPc i) e s

/-- An instruction's operand is an access violation: the message's instruction field is zero and nothing else
changes (R740, D18). -/
def accessViolation (i : Instr) (s : State) : Res :=
  raiseAt [] s.pc (s.nextPc i) { code := .accessViolation } s

/-- The Illegal or Unimplemented Instruction exception of an instruction that decodes (R23, R148 (d)). -/
def illegal (i : Instr) (s : State) : Res := raise i { code := .illegal } s

/-- The end of an instruction that does not transfer control (R26). -/
def advance (i : Instr) (s : State) : Res := .next (s.setPc (s.nextPc i))

/-- A result in a register, then the next instruction. -/
def finishReg (i : Instr) (r : Reg) (v : Word) (s : State) : Res := advance i (s.setReg r v)

/-! ### The return from an interrupt or from the Debugger (R556, R557) -/

/-- R0 to RF from the first 128 bytes of a frame (R556, R557). -/
def frameRegs (bs : List Byte) : Vector Word 16 := Vector.ofFn fun k => wordOf ((bs.drop (8 * k.val)).take 8)

/-- The word at an offset of a frame. -/
def frameWord (bs : List Byte) (off : Nat) : Word := wordOf ((bs.drop off).take 8)

/-- The low-order 4 bits of a word as a local priority (R557, R587). -/
def lowChan (w : Word) : Chan := ⟨w.toNat % 16, Nat.mod_lt _ (by decide)⟩

/-- The frame's address: SP plus the instruction's unsigned displacement, a 64-bit sum of which the low 32
bits count (R549, D51). -/
def State.frameAddr (s : State) (d : BitVec 8) : Addr := lo32 (s.reg sp + d.setWidth 64)

/-- The state an interrupt frame restores: the registers, the local priority through the set local priority
function, the PC (R557). No interrupt is generated (D54). -/
def State.leaveInterrupt (s : State) (bs : List Byte) : State :=
  ({ s with regs := frameRegs bs }.setLocalPriority (lowChan (frameWord bs 128))).setPc
    (lo32 (frameWord bs 136))

/-- The state a Debugger frame restores: the registers, the single-step state, the PC (R556). -/
def State.leaveDebugger (s : State) (step : Bool) (bs : List Byte) : State :=
  ({ s with regs := frameRegs bs }.setSs step).setPc (lo32 (frameWord bs 128))

/-- The return from an interrupt; all reads come before any change (R557, D18). -/
def returnFromInterrupt (i : Instr) (d : BitVec 8) (s : State) : Res :=
  match s.load (s.frameAddr d) intFrameSize with
  | none => accessViolation i s
  | some bs => .next (s.leaveInterrupt bs)

/-- The return from the Debugger; R0 other than 0 and 1 is undefined (R556, U16). -/
def returnFromDebugger (i : Instr) (d : BitVec 8) (s : State) : Res :=
  if s.reg 0 = 0 ∨ s.reg 0 = 1 then
    match s.load (s.frameAddr d) dbgFrameSize with
    | none => accessViolation i s
    | some bs => .next (s.leaveDebugger (decide (s.reg 0 = 1)) bs)
  else .refused .bxitFlag

end Sys2Proof.Machine
end

