-- ==== Sys2Proof/Machine/Operands.lean ====
section
/-! DEFINITION. The operands of the generalized and short-op instructions in every addressing mode (R150 to
R160), and the shared forms of the instructions that use them. -/

namespace Sys2Proof

/-- Nibble 3, Rx: Operand 1 (R142, R151). -/
def GOp.x : GOp → Reg
  | .m0 _ x => x
  | .m1 _ x => x
  | .m3 x _ _ => x
  | .m4 x _ => x
  | .m5 x _ _ => x
  | .m6 x _ _ _ => x
  | .m7 x _ _ _ => x
  | .m8 _ x => x
  | .m9 _ x => x
  | .mA _ x => x
  | .mB x _ _ => x
  | .mC x _ _ => x
  | .mD x _ _ => x
  | .mE x _ _ _ => x
  | .mF x _ _ _ => x

/-- The register of the first source operand: Rx in the "1 Register" modes 0, 1, 4, 8, 9, A, C, D, E, Ry in
the "2 Register" modes 3, 5, 6, 7, B, F (R151). -/
def GOp.a : GOp → Reg
  | .m0 _ x => x
  | .m1 _ x => x
  | .m3 _ y _ => y
  | .m4 x _ => x
  | .m5 _ y _ => y
  | .m6 _ y _ _ => y
  | .m7 _ y _ _ => y
  | .m8 _ x => x
  | .m9 _ x => x
  | .mA _ x => x
  | .mB _ y _ => y
  | .mC x _ _ => x
  | .mD x _ _ => x
  | .mE x _ _ _ => x
  | .mF _ y _ _ => y

/-- Nibble 2 of the modes 0, 1 and A, Rw (R143); in the other modes Rx. ADDI and SUBI write it (R266, R295). -/
def GOp.w : GOp → Reg
  | .m0 w _ => w
  | .m1 w _ => w
  | .m3 x _ _ => x
  | .m4 x _ => x
  | .m5 x _ _ => x
  | .m6 x _ _ _ => x
  | .m7 x _ _ _ => x
  | .m8 _ x => x
  | .m9 _ x => x
  | .mA w _ => w
  | .mB x _ _ => x
  | .mC x _ _ => x
  | .mD x _ _ => x
  | .mE x _ _ _ => x
  | .mF x _ _ _ => x

/-- How the last operand is found. -/
inductive LastOp
  /-- In a register: modes 0, 1 (Rw) and 3 (Rz). -/
  | reg (r : Reg)
  /-- An immediate, sign-extended to 64 bits: modes 5 and 7. -/
  | imm (v : Word)
  /-- In memory: the other modes. -/
  | mem
deriving DecidableEq, Repr

/-- The last operand's kind, by mode (R152). -/
def GOp.last : GOp → LastOp
  | .m0 w _ => .reg w
  | .m1 w _ => .reg w
  | .m3 _ _ z => .reg z
  | .m4 .. => .mem
  | .m5 _ _ imm => .imm (imm.signExtend 64)
  | .m6 .. => .mem
  | .m7 _ _ _ imm => .imm (imm.signExtend 64)
  | .m8 .. => .mem
  | .m9 .. => .mem
  | .mA .. => .mem
  | .mB .. => .mem
  | .mC .. => .mem
  | .mD .. => .mem
  | .mE .. => .mem
  | .mF .. => .mem

namespace Machine

/-- The effective address of a memory mode: each register counts with its low 32 bits, the sum is modulo
2^32 (R155, R160). The register and immediate modes have none (0 here). -/
def State.ea (s : State) : GOp → Addr
  | .m0 .. => 0
  | .m1 .. => 0
  | .m3 .. => 0
  | .m4 _ addr => addr.setWidth 32
  | .m5 .. => 0
  | .m6 _ _ _ addr => addr
  | .m7 .. => 0
  | .m8 n _ => lo32 (s.reg sp) + 4 * n.setWidth 32
  | .m9 n _ => lo32 (s.reg sp) + 4 * n.setWidth 32
  | .mA w _ => lo32 (s.reg w)
  | .mB _ _ z => lo32 (s.reg z)
  | .mC _ y z => lo32 (s.reg y) + lo32 (s.reg z)
  | .mD _ y disp => lo32 (s.reg y) + disp.signExtend 32
  | .mE _ y z disp => lo32 (s.reg y) + lo32 (s.reg z) + disp
  | .mF _ _ z disp => lo32 (s.reg z) + disp

/-- Sign or zero extension of a memory operand (R152). -/
inductive Ext | sign | zero
deriving DecidableEq, Repr

/-- An `n`-byte value extended to a register word (R110, R152). -/
def Ext.apply (e : Ext) (n v : Nat) : Word :=
  match e with
  | .sign => (BitVec.ofNat (8 * n) v).signExtend 64
  | .zero => (BitVec.ofNat (8 * n) v).setWidth 64

/-- `ext(MemRead(a, n))` (R152); none is an access violation. -/
def State.loadExt (s : State) (e : Ext) (a : Addr) (n : Nat) : Option Word := (s.loadNat a n).map (e.apply n)

/-- The last operand, `n` bytes of it where it is in memory (R152); none is an access violation. -/
def State.lastVal (s : State) (e : Ext) (n : Nat) (o : GOp) : Option Word :=
  match o.last with
  | .reg r => some (s.reg r)
  | .imm v => some v
  | .mem => s.loadExt e (s.ea o) n

/-- Use the last operand: an access violation, or the rest of the instruction (R100, R733). -/
def withLast (i : Instr) (e : Ext) (n : Nat) (o : GOp) (s : State) (k : Word → Res) : Res :=
  match s.lastVal e n o with
  | none => accessViolation i s
  | some b => k b

/-- A store of bytes at the effective address, then `k` (R101). -/
def withStore (i : Instr) (a : Addr) (bs : List Byte) (s : State) (k : State → Res) : Res :=
  match s.store a bs with
  | none => accessViolation i s
  | some s1 => k s1

/-- The last operand as a destination of `n` bytes: a register takes the whole word (modes 0, 1, 3), memory
its low-order bytes (R152, R208, R209). -/
def storeLast (i : Instr) (n : Nat) (o : GOp) (v : Word) (s : State) : Res :=
  match o.last with
  | .reg r => finishReg i r v s
  | .imm _ => illegal i s
  | .mem => withStore i (s.ea o) (lowBytes n v) s (advance i)

end Machine

end Sys2Proof
end

