-- ==== Sys2Proof/Machine/AsciiOps.lean ====
section
/-! DEFINITION. Numeric strings in a register (R121, R370, R371). -/

namespace Sys2Proof.Machine

open Sys2Proof

/-- A byte of the digit set: 00 or 30 to 39 (R371). -/
def isDigit (b : Byte) : Bool := decide (b = 0) || (decide (0x30 ≤ b.toNat) && decide (b.toNat ≤ 0x39))

/-- All eight bytes are digits (R371). -/
def isNumeric (w : Word) : Bool := (wordBytes w).all isDigit

/-- `val(r)` (R370): the number of eight decimal digits, most significant in byte 0. -/
def asciiVal (w : Word) : Nat := (wordBytes w).foldl (fun n b => 10 * n + b.toNat % 16) 0

/-- The `k` low-order decimal digits of a number in ASCII display format. -/
def asciiBytes : Nat → Nat → List Byte
  | 0, _ => []
  | k + 1, n => BitVec.ofNat 8 (0x30 + n / 10 ^ k % 10) :: asciiBytes k n

/-- `asc(v)` (R370): eight bytes 30 to 39. -/
def toAscii (n : Nat) : Word := wordOf (asciiBytes 8 n)

end Sys2Proof.Machine
end

