-- ==== Sys2Proof/Machine/Ascii.lean ====
section
/-! DEFINITION. ASCII arithmetic instructions (43_ascii_arithmetic.md). -/

namespace Sys2Proof.Machine

open Sys2Proof

/-- Operands that are no numeric strings make the result register and CD any value (R371, U11). -/
def asciiUndefined (i : Instr) (x : Reg) (s : State) : Res :=
  advance i ((s.setReg x (s.anyWord .destLow)).setCd (s.anyBool .sign))

/-- `val(Ry) + val(Rz) + CD` (R372). -/
def asciiSum (s : State) (y z : Reg) : Nat := asciiVal (s.reg y) + asciiVal (s.reg z) + carryNat s.cd

/-- `val(Ry) + (10^8 - 1 - val(Rz)) + (1 - CD)` (R374): Ry plus the 9's complement of Rz plus the complement of
the decimal carry. -/
def asciiDiff (s : State) (y z : Reg) : Nat :=
  asciiVal (s.reg y) + (10 ^ 8 - 1 - asciiVal (s.reg z)) + (1 - carryNat s.cd)

/-- Both source operands are numeric strings (R371). -/
def State.numericPair (s : State) (y z : Reg) : Bool := isNumeric (s.reg y) && isNumeric (s.reg z)

/-- ASCII.ADD: the carry is cleared (R372). -/
def execAsciiAdd (x y z : Reg) (s : State) : Res :=
  if s.numericPair y z then
    advance (.asciiAdd x y z) ((s.setReg x (toAscii (asciiSum s y z % 10 ^ 8))).setCd false)
  else asciiUndefined (.asciiAdd x y z) x s

/-- ASCII.ADDC: the carry is set to the carry out (R373). -/
def execAsciiAddc (x y z : Reg) (s : State) : Res :=
  if s.numericPair y z then
    advance (.asciiAddc x y z) ((s.setReg x (toAscii (asciiSum s y z % 10 ^ 8))).setCd
      (decide (10 ^ 8 ≤ asciiSum s y z)))
  else asciiUndefined (.asciiAddc x y z) x s

/-- The magnitude of a sum without carry out, `10^8 - s`; one that has nine digits is not stated: any eight digits, in
ASCII display format as every result is (R370, R374; notes/assumptions/38.md). -/
def asciiMagnitude (s : State) (n : Nat) : Word :=
  toAscii (if n = 0 then (s.anyWord .destLow).toNat % 10 ^ 8 else 10 ^ 8 - n)

/-- ASCII.SUB: the magnitude in Rx, the sign in Rt, the carry cleared (R374); one register for both holds any
value (U13). -/
def execAsciiSub (x y z t : Reg) (u : Nib) (s : State) : Res :=
  let i := Instr.asciiSub x y z t u
  if s.numericPair y z then
    let n := asciiDiff s y z
    let s1 := if 10 ^ 8 ≤ n then (s.setReg x (toAscii (n - 10 ^ 8))).setReg t 0
      else (s.setReg x (asciiMagnitude s n)).setReg t 1
    advance i ((if t = x then s1.setReg x (s.anyWord .regX) else s1).setCd false)
  else asciiUndefined i x (s.setReg t (s.anyWord .sign))

/-- ASCII.SUBC: the sum modulo 10^8, the carry set to the borrow (R375). -/
def execAsciiSubc (x y z : Reg) (s : State) : Res :=
  if s.numericPair y z then
    advance (.asciiSubc x y z) ((s.setReg x (toAscii (asciiDiff s y z % 10 ^ 8))).setCd
      (decide (asciiDiff s y z < 10 ^ 8)))
  else asciiUndefined (.asciiSubc x y z) x s

end Sys2Proof.Machine
end

