-- ==== Sys2Proof/Machine/Control.lean ====
section
/-! DEFINITION. Flow of control instructions (47_control_flow.md). -/

namespace Sys2Proof.Machine

open Sys2Proof

/-! ### Shared forms -/

/-- The register conditions (R521). -/
inductive Cond | gt | eq | ge | lt | ne | le
deriving DecidableEq, Repr

/-- The whole register as a signed integer against zero (R521). -/
def Cond.holds (c : Cond) (w : Word) : Bool :=
  match c with
  | .gt => decide (0 < w.toInt)
  | .eq => decide (w.toInt = 0)
  | .ge => decide (0 ≤ w.toInt)
  | .lt => decide (w.toInt < 0)
  | .ne => decide (w.toInt ≠ 0)
  | .le => decide (w.toInt ≤ 0)

/-- Transfer control (R520). -/
def jump (t : Addr) (s : State) : Res := .next (s.setPc t)

/-- A conditional branch: to the target, or on (R520, R526 to R543, R560 to R565). -/
def condBranch (i : Instr) (c : Cond) (x : Reg) (t : Addr) (s : State) : Res :=
  if c.holds (s.reg x) then jump t s else advance i s

/-! ### The instructions -/

/-- BR.ABS (R522). -/
def execBrAbs (_ : BitVec 12) (d : BitVec 32) (s : State) : Res := jump d s

/-- BR.REL (R523). -/
def execBrRel (_ : BitVec 12) (d : BitVec 32) (s : State) : Res := jump (s.pc + d) s

/-- BR.BACKWARD (R524). -/
def execBrBackward (b : BitVec 8) (s : State) : Res := jump (s.pc - b.setWidth 32) s

/-- BR.FORWARD (R525). -/
def execBrForward (b : BitVec 8) (s : State) : Res := jump (s.pc + b.setWidth 32) s

/-- BR.GT.ABS (R526). -/
def execBrGtAbs (x : Reg) (u : BitVec 8) (d : BitVec 32) (s : State) : Res :=
  condBranch (.brGtAbs x u d) .gt x d s

/-- BR.EQ.ABS (R527). -/
def execBrEqAbs (x : Reg) (u : BitVec 8) (d : BitVec 32) (s : State) : Res :=
  condBranch (.brEqAbs x u d) .eq x d s

/-- BR.GE.ABS (R528). -/
def execBrGeAbs (x : Reg) (u : BitVec 8) (d : BitVec 32) (s : State) : Res :=
  condBranch (.brGeAbs x u d) .ge x d s

/-- BR.LT.ABS (R529). -/
def execBrLtAbs (x : Reg) (u : BitVec 8) (d : BitVec 32) (s : State) : Res :=
  condBranch (.brLtAbs x u d) .lt x d s

/-- BR.NE.ABS (R530). -/
def execBrNeAbs (x : Reg) (u : BitVec 8) (d : BitVec 32) (s : State) : Res :=
  condBranch (.brNeAbs x u d) .ne x d s

/-- BR.LE.ABS (R531). -/
def execBrLeAbs (x : Reg) (u : BitVec 8) (d : BitVec 32) (s : State) : Res :=
  condBranch (.brLeAbs x u d) .le x d s

/-- BR.GT.REL (R532). -/
def execBrGtRel (x : Reg) (u : BitVec 8) (d : BitVec 32) (s : State) : Res :=
  condBranch (.brGtRel x u d) .gt x (s.pc + d) s

/-- BR.EQ.REL (R533). -/
def execBrEqRel (x : Reg) (u : BitVec 8) (d : BitVec 32) (s : State) : Res :=
  condBranch (.brEqRel x u d) .eq x (s.pc + d) s

/-- BR.GE.REL (R534). -/
def execBrGeRel (x : Reg) (u : BitVec 8) (d : BitVec 32) (s : State) : Res :=
  condBranch (.brGeRel x u d) .ge x (s.pc + d) s

/-- BR.LT.REL (R535). -/
def execBrLtRel (x : Reg) (u : BitVec 8) (d : BitVec 32) (s : State) : Res :=
  condBranch (.brLtRel x u d) .lt x (s.pc + d) s

/-- BR.NE.REL (R536). -/
def execBrNeRel (x : Reg) (u : BitVec 8) (d : BitVec 32) (s : State) : Res :=
  condBranch (.brNeRel x u d) .ne x (s.pc + d) s

/-- BR.LE.REL (R537). -/
def execBrLeRel (x : Reg) (u : BitVec 8) (d : BitVec 32) (s : State) : Res :=
  condBranch (.brLeRel x u d) .le x (s.pc + d) s

/-- BR.B.GT.SH.REL (R538). -/
def execBrBGtShRel (x : Reg) (b : BitVec 8) (s : State) : Res :=
  condBranch (.brBGtShRel x b) .gt x (s.pc - b.setWidth 32) s

/-- BR.B.EQ.SH.REL (R539). -/
def execBrBEqShRel (x : Reg) (b : BitVec 8) (s : State) : Res :=
  condBranch (.brBEqShRel x b) .eq x (s.pc - b.setWidth 32) s

/-- BR.B.GE.SH.REL (R540). -/
def execBrBGeShRel (x : Reg) (b : BitVec 8) (s : State) : Res :=
  condBranch (.brBGeShRel x b) .ge x (s.pc - b.setWidth 32) s

/-- BR.B.LT.SH.REL (R541). -/
def execBrBLtShRel (x : Reg) (b : BitVec 8) (s : State) : Res :=
  condBranch (.brBLtShRel x b) .lt x (s.pc - b.setWidth 32) s

/-- BR.B.NE.SH.REL (R542). -/
def execBrBNeShRel (x : Reg) (b : BitVec 8) (s : State) : Res :=
  condBranch (.brBNeShRel x b) .ne x (s.pc - b.setWidth 32) s

/-- BR.B.LE.SH.REL (R543). -/
def execBrBLeShRel (x : Reg) (b : BitVec 8) (s : State) : Res :=
  condBranch (.brBLeShRel x b) .le x (s.pc - b.setWidth 32) s

/-- BR.F.GT.SH.REL (R560). -/
def execBrFGtShRel (x : Reg) (b : BitVec 8) (s : State) : Res :=
  condBranch (.brFGtShRel x b) .gt x (s.pc + b.setWidth 32) s

/-- BR.F.EQ.SH.REL (R561). -/
def execBrFEqShRel (x : Reg) (b : BitVec 8) (s : State) : Res :=
  condBranch (.brFEqShRel x b) .eq x (s.pc + b.setWidth 32) s

/-- BR.F.GE.SH.REL (R562). -/
def execBrFGeShRel (x : Reg) (b : BitVec 8) (s : State) : Res :=
  condBranch (.brFGeShRel x b) .ge x (s.pc + b.setWidth 32) s

/-- BR.F.LT.SH.REL (R563). -/
def execBrFLtShRel (x : Reg) (b : BitVec 8) (s : State) : Res :=
  condBranch (.brFLtShRel x b) .lt x (s.pc + b.setWidth 32) s

/-- BR.F.NE.SH.REL (R564). -/
def execBrFNeShRel (x : Reg) (b : BitVec 8) (s : State) : Res :=
  condBranch (.brFNeShRel x b) .ne x (s.pc + b.setWidth 32) s

/-- BR.F.LE.SH.REL (R565). -/
def execBrFLeShRel (x : Reg) (b : BitVec 8) (s : State) : Res :=
  condBranch (.brFLeShRel x b) .le x (s.pc + b.setWidth 32) s

/-- BR.REG (R545). -/
def execBrReg (x : Reg) (s : State) : Res := jump (lo32 (s.reg x)) s

/-- CALL (R546). -/
def execCall (u : BitVec 12) (d : BitVec 32) (s : State) : Res :=
  withStore (.call u d) (lo32 (s.reg sp)) (beBytes 4 (s.pc + 7).toNat) s (jump d)

/-- CALL.REG (R548). -/
def execCallReg (x : Reg) (_ : BitVec 8) (d : BitVec 32) (s : State) : Res :=
  jump d (s.setReg x (zext32 (s.pc + 7)))

/-- EXIT (R549, D51). -/
def execExit (u : Nib) (b : BitVec 8) (s : State) : Res :=
  let t := s.reg sp + b.setWidth 64
  match s.loadNat (lo32 t) 4 with
  | none => accessViolation (.exit u b) s
  | some n => jump (BitVec.ofNat 32 n) (s.setReg sp t)

/-- IXIT (R557). -/
def execIxit (u : Nib) (b : BitVec 8) (s : State) : Res := returnFromInterrupt (.ixit u b) b s

/-- BXIT (R556). -/
def execBxit (u : Nib) (b : BitVec 8) (s : State) : Res := returnFromDebugger (.bxit u b) b s

/-- BREAKPOINT (R554): the Debugger entry, saved PC pc + 1; a frame that cannot be stored is an access
violation of the instruction and nothing is changed (D18). -/
def execBreakpoint (s : State) : Res :=
  match enterDebugger .breakpoint s.pc 0 (s.setPc (s.pc + 1)) with
  | none => accessViolation .breakpoint s
  | some s1 => .next s1

/-- EXCEPTION (R555, R726). -/
def execException (x y z : Reg) (s : State) : Res :=
  raise (.exception x y z) { code := .software, src1 := s.reg x, high := s.reg z } s

end Sys2Proof.Machine
end

