-- ==== Sys2Proof/Machine/FloatFormat.lean ====
section
/-! DEFINITION. The three floating-point formats (R112 to R117) as exact values, and rounding an exact value to
a format with its exceptions (R322 to R328). -/

namespace Sys2Proof.Machine

open Sys2Proof

/-! ### Formats -/

/-- The formats (R112). -/
inductive Fmt
  /-- 32 bits (R113). -/
  | single
  /-- 64 bits (R114). -/
  | double
  /-- 80 bits in 128 (R115). -/
  | extended
deriving DecidableEq, Repr

/-- A datum of any format, right justified in 128 bits; an extended datum is the pair Rn ++ R(n+1). -/
abbrev FBits := BitVec 128

/-- Significand bits, the hidden or integer bit included (R322). -/
def Fmt.prec : Fmt → Nat
  | .single => 24
  | .double => 53
  | .extended => 64
/-- The exponent bias (R113 to R115). -/
def Fmt.bias : Fmt → Int
  | .single => 127
  | .double => 1023
  | .extended => 16383
/-- The smallest exponent of a normal number (R113 to R115). -/
def Fmt.emin : Fmt → Int
  | .single => -126
  | .double => -1022
  | .extended => -16383
/-- The largest exponent (R325). -/
def Fmt.emax : Fmt → Int
  | .single => 127
  | .double => 1023
  | .extended => 16383
/-- The biased exponent of infinities and NaNs (R113 to R115). -/
def Fmt.maxBiased : Fmt → Nat
  | .single => 255
  | .double => 2047
  | .extended => 32767
/-- The adjustment of a scaled result's exponent (R325, R327). -/
def Fmt.scale : Fmt → Int
  | .single => 192
  | .double => 1536
  | .extended => 24576
/-- Fraction bits: those to the right of the binary point (R113 to R115). -/
def Fmt.fracBits (f : Fmt) : Nat := f.prec - 1
/-- The exponent of the last place of a denormalized number. -/
def Fmt.qmin (f : Fmt) : Int := f.emin - f.fracBits

/-! ### Values -/

/-- An operand's class and value (R116, Table 3-1). -/
inductive FVal
  | zero (neg : Bool)
  /-- A denormalized or normal number, `(-1)^neg * m * 2^e`, `m` not 0. -/
  | fin (neg : Bool) (m : Nat) (e : Int)
  | inf (neg : Bool)
  /-- A NaN with its sign and its fraction; quiet if the first fraction bit is 0 (R116). -/
  | nan (quiet neg : Bool) (frac : Nat)
  /-- An extended operand with biased exponent neither 0 nor 32767 and integer bit 0 (R115, U1). -/
  | undef
deriving DecidableEq, Repr

/-- A NaN by its first fraction bit (R116). -/
def nanOf (f : Fmt) (neg : Bool) (frac : Nat) : FVal :=
  .nan (decide (frac < 2 ^ (f.fracBits - 1))) neg frac

/-- The value of a single or double datum's fields (R113, R114, R116). -/
def classifyHidden (f : Fmt) (neg : Bool) (biased frac : Nat) : FVal :=
  if biased = f.maxBiased then (if frac = 0 then .inf neg else nanOf f neg frac)
  else if biased = 0 then (if frac = 0 then .zero neg else .fin neg frac f.qmin)
  else .fin neg (2 ^ f.fracBits + frac) ((biased : Int) - f.bias - f.fracBits)

/-- The value of an extended datum's fields, `sig` being the integer bit and the fraction (R115, R116). -/
def classifyExtended (neg : Bool) (biased sig : Nat) : FVal :=
  if biased = 32767 then (if sig = 0 then .inf neg else nanOf .extended neg (sig % 2 ^ 63))
  else if 2 ^ 63 ≤ sig then .fin neg sig ((biased : Int) - 16383 - 63)
  else if biased = 0 then (if sig = 0 then .zero neg else .fin neg sig (-16383 - 63))
  else .undef

/-- The class and value of a datum; unused bits are ignored (R112 to R116, D21). -/
def classify (f : Fmt) (b : FBits) : FVal :=
  let n := b.toNat
  match f with
  | .single => classifyHidden .single (b.getLsbD 31) (n / 2 ^ 23 % 2 ^ 8) (n % 2 ^ 23)
  | .double => classifyHidden .double (b.getLsbD 63) (n / 2 ^ 52 % 2 ^ 11) (n % 2 ^ 52)
  | .extended => classifyExtended (b.getLsbD 127) (n / 2 ^ 112 % 2 ^ 15) (n % 2 ^ 64)

/-- A datum from its fields; `sig` is the fraction, with the integer bit in the extended format; unused bits
are zero (R113 to R115, D21). -/
def packFields (f : Fmt) (neg : Bool) (biased sig : Nat) : FBits :=
  let s := if neg then 1 else 0
  match f with
  | .single => BitVec.ofNat 128 (s * 2 ^ 31 + biased * 2 ^ 23 + sig)
  | .double => BitVec.ofNat 128 (s * 2 ^ 63 + biased * 2 ^ 52 + sig)
  | .extended => BitVec.ofNat 128 (s * 2 ^ 127 + biased * 2 ^ 112 + sig)

/-- A signed zero. -/
def packZero (f : Fmt) (neg : Bool) : FBits := packFields f neg 0 0
/-- A signed infinity; the extended one has integer bit 0 (R116). -/
def packInf (f : Fmt) (neg : Bool) : FBits := packFields f neg f.maxBiased 0
/-- The largest normalized number (R325). -/
def packLargest (f : Fmt) (neg : Bool) : FBits :=
  match f with
  | .single => packFields .single neg 254 (2 ^ 23 - 1)
  | .double => packFields .double neg 2046 (2 ^ 52 - 1)
  | .extended => packFields .extended neg 32766 (2 ^ 64 - 1)
/-- The canonical quiet NaN with a sign (R117, R483); the default result of an invalid operation has sign 0. -/
def packNan (f : Fmt) (neg : Bool) : FBits :=
  match f with
  | .single => packFields .single neg 255 1
  | .double => packFields .double neg 2047 0x20000000
  | .extended => packFields .extended neg 32767 0x8000010000000000

/-- A non-zero number `m * 2^q` with `m < 2^prec`, where `m` has all its `prec` bits or `q` is the last place of
a denormalized number. -/
def packFinite (f : Fmt) (neg : Bool) (m : Nat) (q : Int) : FBits :=
  let lead := 2 ^ f.fracBits
  let biased := if m < lead then 0 else (q + f.fracBits + f.bias).toNat
  match f with
  | .single => packFields .single neg biased (m % lead)
  | .double => packFields .double neg biased (m % lead)
  | .extended => packFields .extended neg biased m

/-- A datum with its unused bits made zero (D21). -/
def cleanBits (f : Fmt) (b : FBits) : FBits :=
  match f with
  | .single => b &&& 0xFFFFFFFF
  | .double => b &&& 0xFFFFFFFFFFFFFFFF
  | .extended => b &&& 0xFFFF000000000000FFFFFFFFFFFFFFFF

/-! ### Rounding -/

/-- Whether the magnitude goes up by one unit: `odd` tells the unit's last bit, `lo` the discarded part out of
`2^d` (R322). -/
def roundsUp (mode : Rounding) (neg odd : Bool) (lo d : Nat) : Bool :=
  match mode with
  | .nearest => decide (2 ^ d < 2 * lo) || (decide (2 ^ d = 2 * lo) && odd)
  | .zero => false
  | .plus => !neg && decide (lo ≠ 0)
  | .minus => neg && decide (lo ≠ 0)

/-- `m * 2^e` rounded to a multiple of `2^q`, in units of `2^q`; whether information was lost (R322). -/
def roundAt (mode : Rounding) (neg : Bool) (m : Nat) (e q : Int) : Nat × Bool :=
  if q ≤ e then (m * 2 ^ (e - q).toNat, false)
  else
    let d := (q - e).toNat
    let hi := m / 2 ^ d
    let lo := m % 2 ^ d
    (if roundsUp mode neg (hi % 2 = 1) lo d then hi + 1 else hi, decide (lo ≠ 0))

/-- The exponent of a positive number's leading bit. -/
def leadExp (m : Nat) (e : Int) : Int := e + Nat.log2 m

/-- A positive number rounded to `prec` bits with an unbounded exponent: significand, last place, whether
information was lost (R322). -/
def roundPrec (f : Fmt) (mode : Rounding) (neg : Bool) (m : Nat) (e : Int) : Nat × Int × Bool :=
  let q := leadExp m e - f.fracBits
  let r := roundAt mode neg m e q
  if r.1 = 2 ^ f.prec then (2 ^ f.fracBits, q + 1, r.2) else (r.1, q, r.2)

/-- What the PSW gives a floating-point operation: RMODE, FZ, the five enables; and an arbitrary datum for a
scaled result that its format cannot hold (notes/assumptions/23.md). -/
structure FEnv where
  mode : Rounding
  fz : Bool
  ovf : Bool
  unf : Bool
  dvz : Bool
  inv : Bool
  inx : Bool
  spare : FBits
deriving DecidableEq, Repr

/-- What an operation gives: the datum delivered, or the exception whose handler takes it with the message's
actual result; and the exceptions that occurred. -/
inductive FOut
  /-- An operand is undefined: any datum, any of the five occurred bits (R115, U1). -/
  | undefined
  | done (bits : FBits) (occurred : List ExcCode)
  | taken (code : ExcCode) (info : FBits) (occurred : List ExcCode)
deriving DecidableEq, Repr

/-- A computed datum, inexact or not, its handler enabled or not (R326, R328). DEDUCED (unsafe;
notes/assumptions/22.md): where an overflow or a flushed underflow with its own handler disabled is inexact too, the datum
of the Inexact message is the default result. -/
def inexactOut (env : FEnv) (bits : FBits) (lost : Bool) (occurred : List ExcCode) : FOut :=
  if lost && env.inx then .taken .fpInexact bits occurred else .done bits occurred

/-- Invalid Operation (R323): the canonical quiet NaN, or the handler. -/
def invalidOut (env : FEnv) (f : Fmt) : FOut :=
  if env.inv then .taken .fpInvalid 0 [.fpInvalid] else .done (packNan f false) [.fpInvalid]

/-- Floating-point Divide by Zero (R324). -/
def divZeroOut (env : FEnv) (f : Fmt) (neg : Bool) : FOut :=
  if env.dvz then .taken .fpDivZero 0 [.fpDivZero] else .done (packInf f neg) [.fpDivZero]

/-- The default result of an overflow, by rounding mode and sign (R325). -/
def overflowDefault (f : Fmt) (mode : Rounding) (neg : Bool) : FBits :=
  match mode with
  | .nearest => packInf f neg
  | .zero => packLargest f neg
  | .plus => if neg then packLargest f neg else packInf f neg
  | .minus => if neg then packInf f neg else packLargest f neg

/-- The result rounded to the format's precision with its exponent adjusted by `delta` (R325, R327). -/
def scaledBits (env : FEnv) (f : Fmt) (neg : Bool) (m : Nat) (e delta : Int) : FBits :=
  let r := roundPrec f env.mode neg m e
  let q := r.2.1 + delta
  let E := q + f.fracBits
  if f.emin ≤ E ∧ E ≤ f.emax then packFinite f neg r.1 q else env.spare

/-- A tiny result: underflow, before rounding (R327, R328). -/
def underflowOut (env : FEnv) (f : Fmt) (neg : Bool) (m : Nat) (e : Int) : FOut :=
  if env.unf then
    .taken .fpUnderflow (scaledBits env f neg m e f.scale)
      (if (roundPrec f env.mode neg m e).2.2 then [.fpUnderflow, .fpInexact] else [.fpUnderflow])
  else if env.fz then inexactOut env (packZero f neg) true [.fpUnderflow, .fpInexact]
  else
    let r := roundAt env.mode neg m e f.qmin
    inexactOut env (packFinite f neg r.1 f.qmin) r.2 (if r.2 then [.fpUnderflow, .fpInexact] else [])

/-- The exact non-zero value `(-1)^neg * m * 2^e` delivered in a format (R322, R325 to R328). -/
def roundOut (env : FEnv) (f : Fmt) (neg : Bool) (m : Nat) (e : Int) : FOut :=
  if leadExp m e < f.emin then underflowOut env f neg m e
  else
    let r := roundPrec f env.mode neg m e
    if f.emax < r.2.1 + f.fracBits then
      if env.ovf then .taken .fpOverflow (scaledBits env f neg m e (-f.scale)) [.fpOverflow, .fpInexact]
      else inexactOut env (overflowDefault f env.mode neg) true [.fpOverflow, .fpInexact]
    else inexactOut env (packFinite f neg r.1 r.2.1) r.2.2 (if r.2.2 then [.fpInexact] else [])

/-- An exact value that the format holds, such as a remainder or an operand delivered as it is. -/
def packExact (f : Fmt) (neg : Bool) (m : Nat) (e : Int) : FBits :=
  if m = 0 then packZero f neg
  else
    let q := max f.qmin (leadExp m e - f.fracBits)
    packFinite f neg (roundAt .nearest neg m e q).1 q

end Sys2Proof.Machine
end

