-- ==== Sys2Proof/Machine/FloatArith.lean ====
section
/-! DEFINITION. The floating-point operations on data of one format (42_floating_point.md), the conversions'
(46_conversion.md) and the compares' (45_relational.md R440). -/

namespace Sys2Proof.Machine

open Sys2Proof

/-! ### NaN and undefined operands (R321) -/

/-- The value is a signaling NaN. -/
def FVal.isSignaling : FVal → Bool
  | .nan quiet _ _ => !quiet
  | .zero _ => false
  | .fin .. => false
  | .inf _ => false
  | .undef => false
/-- The value is a NaN. -/
def FVal.isNan : FVal → Bool
  | .nan .. => true
  | .zero _ => false
  | .fin .. => false
  | .inf _ => false
  | .undef => false

/-- The tests before an operation's own matrix, for the sources A and B in R320's order: undefined operands,
signaling NaNs, quiet NaNs, A's first (R321, D31, U1). -/
def nanTests (env : FEnv) (f : Fmt) (a b : FBits) (k : FOut) : FOut :=
  let va := classify f a
  let vb := classify f b
  if va = .undef ∨ vb = .undef then .undefined
  else if va.isSignaling || vb.isSignaling then invalidOut env f
  else if va.isNan then .done (cleanBits f a) []
  else if vb.isNan then .done (cleanBits f b) []
  else k

/-! ### Arithmetic on values that are no NaN -/

/-- The value with its sign changed. -/
def FVal.negate : FVal → FVal
  | .zero s => .zero (!s)
  | .fin s m e => .fin (!s) m e
  | .inf s => .inf (!s)
  | .nan q s fr => .nan q s fr
  | .undef => .undef

/-- The sign of a sum of magnitude zero (R332 (1)). -/
def zeroSumSign (mode : Rounding) : Bool := decide (mode = .minus)

/-- A signed magnitude as an integer. -/
def signedNat (neg : Bool) (m : Nat) : Int := if neg then -(m : Int) else m

/-- The exact sum of two finite numbers in units of `2^(min e1 e2)`. -/
def exactSum (n1 : Bool) (m1 : Nat) (e1 : Int) (n2 : Bool) (m2 : Nat) (e2 : Int) : Int :=
  let e := min e1 e2
  signedNat n1 (m1 * 2 ^ (e1 - e).toNat) + signedNat n2 (m2 * 2 ^ (e2 - e).toNat)

/-- Table 7-1 (R332): OP1 + OP2. -/
def addVals (env : FEnv) (f : Fmt) (x y : FVal) : FOut :=
  match x, y with
  | .zero s1, .zero s2 => .done (packZero f (if s1 = s2 then s1 else zeroSumSign env.mode)) []
  | .zero _, .fin s m e => .done (packExact f s m e) []
  | .fin s m e, .zero _ => .done (packExact f s m e) []
  | .fin s1 m1 e1, .fin s2 m2 e2 =>
    let z := exactSum s1 m1 e1 s2 m2 e2
    if z = 0 then .done (packZero f (zeroSumSign env.mode)) []
    else roundOut env f (decide (z < 0)) z.natAbs (min e1 e2)
  | .inf s1, .inf s2 => if s1 = s2 then .done (packInf f s1) [] else invalidOut env f
  | .inf s, _ => .done (packInf f s) []
  | _, .inf s => .done (packInf f s) []
  | _, _ => .undefined

/-- Table 7-3 (R340): OP1 * OP2. -/
def mulVals (env : FEnv) (f : Fmt) (x y : FVal) : FOut :=
  match x, y with
  | .zero s1, .zero s2 => .done (packZero f (s1 ^^ s2)) []
  | .zero s1, .fin s2 _ _ => .done (packZero f (s1 ^^ s2)) []
  | .fin s1 _ _, .zero s2 => .done (packZero f (s1 ^^ s2)) []
  | .fin s1 m1 e1, .fin s2 m2 e2 => roundOut env f (s1 ^^ s2) (m1 * m2) (e1 + e2)
  | .zero _, .inf _ => invalidOut env f
  | .inf _, .zero _ => invalidOut env f
  | .inf s1, .fin s2 _ _ => .done (packInf f (s1 ^^ s2)) []
  | .fin s1 _ _, .inf s2 => .done (packInf f (s1 ^^ s2)) []
  | .inf s1, .inf s2 => .done (packInf f (s1 ^^ s2)) []
  | _, _ => .undefined

/-- The quotient of two positive integers with more than `prec` + 2 bits, the last bit standing for a lost
remainder: `(m, e)` with m * 2^e in place of the exact quotient, alike for every rounding (R322). -/
def quotient (f : Fmt) (m1 : Nat) (e1 : Int) (m2 : Nat) (e2 : Int) : Nat × Int :=
  let k := f.prec + 4 + Nat.log2 m2
  let q := m1 * 2 ^ k / m2
  let r := m1 * 2 ^ k % m2
  (2 * q + (if r = 0 then 0 else 1), e1 - e2 - k - 1)

/-- Table 7-2 (R345): dividend by divisor. -/
def divVals (env : FEnv) (f : Fmt) (x y : FVal) : FOut :=
  match x, y with
  | .zero _, .zero _ => invalidOut env f
  | .zero s1, .fin s2 _ _ => .done (packZero f (s1 ^^ s2)) []
  | .zero s1, .inf s2 => .done (packZero f (s1 ^^ s2)) []
  | .fin s1 _ _, .zero s2 => divZeroOut env f (s1 ^^ s2)
  | .fin s1 m1 e1, .fin s2 m2 e2 =>
    let q := quotient f m1 e1 m2 e2
    roundOut env f (s1 ^^ s2) q.1 q.2
  | .fin s1 _ _, .inf s2 => .done (packZero f (s1 ^^ s2)) []
  | .inf s1, .zero s2 => .done (packInf f (s1 ^^ s2)) []
  | .inf s1, .fin s2 _ _ => .done (packInf f (s1 ^^ s2)) []
  | .inf _, .inf _ => invalidOut env f
  | _, _ => .undefined

/-- FADD: A + B (R330). -/
def fadd (env : FEnv) (f : Fmt) (a b : FBits) : FOut :=
  nanTests env f a b (addVals env f (classify f a) (classify f b))
/-- FSUB: A + (-B) (R333). -/
def fsub (env : FEnv) (f : Fmt) (a b : FBits) : FOut :=
  nanTests env f a b (addVals env f (classify f a) (classify f b).negate)
/-- FSUBR: B + (-A) (R334). -/
def fsubr (env : FEnv) (f : Fmt) (a b : FBits) : FOut :=
  nanTests env f a b (addVals env f (classify f b) (classify f a).negate)
/-- FMUL: A * B (R340). -/
def fmul (env : FEnv) (f : Fmt) (a b : FBits) : FOut :=
  nanTests env f a b (mulVals env f (classify f a) (classify f b))
/-- FDIV: A / B (R345). -/
def fdiv (env : FEnv) (f : Fmt) (a b : FBits) : FOut :=
  nanTests env f a b (divVals env f (classify f a) (classify f b))
/-- FDIVR: B / A (R346). -/
def fdivr (env : FEnv) (f : Fmt) (a b : FBits) : FOut :=
  nanTests env f a b (divVals env f (classify f b) (classify f a))

/-! ### Square root (R355; notes/assumptions/34.md) -/

/-- The integer square root of `n`, `n < 4^k`. -/
def isqrt (n : Nat) : Nat → Nat
  | 0 => 0
  | k + 1 =>
    let r := 2 * isqrt (n / 4) k
    if (r + 1) * (r + 1) ≤ n then r + 1 else r

/-- Table 7-5 (R355). -/
def fsqrt (env : FEnv) (f : Fmt) (b : FBits) : FOut :=
  nanTests env f b b <|
    match classify f b with
    | .zero s => .done (packZero f s) []
    | .inf s => if s then invalidOut env f else .done (packInf f false) []
    | .fin true _ _ => invalidOut env f
    | .fin false m e =>
      let k := 2 * (f.prec + 3) + (e % 2).toNat
      let n := m * 2 ^ k
      let r := isqrt n (Nat.log2 n + 1)
      roundOut env f false (2 * r + (if r * r = n then 0 else 1)) ((e - k) / 2 - 1)
    | _ => .undefined

/-! ### Remainder (R350) -/

/-- What FREM gives: nothing, a datum for Rz alone, or the quotient for Rx and the remainder for Rz. -/
inductive RemOut
  | undefined
  | nothing
  | dest (out : FOut)
  | both (quot : Word) (rem : FBits)
deriving DecidableEq, Repr

/-- The quotient of two naturals rounded to nearest even (R350). -/
def nearestQuot (a b : Nat) : Nat :=
  if b < 2 * (a % b) ∨ (b = 2 * (a % b) ∧ (a / b) % 2 = 1) then a / b + 1 else a / b

/-- The computed case of FREM: dividend by divisor (R350). -/
def remFinite (f : Fmt) (s1 : Bool) (m1 : Nat) (e1 : Int) (s2 : Bool) (m2 : Nat) (e2 : Int) : RemOut :=
  let e := min e1 e2
  let a := m1 * 2 ^ (e1 - e).toNat
  let b := m2 * 2 ^ (e2 - e).toNat
  let q := nearestQuot a b
  if q = 0 then .nothing
  else
    let r : Int := a - q * b
    .both (lo64 (signedNat (s1 ^^ s2) q))
      (if r = 0 then packZero f s1 else packExact f (s1 ^^ decide (r < 0)) r.natAbs e)

/-- FREM of the dividend `d` (Rz) by the divisor `v` (Ry) (R321, R350, Table 7-4, D35). DEDUCED, unsafe: of two quiet
NaNs the divisor's is delivered, Ry taken as D31's first source (notes/assumptions/22.md). -/
def frem (env : FEnv) (f : Fmt) (v d : FBits) : RemOut :=
  let x := classify f d
  let y := classify f v
  if x = .undef ∨ y = .undef then .undefined
  else if x.isNan || y.isNan then .dest (nanTests env f v d .undefined)
  else match x, y with
    | .inf _, _ => .dest (invalidOut env f)
    | _, .zero _ => .dest (invalidOut env f)
    | .zero _, _ => .nothing
    | _, .inf _ => .nothing
    | .fin s1 m1 e1, .fin s2 m2 e2 => remFinite f s1 m1 e1 s2 m2 e2
    | _, _ => .undefined

/-! ### Conversions (46_conversion.md) -/

/-- A quiet NaN in another format: fraction bits appended as zeros or truncated; an all-zero fraction becomes
the canonical quiet NaN with the sign (R483, D39). -/
def convertNan (src dst : Fmt) (neg : Bool) (frac : Nat) : FBits :=
  let kept := if src.fracBits ≤ dst.fracBits then frac * 2 ^ (dst.fracBits - src.fracBits)
    else frac / 2 ^ (src.fracBits - dst.fracBits)
  if kept = 0 then packNan dst neg
  else match dst with
    | .single => packFields .single neg 255 kept
    | .double => packFields .double neg 2047 kept
    | .extended => packFields .extended neg 32767 (2 ^ 63 + kept)

/-- A floating-point datum in another format (R481, R486, R488, R489, R491, R495, R497). -/
def fconvert (env : FEnv) (src dst : Fmt) (b : FBits) : FOut :=
  match classify src b with
  | .zero s => .done (packZero dst s) []
  | .fin s m e => roundOut env dst s m e
  | .inf s => .done (packInf dst s) []
  | .nan quiet s frac => if quiet then .done (convertNan src dst s frac) [] else invalidOut env dst
  | .undef => .undefined

/-- A signed integer in a floating-point format (R492 to R494). -/
def ofInteger (env : FEnv) (dst : Fmt) (n : Int) : FOut :=
  if n = 0 then .done (packZero dst false) [] else roundOut env dst (decide (n < 0)) n.natAbs 0

/-- The truncated value of `m * 2^e` (R482). -/
def truncAbs (m : Nat) (e : Int) : Nat := if 0 ≤ e then m * 2 ^ e.toNat else m / 2 ^ (-e).toNat

/-- What a conversion to integer gives (R481, R482): an integer, Invalid Operation, or an undefined operand. -/
inductive ToInt
  | undefined
  | invalid
  | int (n : Int)
deriving DecidableEq, Repr

/-- A floating-point datum as an integer (R482, R487, R490, R496). -/
def toInteger (src : Fmt) (b : FBits) : ToInt :=
  match classify src b with
  | .zero _ => .int 0
  | .fin s m e => .int (signedNat s (truncAbs m e))
  | .inf _ => .invalid
  | .nan .. => .invalid
  | .undef => .undefined

/-- FINP: rounded at the binary point by RMODE, the sign kept (R498, D40). -/
def finp (env : FEnv) (f : Fmt) (b : FBits) : FOut :=
  match classify f b with
  | .zero s => .done (packZero f s) []
  | .fin s m e =>
    if 0 ≤ e then .done (packExact f s m e) []
    else
      let r := roundAt env.mode s m e 0
      inexactOut env (packExact f s r.1 0) r.2 (if r.2 then [.fpInexact] else [])
  | .inf _ => invalidOut env f
  | .nan .. => invalidOut env f
  | .undef => .undefined

/-! ### Comparison (R440) -/

/-- The four mutually exclusive relations (R432). -/
inductive Rel | unordered | less | equal | greater
deriving DecidableEq, Repr

/-- The relation of two integers. -/
def relInt (a b : Int) : Rel := if a < b then .less else if a = b then .equal else .greater

/-- The relation of two operands that are neither NaN nor undefined, by value (R440). -/
def relVals (x y : FVal) : Rel :=
  match x, y with
  | .inf s1, .inf s2 => if s1 = s2 then .equal else if s1 then .less else .greater
  | .inf s, _ => if s then .less else .greater
  | _, .inf s => if s then .greater else .less
  | .zero _, .zero _ => .equal
  | .zero _, .fin s _ _ => if s then .greater else .less
  | .fin s _ _, .zero _ => if s then .less else .greater
  | .fin s1 m1 e1, .fin s2 m2 e2 => relInt (exactSum s1 m1 e1 (!s2) m2 e2) 0
  | _, _ => .unordered

/-- What a floating-point compare finds (R440). -/
inductive FCmp
  | undefined
  | invalid
  | rel (r : Rel)
deriving DecidableEq, Repr

/-- The unordered test, then the relation; `excepted` is FCMPX's condition (R440 step 1). -/
def fcompare (excepted : Bool) (f : Fmt) (a b : FBits) : FCmp :=
  let x := classify f a
  let y := classify f b
  if x = .undef ∨ y = .undef then .undefined
  else if x.isSignaling || y.isSignaling || (excepted && (x.isNan || y.isNan)) then .invalid
  else .rel (if x.isNan || y.isNan then .unordered else relVals x y)

end Sys2Proof.Machine
end

