-- ==== Sys2Proof/Machine/FloatOps.lean ====
section
/-! DEFINITION. Floating-point operands and results in registers and memory (R320), and the shared forms of the
floating-point instructions. -/

namespace Sys2Proof.Machine

open Sys2Proof

/-- The bytes of a memory operand. -/
def Fmt.bytes : Fmt → Nat
  | .single => 4
  | .double => 8
  | .extended => 16

/-- An operand of a format from one register word: its low-order 32 bits, or the word (R320). -/
def wordDatum (f : Fmt) (w : Word) : FBits :=
  match f with
  | .single => (w.setWidth 32 : BitVec 32).setWidth 128
  | .double => w.setWidth 128
  | .extended => w.setWidth 128

/-- An extended operand from a register pair (R112). -/
def State.pair (s : State) (r : Reg) : FBits := s.reg r ++ s.reg (r + 1)

/-- A register pair may be a source: n is not 15 (R320, D3, U17). -/
def pairSource (r : Reg) : Bool := decide (r ≠ 15)

/-- A register pair may be a destination: n is neither 14 nor 15 (R23, D3, U17). -/
def pairTarget (r : Reg) : Bool := decide (r ≠ 14) && decide (r ≠ 15)

/-- The high word of a datum. -/
def FBits.hi (b : FBits) : Word := b.extractLsb' 64 64
/-- The low word of a datum. -/
def FBits.lo (b : FBits) : Word := b.extractLsb' 0 64

/-- A result in its destination: one register, or the pair (R320, D21). -/
def writeDatum (f : Fmt) (r : Reg) (b : FBits) (s : State) : State :=
  match f with
  | .single => s.setReg r (FBits.lo b)
  | .double => s.setReg r (FBits.lo b)
  | .extended => (s.setReg r (FBits.hi b)).setReg (r + 1) (FBits.lo b)

/-- What the PSW gives a floating-point operation (R32, R34). -/
def State.fenv (s : State) : FEnv where
  mode := s.rmode
  fz := s.fz
  ovf := s.excEnabled .fpOverflow
  unf := s.excEnabled .fpUnderflow
  dvz := s.excEnabled .fpDivZero
  inv := s.excEnabled .fpInvalid
  inx := s.excEnabled .fpInexact
  spare := s.anyWord .destHigh ++ s.anyWord .destLow

/-- Record several exceptions' occurrence. -/
def State.setAllOccurred (s : State) : List ExcCode → State
  | [] => s
  | c :: cs => (s.setOccurred c).setAllOccurred cs

/-- Record an exception's occurrence or not. -/
def State.setOccurredIf (s : State) (c : ExcCode) (b : Bool) : State := if b then s.setOccurred c else s

/-- Any of the five floating-point occurred bits set (U1). -/
def State.anyFpBits (s : State) : State :=
  let w := s.anyWord .fpBits
  ((((s.setOccurredIf .fpOverflow (w.getLsbD 0)).setOccurredIf .fpUnderflow (w.getLsbD 1)).setOccurredIf
    .fpDivZero (w.getLsbD 2)).setOccurredIf .fpInvalid (w.getLsbD 3)).setOccurredIf .fpInexact (w.getLsbD 4)

/-- An arbitrary datum. -/
def State.anyDatum (s : State) : FBits := s.anyWord .destHigh ++ s.anyWord .destLow

/-- The end of a floating-point operation whose result `write` places, with the instruction's bytes and the address
of the next one: delivered, or taken by a handler, and then not placed (R323 to R328, R725, R729, D32, U1). -/
def finishFloatAt (instr : List Byte) (next : Addr) (write : FBits → State → State) (out : FOut) (s : State) : Res :=
  match out with
  | .undefined => .next ((write s.anyDatum s.anyFpBits).setPc next)
  | .done bits occ => .next ((write bits (s.setAllOccurred occ)).setPc next)
  | .taken c info occ =>
    raiseAt instr s.pc next { code := c, high := FBits.hi info, low := FBits.lo info } (s.setAllOccurred occ)

/-- The end of instruction `i`'s floating-point operation. -/
def finishFloatBy (i : Instr) (write : FBits → State → State) (out : FOut) (s : State) : Res :=
  finishFloatAt (encode s.params i) (s.nextPc i) write out s

/-- The same with destination `r` of format `f`. -/
def finishFloat (i : Instr) (f : Fmt) (r : Reg) (out : FOut) (s : State) : Res :=
  finishFloatBy i (writeDatum f r) out s

/-- A generalized operation on A and the last operand (R320). -/
def floatOp (i : Instr) (f : Fmt) (op : FEnv → Fmt → FBits → FBits → FOut) (o : GOp) (s : State) : Res :=
  withLast i .zero f.bytes o s fun b =>
    finishFloat i f o.x (op s.fenv f (wordDatum f (s.reg o.a)) (wordDatum f b)) s

/-- An extended operation on two pairs (R320, R331). -/
def floatPairOp (i : Instr) (op : FEnv → Fmt → FBits → FBits → FOut) (x y z : Reg) (s : State) : Res :=
  if pairTarget x && pairSource y && pairSource z then
    finishFloat i .extended x (op s.fenv .extended (s.pair y) (s.pair z)) s
  else illegal i s

/-- A conversion from a generalized last operand of `n` bytes to a floating-point datum (R480). -/
def convertOp (i : Instr) (n : Nat) (dst : Fmt) (op : FEnv → Word → FOut) (o : GOp) (s : State) : Res :=
  if dst = .extended ∧ pairTarget o.x = false then illegal i s
  else withLast i .zero n o s fun b => finishFloat i dst o.x (op s.fenv b) s

/-- The end of a conversion to integer: overflow as for every integer result; Invalid Operation delivers no
defined value (R482, D41, U15). -/
def finishToInt (i : Instr) (r : Reg) (out : ToInt) (s : State) : Res :=
  match out with
  | .undefined => advance i (s.anyFpBits.setReg r (s.anyWord .destLow))
  | .invalid =>
    if s.excEnabled .fpInvalid then raise i { code := .fpInvalid } s
    else advance i ((s.setOccurred .fpInvalid).setReg r (s.anyWord .destLow))
  | .int n =>
    let s1 := s.setReg r (lo64 n)
    if fitsSigned64 n then advance i s1 else raise i { code := .intOverflow } s1

end Sys2Proof.Machine
end

