-- ==== Sys2Proof/Machine/Conversion.lean ====
section
/-! DEFINITION. Data conversion instructions (46_conversion.md). -/

namespace Sys2Proof.Machine

open Sys2Proof

/-! ### Shared forms -/

/-- Single or double to integer (R480, R482). -/
def toIntOp (i : Instr) (src : Fmt) (o : GOp) (s : State) : Res :=
  withLast i .zero src.bytes o s fun b => finishToInt i o.x (toInteger src (wordDatum src b)) s

/-- Single or double to another format (R480, R481). -/
def floatToFloat (i : Instr) (src dst : Fmt) (o : GOp) (s : State) : Res :=
  convertOp i src.bytes dst (fun env b => fconvert env src dst (wordDatum src b)) o s

/-- A 64-bit integer to single or double (R480, R492). -/
def intToFloat (i : Instr) (dst : Fmt) (o : GOp) (s : State) : Res :=
  convertOp i 8 dst (fun env b => ofInteger env dst b.toInt) o s

/-- FINP.32 and FINP.64 (R498). -/
def finpOp (i : Instr) (f : Fmt) (o : GOp) (s : State) : Res :=
  convertOp i f.bytes f (fun env b => finp env f (wordDatum f b)) o s

/-- Extended, in a pair, to single or double (R489, R491). -/
def pairToFloat (i : Instr) (dst : Fmt) (x z : Reg) (s : State) : Res :=
  if pairSource z then finishFloat i dst x (fconvert s.fenv .extended dst (s.pair z)) s else illegal i s

/-! ### The instructions -/

/-- CVT.AI (R484); a byte that is no digit makes the result any value (U11). -/
def execCvtAi (x y z : Reg) (s : State) : Res :=
  finishReg (.cvtAi x y z) x (if isNumeric (s.reg z) then BitVec.ofNat 64 (asciiVal (s.reg z))
    else s.anyWord .destLow) s

/-- CVT.IA (R485); outside 0 to 99,999,999 the result is any value (U12). -/
def execCvtIa (x y z : Reg) (s : State) : Res :=
  let n := (s.reg z).toInt
  finishReg (.cvtIa x y z) x (if 0 ≤ n ∧ n < 10 ^ 8 then toAscii n.toNat else s.anyWord .destLow) s

/-- CVT.DE (R486). -/
def execCvtDe (o : GOp) (s : State) : Res :=
  floatToFloat (.cvtDe o) .double .extended o s

/-- CVT.DI (R487). -/
def execCvtDi (o : GOp) (s : State) : Res :=
  toIntOp (.cvtDi o) .double o s

/-- CVT.DS (R488). -/
def execCvtDs (o : GOp) (s : State) : Res :=
  floatToFloat (.cvtDs o) .double .single o s

/-- CVT.ED (R489). -/
def execCvtEd (x y z : Reg) (s : State) : Res :=
  pairToFloat (.cvtEd x y z) .double x z s

/-- CVT.EI (R490). -/
def execCvtEi (x y z : Reg) (s : State) : Res :=
  if pairSource z then finishToInt (.cvtEi x y z) x (toInteger .extended (s.pair z)) s
  else illegal (.cvtEi x y z) s

/-- CVT.ES (R491). -/
def execCvtEs (x y z : Reg) (s : State) : Res :=
  pairToFloat (.cvtEs x y z) .single x z s

/-- CVT.ID (R492). -/
def execCvtId (o : GOp) (s : State) : Res :=
  intToFloat (.cvtId o) .double o s

/-- CVT.IE (R494). -/
def execCvtIe (x y z : Reg) (s : State) : Res :=
  if pairTarget x then finishFloat (.cvtIe x y z) .extended x (ofInteger s.fenv .extended (s.reg z).toInt) s
  else illegal (.cvtIe x y z) s

/-- CVT.IS (R493). -/
def execCvtIs (o : GOp) (s : State) : Res :=
  intToFloat (.cvtIs o) .single o s

/-- CVT.SD (R495). -/
def execCvtSd (o : GOp) (s : State) : Res :=
  floatToFloat (.cvtSd o) .single .double o s

/-- CVT.SE (R497). -/
def execCvtSe (o : GOp) (s : State) : Res :=
  floatToFloat (.cvtSe o) .single .extended o s

/-- CVT.SI (R496). -/
def execCvtSi (o : GOp) (s : State) : Res :=
  toIntOp (.cvtSi o) .single o s

/-- FINP.32 (R498). -/
def execFinp32 (o : GOp) (s : State) : Res :=
  finpOp (.finp32 o) .single o s

/-- FINP.64 (R498). -/
def execFinp64 (o : GOp) (s : State) : Res :=
  finpOp (.finp64 o) .double o s

/-- FINP.80 (R499). -/
def execFinp80 (x y z : Reg) (s : State) : Res :=
  if pairTarget x && pairSource z then finishFloat (.finp80 x y z) .extended x (finp s.fenv .extended (s.pair z)) s
  else illegal (.finp80 x y z) s

end Sys2Proof.Machine
end

