-- ==== Sys2Proof/Machine/DataTransfer.lean ====
section
/-! DEFINITION. Data transfer instructions (40_data_transfer.md). -/

namespace Sys2Proof.Machine

open Sys2Proof

/-! ### Shared forms -/

/-- LD and LDZ: Rx takes the last operand, `n` bytes of it extended where it is in memory (R201, R202). -/
def loadOp (i : Instr) (e : Ext) (n : Nat) (o : GOp) (s : State) : Res :=
  withLast i e n o s fun v => finishReg i o.x v s

/-- ST: the low-order `n` bytes of Rx to memory (R204). -/
def storeOp (i : Instr) (n : Nat) (o : GOp) (s : State) : Res :=
  withStore i (s.ea o) (lowBytes n (s.reg o.x)) s (advance i)

/-- A register's value is the sign extension of its low-order `n` bytes (R207). -/
def fitsSigned (n : Nat) (v : Word) : Bool := decide (v = (v.setWidth (8 * n)).signExtend 64)

/-- STV: the store, then the overflow check of the whole register (R207). -/
def storeChecked (i : Instr) (n : Nat) (o : GOp) (s : State) : Res :=
  withStore i (s.ea o) (lowBytes n (s.reg o.x)) s fun s1 =>
    if fitsSigned n (s.reg o.x) then advance i s1 else raise i { code := .intOverflow } s1

/-- STI: the unsigned value of nibble 3 (R208). -/
def storeImm (i : Instr) (n : Nat) (o : GOp) (s : State) : Res := storeLast i n o (o.x.setWidth 64) s

/-- STIN: the one's complement of the zero-extended nibble 3 (R209). -/
def storeImmNot (i : Instr) (n : Nat) (o : GOp) (s : State) : Res :=
  storeLast i n o (~~~(o.x.setWidth 64 : Word)) s

/-- The field of `64 - c` bits that starts at bit `st`, right justified, sign-extended (R210). -/
def fieldSigned (v : Word) (st c : Nat) : Word := (v <<< st).sshiftRight c

/-- The same field zero-extended (R211). -/
def fieldZero (v : Word) (st c : Nat) : Word := (v <<< st) >>> c

/-- EXTRACT and EXTRACTZ; a field past bit 63 is undefined (R210, R211, U4). -/
def extractOp (i : Instr) (field : Word → Nat → Nat → Word) (x z : Reg) (f : FieldApp) (s : State) : Res :=
  if f.start.toNat + (64 - f.len.toNat) ≤ 64 then
    finishReg i x (field (s.reg z) f.start.toNat f.len.toNat) s
  else .refused .undefinedBitField

/-- The `len` low-order bits of `v` over bits `st` to `st + len - 1` of `image` (R212). -/
def insertField (image v : Word) (st len : Nat) : Word :=
  let mask := (BitVec.ofNat 64 (2 ^ len - 1)) <<< (64 - st - len)
  (image &&& ~~~mask) ||| (v <<< (64 - st - len))

/-- EXCH, EXCH.AND, EXCH.OR: memory takes `f Rx old`, Rx the old memory word (R240 to R243); an address that
is no multiple of 8 is undefined (U6, D23). The access needs both rights. -/
def exchangeOp (i : Instr) (f : Word → Word → Word) (x z : Reg) (s : State) : Res :=
  let a := lo32 (s.reg z)
  if a.toNat % 8 = 0 then
    match s.load a 8 with
    | none => accessViolation i s
    | some bs => withStore i a (wordBytes (f (s.reg x) (wordOf bs))) s (finishReg i x (wordOf bs))
  else .refused .misalignedExchange

/-- The bytes of a destination range that may be written hold any value after a string copy that an access
violation cut short (R245, D18, U9). -/
def scrambleBytes (s : State) (m : List Host.Cell) (a : Addr) (off : Nat) : Nat → List Host.Cell
  | 0 => m
  | n + 1 =>
    let m1 := if s.allowed .write a then writeCell m a.toNat (Config.freeByte s.draws off) else m
    scrambleBytes s m1 (a + 1) (off + 1) n

/-- The access violation of a string copy (R245, D18, U9). -/
def stringViolation (i : Instr) (a : Addr) (n : Nat) (s : State) : Res :=
  accessViolation i { s with mem := scrambleBytes s s.mem a 0 (min n (2 ^ 32)) }

/-- The constant string: the bytes of a word over and over, byte 0 first (R246). -/
def constString (v : Word) (n : Nat) : List Byte :=
  (List.range n).map fun k => (wordBytes v).getD (k % 8) 0

/-! ### The instructions -/

/-- LD.8 (R201). -/
def execLd8 (o : GOp) (s : State) : Res :=
  loadOp (.ld8 o) .sign 1 o s

/-- LD.16 (R201). -/
def execLd16 (o : GOp) (s : State) : Res :=
  loadOp (.ld16 o) .sign 2 o s

/-- LD.32 (R201). -/
def execLd32 (o : GOp) (s : State) : Res :=
  loadOp (.ld32 o) .sign 4 o s

/-- LD.64 (R201). -/
def execLd64 (o : GOp) (s : State) : Res :=
  loadOp (.ld64 o) .sign 8 o s

/-- LDZ.8 (R202). -/
def execLdz8 (o : GOp) (s : State) : Res :=
  loadOp (.ldz8 o) .zero 1 o s

/-- LDZ.16 (R202). -/
def execLdz16 (o : GOp) (s : State) : Res :=
  loadOp (.ldz16 o) .zero 2 o s

/-- LDZ.24 (R202). -/
def execLdz24 (o : GOp) (s : State) : Res :=
  loadOp (.ldz24 o) .zero 3 o s

/-- LDZ.32 (R202). -/
def execLdz32 (o : GOp) (s : State) : Res :=
  loadOp (.ldz32 o) .zero 4 o s

/-- LDZ.40 (R202). -/
def execLdz40 (o : GOp) (s : State) : Res :=
  loadOp (.ldz40 o) .zero 5 o s

/-- LDZ.48 (R202). -/
def execLdz48 (o : GOp) (s : State) : Res :=
  loadOp (.ldz48 o) .zero 6 o s

/-- LDZ.56 (R202). -/
def execLdz56 (o : GOp) (s : State) : Res :=
  loadOp (.ldz56 o) .zero 7 o s

/-- ST.8 (R204). -/
def execSt8 (o : GOp) (s : State) : Res :=
  storeOp (.st8 o) 1 o s

/-- ST.16 (R204). -/
def execSt16 (o : GOp) (s : State) : Res :=
  storeOp (.st16 o) 2 o s

/-- ST.24 (R204). -/
def execSt24 (o : GOp) (s : State) : Res :=
  storeOp (.st24 o) 3 o s

/-- ST.32 (R204). -/
def execSt32 (o : GOp) (s : State) : Res :=
  storeOp (.st32 o) 4 o s

/-- ST.40 (R204). -/
def execSt40 (o : GOp) (s : State) : Res :=
  storeOp (.st40 o) 5 o s

/-- ST.48 (R204). -/
def execSt48 (o : GOp) (s : State) : Res :=
  storeOp (.st48 o) 6 o s

/-- ST.56 (R204). -/
def execSt56 (o : GOp) (s : State) : Res :=
  storeOp (.st56 o) 7 o s

/-- ST.64 (R204). -/
def execSt64 (o : GOp) (s : State) : Res :=
  storeOp (.st64 o) 8 o s

/-- STV.8 (R207). -/
def execStv8 (o : GOp) (s : State) : Res :=
  storeChecked (.stv8 o) 1 o s

/-- STV.16 (R207). -/
def execStv16 (o : GOp) (s : State) : Res :=
  storeChecked (.stv16 o) 2 o s

/-- STV.32 (R207). -/
def execStv32 (o : GOp) (s : State) : Res :=
  storeChecked (.stv32 o) 4 o s

/-- STI.8 (R208). -/
def execSti8 (o : GOp) (s : State) : Res :=
  storeImm (.sti8 o) 1 o s

/-- STI.16 (R208). -/
def execSti16 (o : GOp) (s : State) : Res :=
  storeImm (.sti16 o) 2 o s

/-- STI.32 (R208). -/
def execSti32 (o : GOp) (s : State) : Res :=
  storeImm (.sti32 o) 4 o s

/-- STI.64 (R208). -/
def execSti64 (o : GOp) (s : State) : Res :=
  storeImm (.sti64 o) 8 o s

/-- STIN.8 (R209). -/
def execStin8 (o : GOp) (s : State) : Res :=
  storeImmNot (.stin8 o) 1 o s

/-- STIN.16 (R209). -/
def execStin16 (o : GOp) (s : State) : Res :=
  storeImmNot (.stin16 o) 2 o s

/-- STIN.32 (R209). -/
def execStin32 (o : GOp) (s : State) : Res :=
  storeImmNot (.stin32 o) 4 o s

/-- STIN.64 (R209). -/
def execStin64 (o : GOp) (s : State) : Res :=
  storeImmNot (.stin64 o) 8 o s

/-- EXTRACT (R210). -/
def execExtract (x y z : Reg) (f : FieldApp) (s : State) : Res :=
  extractOp (.extract x y z f) fieldSigned x z f s

/-- EXTRACTZ (R211). -/
def execExtractz (x y z : Reg) (f : FieldApp) (s : State) : Res :=
  extractOp (.extractz x y z f) fieldZero x z f s

/-- INSERT (R212); a field past bit 63, or a value wider than the field, is undefined (U5). -/
def execInsert (x y z : Reg) (f : FieldApp) (s : State) : Res :=
  if f.start.toNat + f.len.toNat ≤ 64 ∧ (s.reg z).toNat < 2 ^ f.len.toNat then
    finishReg (.insert x y z f) x (insertField (s.reg y) (s.reg z) f.start.toNat f.len.toNat) s
  else .refused .undefinedBitField

/-- EXCH (R241). -/
def execExch (x y z : Reg) (s : State) : Res :=
  exchangeOp (.exch x y z) (fun r _ => r) x z s

/-- EXCH.AND (R242). -/
def execExchAnd (x y z : Reg) (s : State) : Res :=
  exchangeOp (.exchAnd x y z) (fun r t => r &&& t) x z s

/-- EXCH.OR (R243). -/
def execExchOr (x y z : Reg) (s : State) : Res :=
  exchangeOp (.exchOr x y z) (fun r t => r ||| t) x z s

/-- COPYB (R245): all source bytes are read before any destination byte is written; the three registers hold
any value afterwards (U7). The length is the signed 64-bit Rz (D25); above 2^31 - 1 it is no string (U8). -/
def execCopyb (x y z : Reg) (s : State) : Res :=
  let i := Instr.copyb x y z
  let n := (s.reg z).toInt
  let d := lo32 (s.reg x)
  if n ≤ 2 ^ 31 - 1 then
    match s.load (lo32 (s.reg y)) n.toNat with
    | none => stringViolation i d n.toNat s
    | some bs =>
      if s.allowedRange .write d n.toNat then
        advance i ((((s.poke d bs).setReg x (s.anyWord .regX)).setReg y (s.anyWord .regY)).setReg z
          (s.anyWord .regZ))
      else stringViolation i d n.toNat s
  else .refused .stringTooLong

/-- COPYB.CONST (R246); Rx and Rz hold any value afterwards (U7), Ry is preserved. -/
def execCopybConst (x y z : Reg) (s : State) : Res :=
  let i := Instr.copybConst x y z
  let n := (s.reg z).toInt.toNat
  let d := lo32 (s.reg x)
  if s.allowedRange .write d n then
    advance i (((s.poke d (constString (s.reg y) n)).setReg x (s.anyWord .regX)).setReg z (s.anyWord .regZ))
  else stringViolation i d n s

end Sys2Proof.Machine
end

