-- ==== Sys2Proof/Machine/Floating.lean ====
section
/-! DEFINITION. Floating-point instructions (42_floating_point.md). -/

namespace Sys2Proof.Machine

open Sys2Proof

/-! ### FREM's form -/

/-- Any value in the registers FREM names (U10). -/
def State.anyRemRegs (s : State) (f : Fmt) (x z : Reg) : State :=
  writeDatum f z s.anyDatum (s.setReg x (s.anyWord .regX))

/-- The quotient's register is one of the remainder's: their contents are undefined (R350, U10). -/
def remOverlap (f : Fmt) (x z : Reg) : Bool :=
  decide (x = z) || (decide (f = .extended) && decide (x = z + 1))

/-- The end of FREM: Rx takes the quotient, Rz the remainder or a NaN (R350, D35). -/
def finishRem (i : Instr) (f : Fmt) (x z : Reg) (out : RemOut) (s : State) : Res :=
  let keep := fun (t : State) => if remOverlap f x z then t.anyRemRegs f x z else t
  match out with
  | .undefined => advance i (s.anyFpBits.anyRemRegs f x z)
  | .nothing => advance i (keep s)
  | .dest o => finishFloatBy i (fun b t => keep (writeDatum f z b t)) o (keep s)
  | .both q r => advance i (keep (writeDatum f z r (s.setReg x q)))

/-- FREM.32 and FREM.64: dividend Rz, divisor Ry (R350). -/
def remOp (i : Instr) (f : Fmt) (x y z : Reg) (s : State) : Res :=
  finishRem i f x z (frem s.fenv f (wordDatum f (s.reg y)) (wordDatum f (s.reg z))) s

/-! ### The instructions -/

/-- FADD.32 (R330). -/
def execFadd32 (o : GOp) (s : State) : Res :=
  floatOp (.fadd32 o) .single fadd o s

/-- FADD.64 (R330). -/
def execFadd64 (o : GOp) (s : State) : Res :=
  floatOp (.fadd64 o) .double fadd o s

/-- FADD.80 (R331). -/
def execFadd80 (x y z : Reg) (s : State) : Res :=
  floatPairOp (.fadd80 x y z) fadd x y z s

/-- FSUB.32 (R333). -/
def execFsub32 (o : GOp) (s : State) : Res :=
  floatOp (.fsub32 o) .single fsub o s

/-- FSUB.64 (R333). -/
def execFsub64 (o : GOp) (s : State) : Res :=
  floatOp (.fsub64 o) .double fsub o s

/-- FSUBR.32 (R334). -/
def execFsubr32 (o : GOp) (s : State) : Res :=
  floatOp (.fsubr32 o) .single fsubr o s

/-- FSUBR.64 (R334). -/
def execFsubr64 (o : GOp) (s : State) : Res :=
  floatOp (.fsubr64 o) .double fsubr o s

/-- FSUB.80 (R335). -/
def execFsub80 (x y z : Reg) (s : State) : Res :=
  floatPairOp (.fsub80 x y z) fsub x y z s

/-- FMUL.32 (R340). -/
def execFmul32 (o : GOp) (s : State) : Res :=
  floatOp (.fmul32 o) .single fmul o s

/-- FMUL.64 (R340). -/
def execFmul64 (o : GOp) (s : State) : Res :=
  floatOp (.fmul64 o) .double fmul o s

/-- FMUL.80 (R341). -/
def execFmul80 (x y z : Reg) (s : State) : Res :=
  floatPairOp (.fmul80 x y z) fmul x y z s

/-- FDIV.32 (R345). -/
def execFdiv32 (o : GOp) (s : State) : Res :=
  floatOp (.fdiv32 o) .single fdiv o s

/-- FDIV.64 (R345). -/
def execFdiv64 (o : GOp) (s : State) : Res :=
  floatOp (.fdiv64 o) .double fdiv o s

/-- FDIVR.32 (R346). -/
def execFdivr32 (o : GOp) (s : State) : Res :=
  floatOp (.fdivr32 o) .single fdivr o s

/-- FDIVR.64 (R346). -/
def execFdivr64 (o : GOp) (s : State) : Res :=
  floatOp (.fdivr64 o) .double fdivr o s

/-- FDIV.80 (R347). -/
def execFdiv80 (x y z : Reg) (s : State) : Res :=
  floatPairOp (.fdiv80 x y z) fdiv x y z s

/-- FREM.32 (R350). -/
def execFrem32 (x y z : Reg) (s : State) : Res :=
  remOp (.frem32 x y z) .single x y z s

/-- FREM.64 (R350). -/
def execFrem64 (x y z : Reg) (s : State) : Res :=
  remOp (.frem64 x y z) .double x y z s

/-- FREM.80: the remainder's pair is a destination (R350, R23). -/
def execFrem80 (x y z : Reg) (s : State) : Res :=
  if pairTarget z && pairSource y then
    finishRem (.frem80 x y z) .extended x z (frem s.fenv .extended (s.pair y) (s.pair z)) s
  else illegal (.frem80 x y z) s

end Sys2Proof.Machine
end

