-- ==== Sys2Proof/Machine/MsgOps.lean ====
section
/-! DEFINITION. The shared operations of the message-system instructions (48_message_system.md): operands,
statuses, the link and funnel tables' free lists, sending and receiving. -/

namespace Sys2Proof.Machine

open Sys2Proof

/-! ### Statuses and operands -/

/-- The end of an instruction with a status in Rx, zero-extended (R571). -/
def finishStatus (i : Instr) (x : Reg) (status : Nat) (s : State) : Res :=
  finishReg i x (BitVec.ofNat 64 status) s

/-- Read `n` bytes of a parameter block, or an access violation with nothing changed (R571, R590, D18). -/
def withField (i : Instr) (a : Addr) (n : Nat) (s : State) (k : Nat → Res) : Res :=
  match s.loadNat a n with
  | none => accessViolation i s
  | some v => k v

/-- The table entry of a defined funnel; funnel 0 and funnels above 255 do not exist (R49, R587, D44). -/
def State.funnelOf (s : State) (f : Nat) : Option Funnel :=
  if f = 0 ∨ 255 < f then none else s.funnel f

/-- The funnel a register or block names, or status 1 (R572). -/
def withFunnel (i : Instr) (x : Reg) (f : Nat) (s : State) (k : Funnel → Res) : Res :=
  match s.funnelOf f with
  | none => finishStatus i x 1 s
  | some e => k e

/-- The statuses Table 14-1 does not assign (R572): those a failure without a known code may return (U27,
notes/assumptions/26.md). -/
def unassignedStatuses : List Nat :=
  [13, 16, 19, 20, 22, 24, 25, 26, 27, 33, 35, 44, 53] ++ List.range' 57 79
    ++ [137, 138, 144, 146, 148, 149, 150, 151]

/-- A status of a failure whose code is not known (U27): any of the codes not assigned. -/
def State.unnamedStatus (s : State) : Nat := s.anyOf .status unassignedStatuses 13

/-! ### The link table's pages and the link lookup (R44, R591) -/

/-- The link entries on a page (R44). -/
def linksPerPage : Nat := 128

/-- The page of the table is allocated; the first one always is (R44). -/
def LinkTable.pageAllocated (t : LinkTable) (page : Nat) : Bool := decide (page = 0) || t.pages.contains page

/-- The link ID lies on an allocated page, as every defined entry does (R44). -/
def LinkTable.allocated (t : LinkTable) (id : Nat) : Bool :=
  t.pageAllocated (id / linksPerPage) || (Assoc.get t.entries id).isSome

/-- A further page can be allocated (R44, R47). -/
def LinkTable.canAllocate (t : LinkTable) : Bool := t.allocatablePages && decide (t.allocatablePageCount ≠ 0)

/-- The table with a page allocated, the header's count one less; where the count is used up no page can be (R44,
R47; notes/assumptions/28.md). -/
def LinkTable.allocate (t : LinkTable) (page : Nat) : LinkTable :=
  if t.pageAllocated page then t
  else { t with
    pages := t.pages ++ [page]
    allocatablePages := t.allocatablePages && decide (1 < t.allocatablePageCount.toNat)
    allocatablePageCount := BitVec.ofNat 16 (t.allocatablePageCount.toNat - 1) }

/-- The link's entry, or the status of the failure (R591); an ID above 65,535 is 43 (R587). A page not allocated is
41, or 42 if it cannot be. -/
def State.lookup (s : State) (id : Nat) : Except Nat Lte :=
  if id = 0 then .error 45
  else if s.links.limit < id ∨ 65535 < id then .error 43
  else if s.links.allocated id then
    match s.link id with
    | none => .error 40
    | some e => .ok e
  else .error (if s.links.canAllocate then 41 else 42)

/-- Use a link, or end with the status of its lookup plus `off` (0 for link 1, 100 for link 2: R572, R591). -/
def withLink (i : Instr) (x : Reg) (off id : Nat) (s : State) (k : Lte → Res) : Res :=
  match s.lookup id with
  | .error status => finishStatus i x (status + off) s
  | .ok e => k e

/-- A right of a link: its bit in the rights byte, by weight `2 ^ n` (R45). -/
def Lte.right (e : Lte) (n : Nat) : Bool := e.rights.getLsbD n
/-- Inform on Pass (R45). -/
def Lte.informOnPass (e : Lte) : Bool := e.right 6
/-- Inform on Copy (R45). -/
def Lte.informOnCopy (e : Lte) : Bool := e.right 5
/-- Inform on Delete (R45). -/
def Lte.informOnDelete (e : Lte) : Bool := e.right 4
/-- Can Pass Link (R45). -/
def Lte.canPass (e : Lte) : Bool := e.right 3
/-- Can Copy Link (R45). -/
def Lte.canCopy (e : Lte) : Bool := e.right 2
/-- Can Forward Message (R45). -/
def Lte.canForward (e : Lte) : Bool := e.right 1
/-- To Hardware (R45). -/
def Lte.toHardware (e : Lte) : Bool := e.right 0

/-- The link's owner is this process (R48). -/
def State.owns (s : State) (e : Lte) : Bool := decide (e.toProcess = s.processId)

/-! ### Free lists (R44, R47, R49, U26; notes/assumptions/28.md) -/

/-- The first of `k` numbers from `n` up that is not taken. -/
def firstFree (taken : Nat → Bool) : Nat → Nat → Option Nat
  | _, 0 => none
  | n, k + 1 => if taken n then firstFree taken (n + 1) k else some n

/-- The last of the `k` numbers `n` to `n + k - 1` that is not taken. -/
def lastFree (taken : Nat → Bool) (n : Nat) : Nat → Option Nat
  | 0 => none
  | k + 1 => if taken (n + k) then lastFree taken n k else some (n + k)

/-- A link ID above 20 that is not in the middle part of the free list. -/
def LinkTable.taken (t : LinkTable) (id : Nat) : Bool :=
  (Assoc.get t.entries id).isSome || t.free.contains id || t.freeTail.contains id

/-- The first ID above 20 of a page that is in the middle part of the free list. -/
def LinkTable.firstOn (t : LinkTable) (page : Nat) : Option Nat :=
  let lo := max 21 (page * linksPerPage)
  firstFree t.taken lo (min (page * linksPerPage + linksPerPage) (t.limit + 1) - lo)

/-- The last such ID. -/
def LinkTable.lastOn (t : LinkTable) (page : Nat) : Option Nat :=
  let lo := max 21 (page * linksPerPage)
  lastFree t.taken lo (min (page * linksPerPage + linksPerPage) (t.limit + 1) - lo)

/-- The head of the links' free list (R47). -/
def LinkTable.nextFree (t : LinkTable) : Option Nat :=
  ((t.free.head?).or ((0 :: t.pages).findSome? t.firstOn)).or t.freeTail.head?

/-- The tail of the links' free list (R47). -/
def LinkTable.prevFree (t : LinkTable) : Option Nat :=
  ((t.freeTail.getLast?).or ((0 :: t.pages).reverse.findSome? t.lastOn)).or t.free.getLast?

/-- The ID a new link takes where no ID is preferred: the head of the free list; where that is empty the first ID of
the lowest page not allocated, if a page can be (R44, U26; notes/assumptions/28.md). -/
def LinkTable.nextId (t : LinkTable) : Option Nat :=
  t.nextFree.or (if t.canAllocate then (firstFree t.pageAllocated 1 511).bind t.firstOn else none)

/-- A funnel ID above 20 that is not in the middle part of the free list. -/
def FunnelTable.taken (t : FunnelTable) (f : Nat) : Bool :=
  (Assoc.get t.entries f).isSome || t.free.contains f || t.freeTail.contains f

/-- The highest funnel ID on an allocated page (R49). DESIGN CHOICE (unsafe; notes/assumptions/28.md): a creator's
restriction on the number of funnels, for which R49 names no field and no status, shows only as a second page that is
not allocated. -/
def FunnelTable.limit (t : FunnelTable) : Nat := if t.page2 then 255 else 127

/-- The head of the funnels' free list (R52). -/
def FunnelTable.nextFree (t : FunnelTable) : Option Nat :=
  ((t.free.head?).or (firstFree t.taken 21 (t.limit - 20))).or t.freeTail.head?

/-- The tail of the funnels' free list (R52). -/
def FunnelTable.prevFree (t : FunnelTable) : Option Nat :=
  ((t.freeTail.getLast?).or (lastFree t.taken 21 (t.limit - 20))).or t.free.getLast?

/-- Define a link, on a page allocated for it if need be (R44, R600, R623). -/
def State.putLink (s : State) (id : Nat) (e : Lte) : State :=
  { s with links := { s.links.allocate (id / linksPerPage) with
      entries := Assoc.set s.links.entries id e
      free := s.links.free.filter (· ≠ id)
      freeTail := s.links.freeTail.filter (· ≠ id)
      maxCreated := max s.links.maxCreated id } }

/-- A link is undefined again and back on the free list, at either end (R605, R615; notes/assumptions/28.md). -/
def State.dropLink (s : State) (id : Nat) : State :=
  { s with links := { s.links with
      entries := Assoc.erase s.links.entries id
      free := if s.anyBool .freePos then id :: s.links.free else s.links.free
      freeTail := if s.anyBool .freePos then s.links.freeTail else s.links.freeTail ++ [id] } }

/-- Define a funnel (R601). -/
def State.putFunnel (s : State) (f : Nat) (e : Funnel) : State :=
  { s with
    funnels := { s.funnels with
      entries := Assoc.set s.funnels.entries f e
      free := s.funnels.free.filter (· ≠ f)
      freeTail := s.funnels.freeTail.filter (· ≠ f)
      maxCreated := max s.funnels.maxCreated f }
    enabled := setFunnelBit s.enabled f true }

/-- A funnel is undefined again and back on the free list, at either end (R606; notes/assumptions/28.md). -/
def State.dropFunnel (s : State) (f : Nat) : State :=
  { s with funnels := { s.funnels with
      entries := Assoc.erase s.funnels.entries f
      free := if s.anyBool .freePos then f :: s.funnels.free else s.funnels.free
      freeTail := if s.anyBool .freePos then s.funnels.freeTail else s.funnels.freeTail ++ [f] } }

/-- The ID a new link takes: the preferred one, or the next free one for 0; else status 11, 32 or 12, or 42 for a
page that cannot be allocated (R44, R600, R623; notes/assumptions/28.md). -/
def State.linkSlot (s : State) (p : Nat) : Except Nat Nat :=
  if p = 0 then
    match s.links.nextId with
    | none => .error 11
    | some q => .ok q
  else if s.links.limit < p then .error 32
  else if (s.link p).isSome then .error 12
  else if s.links.allocated p || s.links.canAllocate then .ok p
  else .error 42

/-- The ID a new funnel takes; else status 8, 9, 50 or 10 (R601). -/
def State.funnelSlot (s : State) (f : Nat) : Except Nat Nat :=
  if f = 0 then
    match s.funnels.nextFree with
    | none => .error 8
    | some q => .ok q
  else if 255 < f then .error 9
  else if s.funnels.limit < f then .error 50
  else if (s.funnel f).isSome then .error 10
  else .ok f

/-! ### Sending (R592, R610) -/

/-- The message block lengths in registers: signed (R610, R620). -/
def State.len (s : State) (r : Reg) : Int := (s.reg r).toInt

/-- The message data of a two-block send, at most `limit` bytes, or status 46 or 6 (R610). -/
def withData (i : Instr) (x y z t v : Reg) (limit : Int) (s : State) (k : List Byte → Res) : Res :=
  if s.len z < 0 ∨ s.len v < 0 then finishStatus i x 46 s
  else if limit < s.len z + s.len v then finishStatus i x 6 s
  else match s.load (lo32 (s.reg y) + 16) (s.len z).toNat, s.load (lo32 (s.reg t)) (s.len v).toNat with
    | some d1, some d2 => k (d1 ++ d2)
    | _, _ => accessViolation i s

/-- The message a send on a link makes (R574, R576). -/
def Lte.message (e : Lte) (type : BitVec 8) (sender : BitVec 16) (data : List Byte) (link : Option Lte) :
    Message :=
  { rci := mkRci e.linkCode e.toFunnel type sender data.length, data := data, link := link }

/-- What a send to another process can return (R592; notes/assumptions/27.md). -/
def sendStatuses : List Nat := [0, 36, 47, 37, 38, 39, 48, 52, 54, 55, 56]

/-- What EXCH.LINK.FORWARD's send can return: those of the transport in its complete list (R631). -/
def exchangeStatuses : List Nat := [0, 36, 39, 47, 55]

/-- The system's message buffers are used up (MSG_BUFFER_LIMIT, R55; notes/assumptions/32.md). -/
def State.poolFull (s : State) : Bool :=
  match s.params.msgBufferLimit with
  | none => false
  | some n => decide (n ≤ (s.funnels.entries.map fun f => f.2.queue.length).sum)

/-- The statuses of a buffer shortage among those a send can return: 37, 38, 39 (R55, R592). -/
def shortages (l : List Nat) : List Nat := l.filter fun n => decide (37 ≤ n) && decide (n ≤ 39)

/-- The status of a send on a link, `l` being those it can return: for a link to this process 36 where the version
differs, 47 where the funnel takes no message, a shortage where the buffers are used up, else 0; for another process a
free one (R55, R592, D57). -/
def State.sendStatus (s : State) (l : List Nat) (e : Lte) : Nat :=
  if s.owns e then
    if e.versionId ≠ s.versionId then 36
    else if (s.openFunnel e.toFunnel.toNat).isNone then 47
    else if s.poolFull then s.anyOf .sendStatus (shortages l) 39
    else 0
  else s.anyOf .sendStatus l 0

/-- Something leaves the process. -/
def State.emit (s : State) (e : OutEvent) : State := { s with outputs := s.outputs ++ [e] }

/-- Send message `m` on link `e`, `l` being the statuses the send can return. With status 0 the changes of `ok` are
made after the message, `status` goes to Rx and a message to this process is delivered at the end of the instruction;
else nothing but the status (R592, D57). -/
def sendMessage (i : Instr) (x : Reg) (l : List Nat) (e : Lte) (m : Message) (ok : State → State) (status : Nat)
    (s : State) : Res :=
  if s.owns e then
    if s.sendStatus l e = 0 then (finishStatus i x status (ok s)).bind (deliver e.toFunnel.toNat m)
    else finishStatus i x (s.sendStatus l e) s
  else if s.sendStatus l e = 0 then finishStatus i x status (ok (s.emit (.send e m)))
  else finishStatus i x (s.sendStatus l e) (s.emit (.send e m))

/-- A notification to a link's creator in another process (R577). -/
def State.notify (s : State) (e : Lte) (type : BitVec 8) (data : List Byte) : State :=
  s.emit (.send e (e.message type s.processId data none))

/-- The big-endian bytes of a process ID. -/
def processBytes (p : BitVec 16) : List Byte := beBytes 2 p.toNat

/-- COPY.LINK and PASS.LINK (R614, R615): `can` and `inform` pick the rights, `type` is the notification's,
`after` what becomes of the sent link. -/
def shareLink (i : Instr) (x y z t v : Reg) (can inform : Lte → Bool) (type : BitVec 8)
    (after : Nat → State → State) (s : State) : Res :=
  let pb := lo32 (s.reg y)
  withField i (pb + 2) 2 s fun id1 =>
  withField i (pb + 6) 2 s fun id2 =>
  withData i x y z t v 672 s fun data =>
  withLink i x 0 id1 s fun e1 =>
  withLink i x 100 id2 s fun e2 =>
  if can e2 then
    let tell := inform e2 && !s.owns e2
    sendMessage i x sendStatuses e1 (e1.message 1 s.processId data (some e2))
      (fun u => let u1 := after id2 u
                if tell then u1.notify e2 type (processBytes e1.toProcess) else u1)
      (if tell then s.anyOf .status [0, 5, 136, 147, 152, 139] 0 else 0) s
  else finishStatus i x 51 s

/-! ### Receiving (R620 to R624) -/

/-- A receive's registers, and whether it takes a link. -/
structure Receive where
  x : Reg
  y : Reg
  z : Reg
  t : Reg
  v : Reg
  wantLink : Bool
deriving DecidableEq, Repr

/-- The type byte's Synchronous bit (R620). -/
def synchronous (ty : Byte) : Bool := ty.getLsbD 0
/-- The type byte's Interrogate bit (R620). -/
def interrogate (ty : Byte) : Bool := ty.getLsbD 1
/-- The type byte's Dismiss bit (R620). -/
def dismisses (ty : Byte) : Bool := ty.getLsbD 2

/-- Dismiss: set the local priority to 15 through the set local priority function (R620). -/
def State.dismiss (s : State) (ty : Byte) : State := if dismisses ty then s.setLocalPriority 15 else s

/-- The message a receive finds on a funnel: none on funnel 1 (R53; notes/assumptions/39.md). -/
def Funnel.receivable (e : Funnel) (f : Nat) : Option Message := if f = 1 then none else e.queue.head?

/-- A receive that finds no message: it blocks or ends with `status` (R579, R620). -/
def receiveNothing (i : Instr) (r : Receive) (ty : Byte) (status : Nat) (s : State) : Res :=
  if synchronous ty then .next { s with blocked := true } else finishStatus i r.x status (s.dismiss ty)

/-- The control information and the data go to memory; none is an access violation (R620, D46). -/
def State.copyMessage (s : State) (r : Receive) (m : Message) : Option State :=
  let pb := lo32 (s.reg r.y)
  (s.store (pb + 8) (wordBytes m.rci)).bind fun s1 =>
  (s1.store (pb + 16) (m.data.take (s.len r.z).toNat)).bind fun s2 =>
  s2.store (lo32 (s.reg r.t)) ((m.data.drop (s.len r.z).toNat).take (s.len r.v).toNat)

/-- What a receive comes to after the data: the status, whether the message stays, the state. -/
structure Received where
  status : Nat
  keep : Bool
  state : State
deriving DecidableEq, Repr

/-- Put a link at the ID of a block's field at `a`, and write the ID back there; none is an access violation
(R623). -/
def State.placeLink (s : State) (a : Addr) (l : Lte) : Option Received :=
  (s.loadNat a 2).bind fun p =>
    match s.linkSlot p with
    | .error status => some { status := status, keep := true, state := s }
    | .ok q => ((s.putLink q l).store a (beBytes 2 q)).map fun s1 => { status := 0, keep := false, state := s1 }

/-- The link of a received message (R620, R623). -/
def State.receiveLink (s : State) (r : Receive) (m : Message) : Option Received :=
  match m.link, r.wantLink with
  | none, false => some { status := 0, keep := false, state := s }
  | none, true => some { status := 30, keep := false, state := s }
  | some _, false => some { status := 28, keep := true, state := s }
  | some l, true => s.placeLink (lo32 (s.reg r.y) + 4) l

/-- `receive` of the head message `m` of funnel `f` (R620); a status 46 performs no Dismiss. DEDUCED (unsafe;
notes/assumptions/50.md). -/
def receiveMessage (i : Instr) (r : Receive) (ty : Byte) (f : Nat) (e : Funnel) (m : Message) (s : State) : Res :=
  if s.len r.z < 0 ∨ s.len r.v < 0 then finishStatus i r.x 46 s
  else match (s.copyMessage r m).bind fun s1 => s1.receiveLink r m with
    | none => accessViolation i s
    | some o =>
      finishStatus i r.x o.status
        ((if o.keep || interrogate ty then o.state else o.state.dequeue f e).dismiss ty)

/-- A receive on the funnel its block names (R621, R623). -/
def receiveFunnel (i : Instr) (r : Receive) (s : State) : Res :=
  let pb := lo32 (s.reg r.y)
  withField i pb 1 s fun f =>
  withFunnel i r.x f s fun e =>
  withField i (pb + 2) 1 s fun ty =>
  match e.receivable f with
  | none => receiveNothing i r (BitVec.ofNat 8 ty) 14 s
  | some m => receiveMessage i r (BitVec.ofNat 8 ty) f e m s

/-- A message a channel receive can take: the funnel, its entry, the message (R622). -/
structure Candidate where
  funnel : Nat
  entry : Funnel
  message : Message
deriving DecidableEq, Repr

/-- The funnels with a message on the channels of a mask, in the order in which they became active (R54,
R622). -/
def State.candidates (s : State) (mask : BitVec 16) : List Candidate :=
  s.funnels.active.filterMap fun f =>
    match s.funnelOf f with
    | none => none
    | some e =>
      if chanBit mask e.channel then (e.receivable f).map fun m => { funnel := f, entry := e, message := m }
      else none

/-- The first candidate on the highest priority channel (R622, D55). -/
def bestCandidate : List Candidate → Option Candidate
  | [] => none
  | c :: t =>
    match bestCandidate t with
    | none => some c
    | some d => if d.entry.channel < c.entry.channel then some d else some c

/-- A receive on the channels its block selects (R622, R624). -/
def receiveChannel (i : Instr) (r : Receive) (s : State) : Res :=
  let pb := lo32 (s.reg r.y)
  withField i pb 2 s fun mask =>
  withField i (pb + 2) 1 s fun ty =>
  match bestCandidate (s.candidates (BitVec.ofNat 16 mask)) with
  | none => receiveNothing i r (BitVec.ofNat 8 ty) 29 s
  | some c => receiveMessage i r (BitVec.ofNat 8 ty) c.funnel c.entry c.message s

/-! ### Forwarding (R630, R631) -/

/-- The head message of a funnel to forward or delete, or status 1 or 14 (R630, R631, R633). DESIGN CHOICE (unsafe;
notes/assumptions/48.md): a message queued on funnel 1 is found, since R53 says of receives alone that they find none. -/
def withHead (i : Instr) (x : Reg) (f : Nat) (s : State) (k : Funnel → Message → Res) : Res :=
  withFunnel i x f s fun e =>
  match e.queue.head? with
  | none => finishStatus i x 14 s
  | some m => k e m

/-- The type byte of a forwarded message: Includes Link as it holds; the other bits are the original's or
those of a new message, which is not stated (notes/assumptions/29.md). -/
def State.forwardType (s : State) (m : Message) (link : Bool) : BitVec 8 :=
  let old := m.rci.extractLsb' 32 8
  (if s.anyBool .regX then old &&& 0xFE else 0) ||| (if link then 1 else 0)

/-- The From Process ID of a forwarded message: the original sender's or this process's, which is not stated
(N51; notes/assumptions/29.md). -/
def State.forwardSender (s : State) (m : Message) : BitVec 16 :=
  if s.anyBool .regY then m.rci.extractLsb' 16 16 else s.processId

/-- The forwarded message (R630, R631). -/
def State.forwarded (s : State) (e : Lte) (m : Message) (link : Option Lte) : Message :=
  e.message (s.forwardType m link.isSome) (s.forwardSender m) m.data link

/-- Send a forwarded message, `l` being the statuses the send can return; on success the original is dequeued (R630,
R631). -/
def forwardOn (i : Instr) (x : Reg) (l : List Nat) (f : Nat) (fe : Funnel) (m : Message) (e : Lte) (link : Option Lte)
    (s : State) : Res :=
  sendMessage i x l e (s.forwarded e m link) (fun u => u.dequeue f fe) 0 s

/-! ### Table entries in registers (R46, R47, R51, R52) -/

/-- A free ID in a header's next-free or previous-free field (R47, R52). DESIGN CHOICE (unsafe;
notes/assumptions/30.md): where no entry is free, which the spec does not state, the field reads 0. -/
def idBits (n : Nat) (o : Option Nat) : BitVec n := BitVec.ofNat n (o.getD 0)

/-- The first word of a defined link table entry; its unused bits 1 to 7, 40 and 41 are any value (R46;
notes/assumptions/30.md). -/
def State.lteEntry0 (s : State) (e : Lte) : Word :=
  (1#1 ++ (s.anyWord .header).setWidth 7 ++ e.toFunnel ++ e.rights ++ e.toProcess ++ (s.anyWord .fteHead).setWidth 2
    ++ e.versionId : BitVec 64)
/-- The second word of a link table entry (R46). -/
def Lte.word1 (e : Lte) : Word := (e.linkCode ++ e.linkGrail : BitVec 64)

/-- Any value with bit 0 zero: the first word of an undefined entry (R650; notes/assumptions/30.md). -/
def State.undefinedEntry (s : State) : Word := (0#1 ++ (s.anyWord .header).setWidth 63 : BitVec 64)

/-- READ.LTE's first word (R46, R47, R651). -/
def State.lteWord0 (s : State) (id : Nat) : Word :=
  if id = 0 then
    (0#1 ++ (s.anyWord .header).setWidth 15 ++ BitVec.ofNat 16 s.links.maxCreated
      ++ idBits 16 s.links.nextFree ++ idBits 16 s.links.prevFree : BitVec 64)
  else match s.link id with
    | some e => s.lteEntry0 e
    | none => s.undefinedEntry

/-- READ.LTE's second word (R46, R47, R651). -/
def State.lteWord1 (s : State) (id : Nat) : Word :=
  if id = 0 then
    (BitVec.ofBool s.links.allocatablePages ++ (s.anyWord .fteHead).setWidth 7
      ++ s.links.allocatablePageCount ++ (s.anyWord .fteTail).setWidth 40 : BitVec 64)
  else match s.link id with
    | some e => e.word1
    | none => s.anyWord .regZ

/-- The funnel after `f` on its channel's active funnels list, 0 at its end (R50, R54). -/
def State.nextOf (s : State) (f : Nat) (c : Chan) : Nat :=
  ((((s.funnels.active.dropWhile (· ≠ f)).drop 1).filter fun g =>
    match s.funnel g with
    | some e => decide (e.channel = c)
    | none => false).head?).getD 0

/-- Any address of a message buffer: not zero (R51, U24). -/
def nonZero (a : Addr) : Addr := if a = 0 then 1 else a

/-- READ.FTE's first word of a defined entry (R51). DESIGN CHOICE (unsafe; notes/assumptions/30.md): the next funnel of
a funnel without messages, which has no meaning, reads 0, and past 65,535 messages the count is the length modulo
2^16. -/
def State.fteEntry0 (s : State) (f : Nat) (e : Funnel) : Word :=
  (1#1 ++ 0#3 ++ BitVec.ofNat 4 e.channel.val
    ++ BitVec.ofNat 8 (if e.queue.isEmpty then 0 else s.nextOf f e.channel)
    ++ BitVec.ofNat 16 e.queue.length ++ e.vector : BitVec 64)

/-- READ.FTE's second word of a defined entry (R50, R51). -/
def State.fteEntry1 (s : State) (e : Funnel) : Word :=
  if e.queue.isEmpty then 0
  else (nonZero (lo32 (s.anyWord .fteHead)) ++ nonZero (lo32 (s.anyWord .fteTail)) : BitVec 64)

/-- READ.FTE's first word (R51, R52, R650). -/
def State.fteWord0 (s : State) (f : Nat) : Word :=
  if f = 0 then
    (0#1 ++ (s.anyWord .header).setWidth 15 ++ BitVec.ofNat 8 s.funnels.maxCreated
      ++ (s.anyWord .fteHead).setWidth 24 ++ idBits 8 s.funnels.nextFree ++ idBits 8 s.funnels.prevFree :
      BitVec 64)
  else match s.funnel f with
    | some e => s.fteEntry0 f e
    | none => s.undefinedEntry

/-- READ.FTE's second word (R51, R52, R650). -/
def State.fteWord1 (s : State) (f : Nat) : Word :=
  if f = 0 then (BitVec.ofBool s.funnels.allocatablePages ++ (s.anyWord .fteTail).setWidth 63 : BitVec 64)
  else match s.funnel f with
    | some e => s.fteEntry1 e
    | none => s.anyWord .regZ

/-- Two words to Rz and Rt, status 0 to Rx, in this order (R650, R651). -/
def finishEntry (i : Instr) (x z t : Reg) (w0 w1 : Word) (s : State) : Res :=
  finishStatus i x 0 ((s.setReg z w0).setReg t w1)

/-- An instruction that this edition does not implement unless its parameter says so (R8, D14). -/
def ifImplemented (b : Bool) (i : Instr) (s : State) (k : Res) : Res := if b then k else illegal i s

end Sys2Proof.Machine
end

