-- ==== Sys2Proof/Machine/General.lean ====
section
/-! DEFINITION. General instructions (49_general.md). -/

namespace Sys2Proof.Machine

open Sys2Proof

/-- NOP (R680). -/
def execNop (s : State) : Res := advance .nop s

/-- READ.MACH.ID (R675, D14). -/
def execReadMachId (x : Reg) (s : State) : Res :=
  ifImplemented s.params.impl603 (.readMachId x) s (finishReg (.readMachId x) x s.machId s)

/-- A page lies in the `n` bytes from `a` up, in whole or in part (R671). -/
def pageInRange (a n page : Nat) : Bool := decide (a / 2048 ≤ page) && decide (page * 2048 + 1 ≤ a + n)

/-- CLEANSE: every allocated page of a range reads as zero, its access rights unchanged (R671). DESIGN CHOICE (unsafe;
notes/assumptions/31.md): so are bits 60 to 63 of its map entry, of which R671's effect says nothing. -/
def State.cleanse (s : State) (a n : Nat) : State :=
  { s with mem := s.mem.filter fun c =>
      !(pageInRange a n (c.1 / 2048) && (s.pageAt (BitVec.ofNat 32 c.1)).isSome) }

/-- The operations of MEMORY.MAN (R671). -/
inductive MemoryOp | touch | force | cleanse
deriving DecidableEq, Repr

/-- The operation of a code, none for a code that is no operation's (R671). -/
def memoryOp (p : Config.Params) (code : Word) : Option MemoryOp :=
  if code = p.mmCleanse then some .cleanse
  else if code = p.mmForce then some .force
  else if code = p.mmTouch then some .touch
  else none

/-- The operation is synchronous: TOUCH never is; for the others an open parameter tells (R671;
notes/assumptions/31.md). -/
def MemoryOp.synchronous (p : Config.Params) : MemoryOp → Bool
  | .touch => false
  | .force => p.mmForceSync
  | .cleanse => p.mmCleanseSync

/-- The effect of an operation on `n` bytes from `a` up: TOUCH and FORCE have none (R671). -/
def State.memoryEffect (s : State) (a n : Nat) : MemoryOp → State
  | .touch => s
  | .force => s
  | .cleanse => s.cleanse a n

/-- MEMORY.MAN (R671, D14): the request goes to the Memory Manager. An asynchronous one has its effect at once; with a
synchronous one the process waits, the pc at the instruction, until it is restarted, and then the instruction has its
effect and ends (R579). A code that is no operation's does nothing (U23). DESIGN CHOICE (unsafe;
notes/assumptions/31.md): all 64 bits of Rz are an unsigned number of bytes, and a range does not wrap. -/
def execMemoryMan (x y z : Reg) (s : State) : Res :=
  let i := Instr.memoryMan x y z
  ifImplemented s.params.impl700 i s <|
    match memoryOp s.params (s.reg x) with
    | none => advance i s
    | some op =>
      let done := fun t : State => advance i (t.memoryEffect (lo32 (s.reg y)).toNat (s.reg z).toNat op)
      let asked := s.emit (.memoryManager (s.reg x) (lo32 (s.reg y)) (s.reg z))
      if op.synchronous s.params then
        match s.manager with
        | .idle => .next { asked with blocked := true, manager := .waiting }
        | .waiting => .next { s with blocked := true }
        | .restarted => done { s with manager := .idle }
      else done asked

/-- The PME's bits 60 to 63: maintenance, read trace, write trace, execute trace (R91, R673). -/
def Page.traceBits (p : Page) : BitVec 4 :=
  BitVec.ofBool p.maintenance ++ BitVec.ofBool p.readTrace ++ BitVec.ofBool p.writeTrace
    ++ BitVec.ofBool p.executeTrace

/-- The page with other bits 60 to 63. -/
def Page.withTraceBits (p : Page) (b : BitVec 4) : Page :=
  { p with maintenance := b.getMsbD 0, readTrace := b.getMsbD 1, writeTrace := b.getMsbD 2,
           executeTrace := b.getMsbD 3 }

/-- Use the map entry of an address's page; an unallocated page is an access violation (R673, D12). -/
def withPage (i : Instr) (a : Addr) (s : State) (k : Page → Res) : Res :=
  match s.pageAt a with
  | none => accessViolation i s
  | some p => k p

/-- MODIFY.PME (R673, D14): clear, then set, bits 60 to 63 alone. -/
def execModifyPme (x y z : Reg) (s : State) : Res :=
  ifImplemented s.params.impl701 (.modifyPme x y z) s
    (withPage (.modifyPme x y z) (lo32 (s.reg z)) s fun p =>
      let b := p.traceBits &&& ~~~((s.reg x).setWidth 4) ||| (s.reg y).setWidth 4
      advance (.modifyPme x y z)
        { s with pages := Assoc.set s.pages (pageNo (lo32 (s.reg z))) (p.withTraceBits b) })

/-- READ.CPU.TIMER (R674). -/
def execReadCpuTimer (x : Reg) (s : State) : Res := finishReg (.readCpuTimer x) x s.cpuTimer s

/-- READ.PME (R676, D52): bits 60 to 63; the others are any value (U24). An unallocated page is an access
violation (notes/assumptions/40.md). -/
def execReadPme (x : Reg) (s : State) : Res :=
  withPage (.readPme x) (lo32 (s.reg x)) s fun p =>
    finishReg (.readPme x) x ((s.anyWord .pme).setWidth 60 ++ p.traceBits : BitVec 64) s

/-- READ.REAL.TIMER (R677). -/
def execReadRealTimer (x : Reg) (s : State) : Res := finishReg (.readRealTimer x) x s.clock s

/-- READ.STAT (R678). -/
def execReadStat (x : Reg) (s : State) : Res := finishReg (.readStat x) x s.psw s

/-- WRITE.STAT (R679). -/
def execWriteStat (x : Reg) (s : State) : Res := advance (.writeStat x) { s with psw := s.reg x }

end Sys2Proof.Machine
end

