-- ==== Sys2Proof/Machine/Integer.lean ====
section
/-! DEFINITION. Integer instructions (41_integer.md). -/

namespace Sys2Proof.Machine

open Sys2Proof

/-! ### Shared forms -/

/-- The carry written, where the operation writes it (R263). -/
def State.putCarry (s : State) (c : Option Bool) : State :=
  match c with
  | none => s
  | some b => s.setCi b

/-- The end of an integer operation: the result is placed, the carry written, then the overflow checked
(R261), its message with the two result words (R724). -/
def finishInt (i : Instr) (r : Reg) (out : IntOut) (s : State) : Res :=
  let s1 := (s.setReg r out.value).putCarry out.carry
  let w := out.words s.params
  if out.overflow then raise i { code := .intOverflow, high := w.1, low := w.2 } s1 else advance i s1

/-- An operation on the first source operand A, the last operand B and the carry (R260). -/
def intOp (i : Instr) (n : Nat) (f : Bool → Word → Word → IntOut) (o : GOp) (s : State) : Res :=
  withLast i .sign n o s fun b => finishInt i o.x (f s.ci (s.reg o.a) b) s

/-- A division of `a` by `b`: a zero divisor leaves the destination as it is (R262). -/
def divide (i : Instr) (r : Reg) (f : Word → Word → IntOut) (a b : Word) (s : State) : Res :=
  if b = 0 then raise i { code := .intDivZero } s else finishInt i r (f a b) s

/-- DIV and REM: A by B (R270, R283). -/
def divOp (i : Instr) (n : Nat) (f : Word → Word → IntOut) (o : GOp) (s : State) : Res :=
  withLast i .sign n o s fun b => divide i o.x f (s.reg o.a) b s

/-- DIVR and REMR: B by A (R271, R284). -/
def divrOp (i : Instr) (n : Nat) (f : Word → Word → IntOut) (o : GOp) (s : State) : Res :=
  withLast i .sign n o s fun b => divide i o.x f b (s.reg o.a) s

/-- A register pair may be a destination: n is neither 14 nor 15 (R23, D3, U17). -/
def pairDest (r : Reg) : Bool := decide (r.toNat < 14)

/-- A two-register result: Rn the high, R(n+1) the low word (R23). -/
def State.setPair (s : State) (r : Reg) (hi lo : Word) : State := (s.setReg r hi).setReg (r + 1) lo

/-- MUL.128 and MULU.128: the 128-bit product of Ry and Rz (R276, R277). -/
def wideMul (i : Instr) (p : Int) (x : Reg) (s : State) : Res :=
  if pairDest x then advance i (s.setPair x (lo64 (p / 2 ^ 64)) (lo64 p)) else illegal i s

/-! ### The instructions -/

/-- ADD.16 (R264). -/
def execAdd16 (o : GOp) (s : State) : Res :=
  intOp (.add16 o) 2 intAdd o s

/-- ADD.32 (R264). -/
def execAdd32 (o : GOp) (s : State) : Res :=
  intOp (.add32 o) 4 intAdd o s

/-- ADD.64 (R264). -/
def execAdd64 (o : GOp) (s : State) : Res :=
  intOp (.add64 o) 8 intAdd o s

/-- ADDUC.64 (R265). -/
def execAdduc64 (o : GOp) (s : State) : Res :=
  intOp (.adduc64 o) 8 intAdduc o s

/-- ADDI.64: the destination is Rw (R266). -/
def execAddi64 (o : GOp) (s : State) : Res :=
  finishInt (.addi64 o) o.w (intAddi (s.reg o.w) o.x) s

/-- DIV.16 (R270). -/
def execDiv16 (o : GOp) (s : State) : Res :=
  divOp (.div16 o) 2 intDiv o s

/-- DIV.32 (R270). -/
def execDiv32 (o : GOp) (s : State) : Res :=
  divOp (.div32 o) 4 intDiv o s

/-- DIV.64 (R270). -/
def execDiv64 (o : GOp) (s : State) : Res :=
  divOp (.div64 o) 8 intDiv o s

/-- DIVR.16 (R271). -/
def execDivr16 (o : GOp) (s : State) : Res :=
  divrOp (.divr16 o) 2 intDiv o s

/-- DIVR.32 (R271). -/
def execDivr32 (o : GOp) (s : State) : Res :=
  divrOp (.divr32 o) 4 intDiv o s

/-- DIVR.64 (R271). -/
def execDivr64 (o : GOp) (s : State) : Res :=
  divrOp (.divr64 o) 8 intDiv o s

/-- REM.16 (R283). -/
def execRem16 (o : GOp) (s : State) : Res :=
  divOp (.rem16 o) 2 intRem o s

/-- REM.32 (R283). -/
def execRem32 (o : GOp) (s : State) : Res :=
  divOp (.rem32 o) 4 intRem o s

/-- REM.64 (R283). -/
def execRem64 (o : GOp) (s : State) : Res :=
  divOp (.rem64 o) 8 intRem o s

/-- REMR.16 (R284). -/
def execRemr16 (o : GOp) (s : State) : Res :=
  divrOp (.remr16 o) 2 intRem o s

/-- REMR.32 (R284). -/
def execRemr32 (o : GOp) (s : State) : Res :=
  divrOp (.remr32 o) 4 intRem o s

/-- REMR.64 (R284). -/
def execRemr64 (o : GOp) (s : State) : Res :=
  divrOp (.remr64 o) 8 intRem o s

/-- MUL.16 (R275). -/
def execMul16 (o : GOp) (s : State) : Res :=
  intOp (.mul16 o) 2 intMul o s

/-- MUL.32 (R275). -/
def execMul32 (o : GOp) (s : State) : Res :=
  intOp (.mul32 o) 4 intMul o s

/-- MUL.64 (R275). -/
def execMul64 (o : GOp) (s : State) : Res :=
  intOp (.mul64 o) 8 intMul o s

/-- MUL.128 (R276). -/
def execMul128 (x y z : Reg) (s : State) : Res :=
  wideMul (.mul128 x y z) ((s.reg y).toInt * (s.reg z).toInt) x s

/-- MULU.128 (R277). -/
def execMulu128 (x y z : Reg) (s : State) : Res :=
  wideMul (.mulu128 x y z) ((s.reg y).toNat * (s.reg z).toNat) x s

/-- NEG.16 (R280). -/
def execNeg16 (o : GOp) (s : State) : Res :=
  intOp (.neg16 o) 2 intNeg o s

/-- NEG.32 (R280). -/
def execNeg32 (o : GOp) (s : State) : Res :=
  intOp (.neg32 o) 4 intNeg o s

/-- NEG.64 (R280). -/
def execNeg64 (o : GOp) (s : State) : Res :=
  intOp (.neg64 o) 8 intNeg o s

/-- SUB.16 (R290). -/
def execSub16 (o : GOp) (s : State) : Res :=
  intOp (.sub16 o) 2 intSub o s

/-- SUB.32 (R290). -/
def execSub32 (o : GOp) (s : State) : Res :=
  intOp (.sub32 o) 4 intSub o s

/-- SUB.64 (R290). -/
def execSub64 (o : GOp) (s : State) : Res :=
  intOp (.sub64 o) 8 intSub o s

/-- SUBR.16 (R291). -/
def execSubr16 (o : GOp) (s : State) : Res :=
  intOp (.subr16 o) 2 intSubr o s

/-- SUBR.32 (R291). -/
def execSubr32 (o : GOp) (s : State) : Res :=
  intOp (.subr32 o) 4 intSubr o s

/-- SUBR.64 (R291). -/
def execSubr64 (o : GOp) (s : State) : Res :=
  intOp (.subr64 o) 8 intSubr o s

/-- SUBUC.64 (R292). -/
def execSubuc64 (o : GOp) (s : State) : Res :=
  intOp (.subuc64 o) 8 intSubuc o s

/-- SUBUCR.64 (R293). -/
def execSubucr64 (o : GOp) (s : State) : Res :=
  intOp (.subucr64 o) 8 intSubucr o s

/-- SUBI.64: the destination is Rw (R295). -/
def execSubi64 (o : GOp) (s : State) : Res :=
  finishInt (.subi64 o) o.w (intSubi (s.reg o.w) o.x) s

/-- SLA (R300). -/
def execSla (o : GOp) (s : State) : Res :=
  intOp (.sla o) 8 (fun _ a b => intSla a b) o s

/-- SRA (R301). -/
def execSra (o : GOp) (s : State) : Res :=
  intOp (.sra o) 8 (fun _ a b => intSra a b) o s

end Sys2Proof.Machine
end

