-- ==== Sys2Proof/Machine/Logical.lean ====
section
/-! DEFINITION. Logical instructions (44_logical.md). -/

namespace Sys2Proof.Machine

open Sys2Proof

/-! ### Shared forms -/

/-- AND, OR, XOR, rotates and shifts: `f A B` (R390). -/
def logicalOp (i : Instr) (f : Word → Word → Word) (o : GOp) (s : State) : Res :=
  withLast i .zero 8 o s fun b => finishReg i o.x (f (s.reg o.a) b) s

/-- NOT, FIND.FIRST: `f B` (R393, R398). -/
def monadicOp (i : Instr) (f : Word → Word) (o : GOp) (s : State) : Res :=
  withLast i .zero 8 o s fun b => finishReg i o.x (f b) s

/-- The position of the first set bit counted from bit 0, or -1 (R398). -/
def findFirstBit (b : Word) : Word := if b = 0 then -1 else BitVec.ofNat 64 (63 - Nat.log2 b.toNat)

/-- SLL1, SLL2, SLL3: the low-order `n` bytes of the operand, zero-extended, shifted left (R410 to R414). -/
def shiftLoad (i : Instr) (n k : Nat) (o : GOp) (s : State) : Res :=
  withLast i .zero n o s fun b => finishReg i o.x (((b.setWidth (8 * n)).setWidth 64 : Word) <<< k) s

/-! ### The instructions -/

/-- AND (R391). -/
def execLogAnd (o : GOp) (s : State) : Res :=
  logicalOp (.logAnd o) (· &&& ·) o s

/-- OR (R392). -/
def execLogOr (o : GOp) (s : State) : Res :=
  logicalOp (.logOr o) (· ||| ·) o s

/-- NOT (R393). -/
def execLogNot (o : GOp) (s : State) : Res :=
  monadicOp (.logNot o) (~~~·) o s

/-- XOR (R394). -/
def execLogXor (o : GOp) (s : State) : Res :=
  logicalOp (.logXor o) (· ^^^ ·) o s

/-- SET.BIT (R395). -/
def execSetBit (x : Reg) (b : BitVec 8) (s : State) : Res :=
  finishReg (.setBit x b) x (s.reg x ||| bitMask (b.toNat % 64)) s

/-- CLEAR.BIT (R396). -/
def execClearBit (x : Reg) (b : BitVec 8) (s : State) : Res :=
  finishReg (.clearBit x b) x (s.reg x &&& ~~~(bitMask (b.toNat % 64))) s

/-- TOGGLE.BIT (R397). -/
def execToggleBit (x : Reg) (b : BitVec 8) (s : State) : Res :=
  finishReg (.toggleBit x b) x (s.reg x ^^^ bitMask (b.toNat % 64)) s

/-- FIND.FIRST (R398). -/
def execFindFirst (o : GOp) (s : State) : Res :=
  monadicOp (.findFirst o) findFirstBit o s

/-- ROL (R400). -/
def execRol (o : GOp) (s : State) : Res :=
  logicalOp (.rol o) (fun a b => a.rotateLeft (shiftDistance b)) o s

/-- ROR (R401). -/
def execRor (o : GOp) (s : State) : Res :=
  logicalOp (.ror o) (fun a b => a.rotateRight (shiftDistance b)) o s

/-- SLL (R402). -/
def execSll (o : GOp) (s : State) : Res :=
  logicalOp (.sll o) (fun a b => a <<< shiftDistance b) o s

/-- SRL (R403). -/
def execSrl (o : GOp) (s : State) : Res :=
  logicalOp (.srl o) (fun a b => a >>> shiftDistance b) o s

/-- SLL1.16 (R410). -/
def execSll1w16 (o : GOp) (s : State) : Res :=
  shiftLoad (.sll1w16 o) 2 1 o s

/-- SLL1.32 (R410). -/
def execSll1w32 (o : GOp) (s : State) : Res :=
  shiftLoad (.sll1w32 o) 4 1 o s

/-- SLL1.64 (R410). -/
def execSll1w64 (o : GOp) (s : State) : Res :=
  shiftLoad (.sll1w64 o) 8 1 o s

/-- SLL2.16 (R411). -/
def execSll2w16 (o : GOp) (s : State) : Res :=
  shiftLoad (.sll2w16 o) 2 2 o s

/-- SLL2.32 (R411). -/
def execSll2w32 (o : GOp) (s : State) : Res :=
  shiftLoad (.sll2w32 o) 4 2 o s

/-- SLL2.64 (R411). -/
def execSll2w64 (o : GOp) (s : State) : Res :=
  shiftLoad (.sll2w64 o) 8 2 o s

/-- SLL3.16 (R413). -/
def execSll3w16 (o : GOp) (s : State) : Res :=
  shiftLoad (.sll3w16 o) 2 3 o s

/-- SLL3.32 (R413). -/
def execSll3w32 (o : GOp) (s : State) : Res :=
  shiftLoad (.sll3w32 o) 4 3 o s

/-- SLL3.64 (R413). -/
def execSll3w64 (o : GOp) (s : State) : Res :=
  shiftLoad (.sll3w64 o) 8 3 o s

end Sys2Proof.Machine
end

