-- ==== Sys2Proof/Machine/Messages.lean ====
section
/-! DEFINITION. Message-system instructions (48_message_system.md). Every one that reads a parameter or message
block raises an access violation, with nothing changed, where an access it makes is one (R571, D18). -/

namespace Sys2Proof.Machine

open Sys2Proof

/-! ### The six opcodes' three message instructions -/

/-- EXCH.LINK.FORWARD (R631, D14). -/
def execExchLinkForward (x y z : Reg) (s : State) : Res :=
  let i := Instr.exchLinkForward x y z
  ifImplemented s.params.impl809 i s <|
    let pb := lo32 (s.reg y)
    withField i pb 1 s fun f =>
    withHead i x f s fun fe m =>
    withField i (pb + 2) 2 s fun id1 =>
    withLink i x 0 id1 s fun e1 =>
    if e1.canForward then
      match m.link with
      | none => forwardOn i x exchangeStatuses f fe m e1 none s
      | some l =>
        match s.placeLink (pb + 4) l with
        | none => accessViolation i s
        | some o =>
          if o.keep then finishStatus i x o.status s
          else withField i (pb + 6) 2 s fun id2 =>
            withLink i x 100 id2 o.state fun e2 =>
            if e2.canPass || e2.canCopy then forwardOn i x exchangeStatuses f fe m e1 (some e2) o.state
            else finishStatus i x 51 o.state
    else finishStatus i x 23 s

/-- FORWARD.MSG (R630, D14). -/
def execForwardMsg (x y z : Reg) (s : State) : Res :=
  let i := Instr.forwardMsg x y z
  ifImplemented s.params.impl80A i s <|
    let pb := lo32 (s.reg y)
    withField i pb 1 s fun f =>
    withField i (pb + 2) 2 s fun id =>
    withHead i x f s fun fe m =>
    if m.link.isSome then finishStatus i x 28 s
    else withLink i x 0 id s fun e =>
      if e.canForward then forwardOn i x sendStatuses f fe m e none s else finishStatus i x 23 s

/-- SEND.SMALL.MSG (R612, D14). -/
def execSendSmallMsg (x y z : Reg) (s : State) : Res :=
  let i := Instr.sendSmallMsg x y z
  ifImplemented s.params.impl80E i s <|
    withLink i x 0 (s.reg y).toNat s fun e =>
    sendMessage i x sendStatuses e (e.message 0x10 s.processId (lowBytes 4 (s.reg z)) none) id 0 s

/-! ### Links -/

/-- DEL.LINK (R605); the box's last status is 39 (90_conflicts.md C32). -/
def execDelLink (x y z t v : Reg) (s : State) : Res :=
  let i := Instr.delLink x y z t v
  withField i (lo32 (s.reg y) + 2) 2 s fun id =>
  withLink i x 0 id s fun e =>
  if e.informOnDelete && !s.owns e then
    finishStatus i x (s.anyOf .status [0, 36, 47, 55, 39] 0) ((s.dropLink id).notify e 0x08 [])
  else finishStatus i x 0 (s.dropLink id)

/-- CREATE.LINK (R600). The ID's store comes before the table changes: where it is an access violation nothing has
changed (R571, D18). -/
def execCreateLink (x y z : Reg) (s : State) : Res :=
  let i := Instr.createLink x y z
  let pb := lo32 (s.reg y)
  withField i pb 1 s fun f =>
  withField i (pb + 1) 1 s fun r =>
  withField i (pb + 2) 2 s fun p =>
  withFunnel i x f s fun _ =>
  if f = 1 then finishStatus i x s.unnamedStatus s
  else match s.linkSlot p with
    | .error status => finishStatus i x status s
    | .ok id =>
      withField i (pb + 8) 2 s fun code =>
      withField i (pb + 10) 6 s fun grail =>
      let e : Lte := { toFunnel := BitVec.ofNat 8 f, rights := BitVec.ofNat 8 r &&& 0xFE,
                       toProcess := s.processId, versionId := s.versionId,
                       linkCode := BitVec.ofNat 16 code, linkGrail := BitVec.ofNat 48 grail }
      withStore i (pb + 2) (beBytes 2 id) s fun t => finishStatus i x 0 (t.putLink id e)

/-! ### Funnels -/

/-- ATT.FUN.TO.CHAN (R602). DESIGN CHOICE (unsafe; notes/assumptions/49.md): a funnel with messages keeps its place in the
order of activation, and so on the active funnels list of its new channel, where R54 leaves the order open. -/
def execAttFunToChan (x y z : Reg) (s : State) : Res :=
  let i := Instr.attFunToChan x y z
  let f := (s.reg y).toNat
  withFunnel i x f s fun e =>
  if 15 < (s.reg z).toNat then finishStatus i x 2 s
  else if (s.reg z).toNat = 0 ∨ f = 1 then finishStatus i x 34 s
  else finishStatus i x 0 (s.setFunnel f { e with channel := lowChan (s.reg z) })

/-- CREATE.FUN (R601, D56). -/
def execCreateFun (x y z : Reg) (s : State) : Res :=
  let i := Instr.createFun x y z
  match s.funnelSlot (s.reg y).toNat with
  | .error status => finishStatus i x status s
  | .ok f =>
    finishStatus i x 0
      ((s.putFunnel f { channel := 15, vector := s.params.sysHandlerPc, queue := [] }).setReg y
        (BitVec.ofNat 64 f))

/-- DEL.FUN (R606). -/
def execDelFun (x y z : Reg) (s : State) : Res :=
  let i := Instr.delFun x y z
  let f := (s.reg y).toNat
  withFunnel i x f s fun e =>
  if s.funnelEnabled f then finishStatus i x 3 s
  else if !e.queue.isEmpty then finishStatus i x 4 s
  else finishStatus i x 0 (s.dropFunnel f)

/-- DEL.MSG (R633). -/
def execDelMsg (x y z : Reg) (s : State) : Res :=
  let i := Instr.delMsg x y z
  let f := (s.reg y).toNat
  withHead i x f s fun e m =>
  if m.link.isSome then finishStatus i x 28 s else finishStatus i x 0 (s.dequeue f e)

/-- ENABLE.FUN (R635). -/
def execEnableFun (x y z : Reg) (s : State) : Res :=
  let i := Instr.enableFun x y z
  let f := (s.reg y).toNat
  withFunnel i x f s fun _ =>
  if s.funnelEnabled f then finishStatus i x 21 s
  else finishStatus i x 0 { s with enabled := setFunnelBit s.enabled f true }

/-- DISABLE.FUN (R636). -/
def execDisableFun (x y z : Reg) (s : State) : Res :=
  let i := Instr.disableFun x y z
  let f := (s.reg y).toNat
  withFunnel i x f s fun _ =>
  if f = 1 then finishStatus i x 17 s
  else if s.funnelEnabled f then finishStatus i x 0 { s with enabled := setFunnelBit s.enabled f false }
  else finishStatus i x 18 s

/-- SET.FUN.INT.VECTOR (R644). -/
def execSetFunIntVector (x y z : Reg) (s : State) : Res :=
  let i := Instr.setFunIntVector x y z
  let f := (s.reg y).toNat
  withFunnel i x f s fun e =>
  if f = 1 then finishStatus i x 7 s
  else finishStatus i x 0 ((s.setFunnel f { e with vector := lo32 (s.reg z) }).setReg z (zext32 e.vector))

/-! ### Channels and priority -/

/-- A channel mask in a register (R586). -/
def maskOf (w : Word) : BitVec 16 := w.setWidth 16

/-- DISABLE.CHAN.INT (R642). -/
def execDisableChanInt (x y z : Reg) (s : State) : Res :=
  let i := Instr.disableChanInt x y z
  if chanBit (maskOf (s.reg y)) 0 then finishStatus i x 15 s
  else finishStatus i x 0
    ({ s with chanMask := s.chanMask &&& ~~~(maskOf (s.reg y)) }.setReg y (s.chanMask.setWidth 64))

/-- ENABLE.CHAN.INT (R643). -/
def execEnableChanInt (x y z : Reg) (s : State) : Res :=
  finishStatus (.enableChanInt x y z) x 0
    ({ s with chanMask := s.chanMask ||| maskOf (s.reg y) }.setReg y (s.chanMask.setWidth 64))

/-- SET.LOCAL.PRI (R645). -/
def execSetLocalPri (x y z t v : Reg) (s : State) : Res :=
  finishReg (.setLocalPri x y z t v) y (BitVec.ofNat 64 s.lp.val) (s.setLocalPriority (lowChan (s.reg y)))

/-! ### Sending -/

/-- SEND.TO.HARDWARE. The status is the environment's (R613), which names no list: DESIGN CHOICE (safe for the listed codes), a
free one of R592's, the buffer shortages among them, on a link to this process too (notes/assumptions/27.md). -/
def execSendToHardware (x y z : Reg) (s : State) : Res :=
  let i := Instr.sendToHardware x y z
  withLink i x 0 (s.reg y).toNat s fun e =>
  if e.toHardware then
    finishStatus i x (s.anyOf .sendStatus sendStatuses 0) (s.emit (.hardware e.toProcess (s.reg z)))
  else finishStatus i x 31 s

/-- SEND (R611). -/
def execSend (x y z t v : Reg) (s : State) : Res :=
  let i := Instr.send x y z t v
  withField i (lo32 (s.reg y) + 2) 2 s fun id1 =>
  withData i x y z t v 888 s fun data =>
  withLink i x 0 id1 s fun e => sendMessage i x sendStatuses e (e.message 0 s.processId data none) id 0 s

/-- COPY.LINK (R614): the holder keeps the link; a notification has type 04. -/
def execCopyLink (x y z t v : Reg) (s : State) : Res :=
  shareLink (.copyLink x y z t v) x y z t v Lte.canCopy Lte.informOnCopy 0x04 (fun _ u => u) s

/-- PASS.LINK (R615): the holder loses the link; a notification has type 02. -/
def execPassLink (x y z t v : Reg) (s : State) : Res :=
  shareLink (.passLink x y z t v) x y z t v Lte.canPass Lte.informOnPass 0x02 (fun n u => u.dropLink n) s

/-! ### Receiving -/

/-- RCV (R621). -/
def execRcv (x y z t v : Reg) (s : State) : Res :=
  receiveFunnel (.rcv x y z t v) { x := x, y := y, z := z, t := t, v := v, wantLink := false } s

/-- RCV.CHAN (R622). -/
def execRcvChan (x y z t v : Reg) (s : State) : Res :=
  receiveChannel (.rcvChan x y z t v) { x := x, y := y, z := z, t := t, v := v, wantLink := false } s

/-- RCV.LINK (R623). -/
def execRcvLink (x y z t v : Reg) (s : State) : Res :=
  receiveFunnel (.rcvLink x y z t v) { x := x, y := y, z := z, t := t, v := v, wantLink := true } s

/-- RCV.LINK.ON.CHAN (R624). -/
def execRcvLinkOnChan (x y z t v : Reg) (s : State) : Res :=
  receiveChannel (.rcvLinkOnChan x y z t v) { x := x, y := y, z := z, t := t, v := v, wantLink := true } s

/-! ### Inquiry -/

/-- READ.FTE (R650). DESIGN CHOICE (unsafe; notes/assumptions/30.md): with a status that is not 0, Rz and Rt, which then
"have no meaning", are unchanged. -/
def execReadFte (x y z t v : Reg) (s : State) : Res :=
  let i := Instr.readFte x y z t v
  let f := (s.reg y).toNat
  if 255 < f then finishStatus i x 1 s
  else if s.funnels.limit < f then finishStatus i x 50 s
  else finishEntry i x z t (s.fteWord0 f) (s.fteWord1 f) s

/-- READ.LTE (R651); an unallocated page of the table is 41 (R44). DESIGN CHOICE (unsafe; notes/assumptions/30.md): with a
status that is not 0, Rz and Rt are unchanged, as for READ.FTE. -/
def execReadLte (x y z t v : Reg) (s : State) : Res :=
  let i := Instr.readLte x y z t v
  let id := (s.reg y).toNat
  if s.links.limit < id ∨ 65535 < id then finishStatus i x 43 s
  else if !s.links.allocated id then finishStatus i x 41 s
  else finishEntry i x z t (s.lteWord0 id) (s.lteWord1 id) s

end Sys2Proof.Machine
end

