-- ==== Sys2Proof/Machine/Relational.lean ====
section
/-! DEFINITION. Relational test instructions (45_relational.md). -/

namespace Sys2Proof.Machine

open Sys2Proof

/-! ### The condition and its actions -/

/-- The compare condition field selects the relation (R432): its bits are U, L, E, G, high to low. -/
def ccfSelects (ccf : BitVec 4) (r : Rel) : Bool :=
  match r with
  | .unordered => ccf.getMsbD 0
  | .less => ccf.getMsbD 1
  | .equal => ccf.getMsbD 2
  | .greater => ccf.getMsbD 3

/-- The branch target of an appendage: pc plus the 12-bit signed offset (R431). -/
def State.appTarget (s : State) (a : App) : Addr := s.pc + a.act.signExtend 32

/-- The branch form's action (R433). -/
def branchAction (i : Instr) (a : App) (taken : Bool) (s : State) : Res :=
  if taken then .next (s.setPc (s.appTarget a)) else advance i s

/-- Appendage bit 4 tells the generate-exception form from the set-register form (R431). -/
def generates (a : App) : Bool := a.act.getMsbD 0

/-- The set-register and generate-exception forms' action (R433, R726). -/
def testAction (i : Instr) (x : Reg) (a : App) (held : Bool) (s : State) : Res :=
  if generates a then
    if held then raise i { code := .software, src2 := (a.act.setWidth 8).setWidth 64 } s else advance i s
  else finishReg i x (if held then 1 else 0) s

/-! ### Integer compares -/

/-- Signed or unsigned comparison of two words (R434). -/
def intRel (e : Ext) (p q : Word) : Rel :=
  match e with
  | .sign => relInt p.toInt q.toInt
  | .zero => relInt p.toNat q.toNat

/-- CMP.BR and CMPU.BR (R434 to R436). -/
def compareBranch (i : Instr) (e : Ext) (n : Nat) (o : GOp) (a : App) (s : State) : Res :=
  withLast i e n o s fun q => branchAction i a (ccfSelects a.ccf (intRel e (s.reg o.a) q)) s

/-- CMP and CMPU (R434, R437, R438). -/
def compareTest (i : Instr) (e : Ext) (n : Nat) (o : GOp) (a : App) (s : State) : Res :=
  withLast i e n o s fun q => testAction i o.x a (ccfSelects a.ccf (intRel e (s.reg o.a) q)) s

/-! ### Floating-point compares (R440) -/

/-- The procedure of R440 after the compare; `act` is the appendage's action given the test's result. An undefined
operand makes the result and the five occurred bits any value (U1). -/
def floatCompare (i : Instr) (c : FCmp) (a : App) (act : Bool → State → Res) (s : State) : Res :=
  match c with
  | .undefined => act (s.anyBool .sign) s.anyFpBits
  | .rel r => act (ccfSelects a.ccf r) s
  | .invalid =>
    if s.excEnabled .fpInvalid then raise i { code := .fpInvalid } s
    else if ccfSelects a.ccf .unordered then act true (s.setOccurred .fpInvalid)
    else advance i (s.setOccurred .fpInvalid)

/-- FCMP.BR and FCMPX.BR (R441, R442). -/
def floatBranch (i : Instr) (excepted : Bool) (f : Fmt) (o : GOp) (a : App) (s : State) : Res :=
  withLast i .zero f.bytes o s fun q =>
    floatCompare i (fcompare excepted f (wordDatum f (s.reg o.a)) (wordDatum f q)) a (branchAction i a) s

/-- FCMP and FCMPX (R445, R446). -/
def floatTest (i : Instr) (excepted : Bool) (f : Fmt) (o : GOp) (a : App) (s : State) : Res :=
  withLast i .zero f.bytes o s fun q =>
    floatCompare i (fcompare excepted f (wordDatum f (s.reg o.a)) (wordDatum f q)) a (testAction i o.x a) s

/-- The extended compares, on the pairs Ry and Rz (R443, R444, R447, R448). -/
def floatPairCompare (i : Instr) (excepted : Bool) (y z : Reg) (a : App) (act : Bool → State → Res)
    (s : State) : Res :=
  if pairSource y && pairSource z then
    floatCompare i (fcompare excepted .extended (s.pair y) (s.pair z)) a act s
  else illegal i s

/-! ### String compares (R450 to R452) -/

/-- The relation of the `n` bytes from `a` up to those that `other` gives, the first difference deciding; none
is an access violation. Bytes after the first difference are not read (R450, D38). -/
def stringRel (s : State) (other : Nat → Option Byte) (a : Addr) (k : Nat) : Nat → Option Rel
  | 0 => some .equal
  | n + 1 =>
    if s.allowed .read a then
      match other k with
      | none => none
      | some b =>
        if s.byteAt a = b then stringRel s other (a + 1) (k + 1) n
        else some (relInt (s.byteAt a).toNat b.toNat)
    else none

/-- The bytes of a second string (R450). -/
def State.stringByte (s : State) (a : Addr) (k : Nat) : Option Byte :=
  if s.allowed .read (a + BitVec.ofNat 32 k) then some (s.byteAt (a + BitVec.ofNat 32 k)) else none

/-- The bytes of a word over and over (R451). -/
def constByte (w : Word) (k : Nat) : Option Byte := some ((wordBytes w).getD (k % 8) 0)

/-- The relation CMPB.BR and CMPB.TEST test; a length of zero or less compares equal (R450, D38). -/
def State.stringsRel (s : State) (x y z : Reg) : Option Rel :=
  stringRel s (s.stringByte (lo32 (s.reg y))) (lo32 (s.reg x)) 0 (s.reg z).toInt.toNat

/-- The relation CMPB.BR.CONST tests (R451). -/
def State.constRel (s : State) (x y z : Reg) : Option Rel :=
  stringRel s (constByte (s.reg y)) (lo32 (s.reg x)) 0 (s.reg z).toInt.toNat

/-- The value CMPB.TEST places for a relation (R452). -/
def relWord (r : Rel) : Word :=
  match r with
  | .less => -1
  | .equal => 0
  | .greater => 1
  | .unordered => 0

/-! ### The instructions -/

/-- CMP.BR.8 (R435). -/
def execCmpBr8 (o : GOp) (a : App) (s : State) : Res :=
  compareBranch (.cmpBr8 o a) .sign 1 o a s

/-- CMP.BR.16 (R435). -/
def execCmpBr16 (o : GOp) (a : App) (s : State) : Res :=
  compareBranch (.cmpBr16 o a) .sign 2 o a s

/-- CMP.BR.32 (R435). -/
def execCmpBr32 (o : GOp) (a : App) (s : State) : Res :=
  compareBranch (.cmpBr32 o a) .sign 4 o a s

/-- CMP.BR.64 (R435). -/
def execCmpBr64 (o : GOp) (a : App) (s : State) : Res :=
  compareBranch (.cmpBr64 o a) .sign 8 o a s

/-- CMPU.BR.8 (R436). -/
def execCmpuBr8 (o : GOp) (a : App) (s : State) : Res :=
  compareBranch (.cmpuBr8 o a) .zero 1 o a s

/-- CMPU.BR.16 (R436). -/
def execCmpuBr16 (o : GOp) (a : App) (s : State) : Res :=
  compareBranch (.cmpuBr16 o a) .zero 2 o a s

/-- CMPU.BR.32 (R436). -/
def execCmpuBr32 (o : GOp) (a : App) (s : State) : Res :=
  compareBranch (.cmpuBr32 o a) .zero 4 o a s

/-- CMPU.BR.64 (R436). -/
def execCmpuBr64 (o : GOp) (a : App) (s : State) : Res :=
  compareBranch (.cmpuBr64 o a) .zero 8 o a s

/-- CMP.8 (R437). -/
def execCmp8 (o : GOp) (a : App) (s : State) : Res :=
  compareTest (.cmp8 o a) .sign 1 o a s

/-- CMP.16 (R437). -/
def execCmp16 (o : GOp) (a : App) (s : State) : Res :=
  compareTest (.cmp16 o a) .sign 2 o a s

/-- CMP.32 (R437). -/
def execCmp32 (o : GOp) (a : App) (s : State) : Res :=
  compareTest (.cmp32 o a) .sign 4 o a s

/-- CMP.64 (R437). -/
def execCmp64 (o : GOp) (a : App) (s : State) : Res :=
  compareTest (.cmp64 o a) .sign 8 o a s

/-- CMPU.8 (R438). -/
def execCmpu8 (o : GOp) (a : App) (s : State) : Res :=
  compareTest (.cmpu8 o a) .zero 1 o a s

/-- CMPU.16 (R438). -/
def execCmpu16 (o : GOp) (a : App) (s : State) : Res :=
  compareTest (.cmpu16 o a) .zero 2 o a s

/-- CMPU.32 (R438). -/
def execCmpu32 (o : GOp) (a : App) (s : State) : Res :=
  compareTest (.cmpu32 o a) .zero 4 o a s

/-- CMPU.64 (R438). -/
def execCmpu64 (o : GOp) (a : App) (s : State) : Res :=
  compareTest (.cmpu64 o a) .zero 8 o a s

/-- FCMP.BR.32 (R441). -/
def execFcmpBr32 (o : GOp) (a : App) (s : State) : Res :=
  floatBranch (.fcmpBr32 o a) false .single o a s

/-- FCMP.BR.64 (R441). -/
def execFcmpBr64 (o : GOp) (a : App) (s : State) : Res :=
  floatBranch (.fcmpBr64 o a) false .double o a s

/-- FCMPX.BR.32 (R442). -/
def execFcmpxBr32 (o : GOp) (a : App) (s : State) : Res :=
  floatBranch (.fcmpxBr32 o a) true .single o a s

/-- FCMPX.BR.64 (R442). -/
def execFcmpxBr64 (o : GOp) (a : App) (s : State) : Res :=
  floatBranch (.fcmpxBr64 o a) true .double o a s

/-- FCMP.32 (R445). -/
def execFcmp32 (o : GOp) (a : App) (s : State) : Res :=
  floatTest (.fcmp32 o a) false .single o a s

/-- FCMP.64 (R445). -/
def execFcmp64 (o : GOp) (a : App) (s : State) : Res :=
  floatTest (.fcmp64 o a) false .double o a s

/-- FCMPX.32 (R446). -/
def execFcmpx32 (o : GOp) (a : App) (s : State) : Res :=
  floatTest (.fcmpx32 o a) true .single o a s

/-- FCMPX.64 (R446). -/
def execFcmpx64 (o : GOp) (a : App) (s : State) : Res :=
  floatTest (.fcmpx64 o a) true .double o a s

/-- FCMP.BR.80 (R443). -/
def execFcmpBr80 (x y z : Reg) (a : App) (s : State) : Res :=
  floatPairCompare (.fcmpBr80 x y z a) false y z a (branchAction (.fcmpBr80 x y z a) a) s

/-- FCMPX.BR.80 (R444). -/
def execFcmpxBr80 (x y z : Reg) (a : App) (s : State) : Res :=
  floatPairCompare (.fcmpxBr80 x y z a) true y z a (branchAction (.fcmpxBr80 x y z a) a) s

/-- FCMP.80 (R447). -/
def execFcmp80 (x y z : Reg) (a : App) (s : State) : Res :=
  floatPairCompare (.fcmp80 x y z a) false y z a (testAction (.fcmp80 x y z a) x a) s

/-- FCMPX.80 (R448). -/
def execFcmpx80 (x y z : Reg) (a : App) (s : State) : Res :=
  floatPairCompare (.fcmpx80 x y z a) true y z a (testAction (.fcmpx80 x y z a) x a) s

/-- CMPB.BR (R450); Rx, Ry and Rz hold any value afterwards (U14). -/
def execCmpbBr (x y z : Reg) (a : App) (s : State) : Res :=
  match s.stringsRel x y z with
  | none => accessViolation (.cmpbBr x y z a) s
  | some r => branchAction (.cmpbBr x y z a) a (ccfSelects a.ccf r)
      (((s.setReg x (s.anyWord .regX)).setReg y (s.anyWord .regY)).setReg z (s.anyWord .regZ))

/-- CMPB.BR.CONST (R451); Rx and Rz hold any value afterwards (U14), Ry is preserved. -/
def execCmpbBrConst (x y z : Reg) (a : App) (s : State) : Res :=
  match s.constRel x y z with
  | none => accessViolation (.cmpbBrConst x y z a) s
  | some r => branchAction (.cmpbBrConst x y z a) a (ccfSelects a.ccf r)
      ((s.setReg x (s.anyWord .regX)).setReg z (s.anyWord .regZ))

/-- CMPB.TEST (R452); Ry and Rz hold any value afterwards (U14), Rx the result. DESIGN CHOICE (unsafe;
notes/assumptions/24.md): the result is written last, so it stands where Rx is Ry or Rz. -/
def execCmpbTest (x y z : Reg) (s : State) : Res :=
  match s.stringsRel x y z with
  | none => accessViolation (.cmpbTest x y z) s
  | some r => finishReg (.cmpbTest x y z) x (relWord r)
      ((s.setReg y (s.anyWord .regY)).setReg z (s.anyWord .regZ))

end Sys2Proof.Machine
end

