-- ==== Sys2Proof/Machine/Dispatch.lean ====
section
/-! DEFINITION. The meaning of every instruction: one arm per constructor, in the order of the opcode table. -/

namespace Sys2Proof.Machine

open Sys2Proof

/-- The meaning of an instruction in a state. -/
def exec (i : Instr) (s : State) : Host.Outcome State Fault Refusal :=
  match i with
  | .ld8 o => Sys2Proof.Machine.execLd8 o s
  | .ld16 o => Sys2Proof.Machine.execLd16 o s
  | .ld32 o => Sys2Proof.Machine.execLd32 o s
  | .ld64 o => Sys2Proof.Machine.execLd64 o s
  | .ldz8 o => Sys2Proof.Machine.execLdz8 o s
  | .ldz16 o => Sys2Proof.Machine.execLdz16 o s
  | .ldz24 o => Sys2Proof.Machine.execLdz24 o s
  | .ldz32 o => Sys2Proof.Machine.execLdz32 o s
  | .ldz40 o => Sys2Proof.Machine.execLdz40 o s
  | .ldz48 o => Sys2Proof.Machine.execLdz48 o s
  | .ldz56 o => Sys2Proof.Machine.execLdz56 o s
  | .st8 o => Sys2Proof.Machine.execSt8 o s
  | .st16 o => Sys2Proof.Machine.execSt16 o s
  | .st24 o => Sys2Proof.Machine.execSt24 o s
  | .st32 o => Sys2Proof.Machine.execSt32 o s
  | .st40 o => Sys2Proof.Machine.execSt40 o s
  | .st48 o => Sys2Proof.Machine.execSt48 o s
  | .st56 o => Sys2Proof.Machine.execSt56 o s
  | .st64 o => Sys2Proof.Machine.execSt64 o s
  | .stv8 o => Sys2Proof.Machine.execStv8 o s
  | .stv16 o => Sys2Proof.Machine.execStv16 o s
  | .stv32 o => Sys2Proof.Machine.execStv32 o s
  | .sti8 o => Sys2Proof.Machine.execSti8 o s
  | .sti16 o => Sys2Proof.Machine.execSti16 o s
  | .sti32 o => Sys2Proof.Machine.execSti32 o s
  | .sti64 o => Sys2Proof.Machine.execSti64 o s
  | .stin8 o => Sys2Proof.Machine.execStin8 o s
  | .stin16 o => Sys2Proof.Machine.execStin16 o s
  | .stin32 o => Sys2Proof.Machine.execStin32 o s
  | .stin64 o => Sys2Proof.Machine.execStin64 o s
  | .extract x y z f => Sys2Proof.Machine.execExtract x y z f s
  | .extractz x y z f => Sys2Proof.Machine.execExtractz x y z f s
  | .insert x y z f => Sys2Proof.Machine.execInsert x y z f s
  | .exch x y z => Sys2Proof.Machine.execExch x y z s
  | .exchAnd x y z => Sys2Proof.Machine.execExchAnd x y z s
  | .exchOr x y z => Sys2Proof.Machine.execExchOr x y z s
  | .copyb x y z => Sys2Proof.Machine.execCopyb x y z s
  | .copybConst x y z => Sys2Proof.Machine.execCopybConst x y z s
  | .add16 o => Sys2Proof.Machine.execAdd16 o s
  | .add32 o => Sys2Proof.Machine.execAdd32 o s
  | .add64 o => Sys2Proof.Machine.execAdd64 o s
  | .adduc64 o => Sys2Proof.Machine.execAdduc64 o s
  | .addi64 o => Sys2Proof.Machine.execAddi64 o s
  | .div16 o => Sys2Proof.Machine.execDiv16 o s
  | .div32 o => Sys2Proof.Machine.execDiv32 o s
  | .div64 o => Sys2Proof.Machine.execDiv64 o s
  | .divr16 o => Sys2Proof.Machine.execDivr16 o s
  | .divr32 o => Sys2Proof.Machine.execDivr32 o s
  | .divr64 o => Sys2Proof.Machine.execDivr64 o s
  | .rem16 o => Sys2Proof.Machine.execRem16 o s
  | .rem32 o => Sys2Proof.Machine.execRem32 o s
  | .rem64 o => Sys2Proof.Machine.execRem64 o s
  | .remr16 o => Sys2Proof.Machine.execRemr16 o s
  | .remr32 o => Sys2Proof.Machine.execRemr32 o s
  | .remr64 o => Sys2Proof.Machine.execRemr64 o s
  | .mul16 o => Sys2Proof.Machine.execMul16 o s
  | .mul32 o => Sys2Proof.Machine.execMul32 o s
  | .mul64 o => Sys2Proof.Machine.execMul64 o s
  | .mul128 x y z => Sys2Proof.Machine.execMul128 x y z s
  | .mulu128 x y z => Sys2Proof.Machine.execMulu128 x y z s
  | .neg16 o => Sys2Proof.Machine.execNeg16 o s
  | .neg32 o => Sys2Proof.Machine.execNeg32 o s
  | .neg64 o => Sys2Proof.Machine.execNeg64 o s
  | .sub16 o => Sys2Proof.Machine.execSub16 o s
  | .sub32 o => Sys2Proof.Machine.execSub32 o s
  | .sub64 o => Sys2Proof.Machine.execSub64 o s
  | .subr16 o => Sys2Proof.Machine.execSubr16 o s
  | .subr32 o => Sys2Proof.Machine.execSubr32 o s
  | .subr64 o => Sys2Proof.Machine.execSubr64 o s
  | .subuc64 o => Sys2Proof.Machine.execSubuc64 o s
  | .subucr64 o => Sys2Proof.Machine.execSubucr64 o s
  | .subi64 o => Sys2Proof.Machine.execSubi64 o s
  | .sla o => Sys2Proof.Machine.execSla o s
  | .sra o => Sys2Proof.Machine.execSra o s
  | .fadd32 o => Sys2Proof.Machine.execFadd32 o s
  | .fadd64 o => Sys2Proof.Machine.execFadd64 o s
  | .fadd80 x y z => Sys2Proof.Machine.execFadd80 x y z s
  | .fsub32 o => Sys2Proof.Machine.execFsub32 o s
  | .fsub64 o => Sys2Proof.Machine.execFsub64 o s
  | .fsubr32 o => Sys2Proof.Machine.execFsubr32 o s
  | .fsubr64 o => Sys2Proof.Machine.execFsubr64 o s
  | .fsub80 x y z => Sys2Proof.Machine.execFsub80 x y z s
  | .fmul32 o => Sys2Proof.Machine.execFmul32 o s
  | .fmul64 o => Sys2Proof.Machine.execFmul64 o s
  | .fmul80 x y z => Sys2Proof.Machine.execFmul80 x y z s
  | .fdiv32 o => Sys2Proof.Machine.execFdiv32 o s
  | .fdiv64 o => Sys2Proof.Machine.execFdiv64 o s
  | .fdivr32 o => Sys2Proof.Machine.execFdivr32 o s
  | .fdivr64 o => Sys2Proof.Machine.execFdivr64 o s
  | .fdiv80 x y z => Sys2Proof.Machine.execFdiv80 x y z s
  | .frem32 x y z => Sys2Proof.Machine.execFrem32 x y z s
  | .frem64 x y z => Sys2Proof.Machine.execFrem64 x y z s
  | .frem80 x y z => Sys2Proof.Machine.execFrem80 x y z s
  | .asciiAdd x y z => Sys2Proof.Machine.execAsciiAdd x y z s
  | .asciiAddc x y z => Sys2Proof.Machine.execAsciiAddc x y z s
  | .asciiSub x y z t u => Sys2Proof.Machine.execAsciiSub x y z t u s
  | .asciiSubc x y z => Sys2Proof.Machine.execAsciiSubc x y z s
  | .logAnd o => Sys2Proof.Machine.execLogAnd o s
  | .logOr o => Sys2Proof.Machine.execLogOr o s
  | .logNot o => Sys2Proof.Machine.execLogNot o s
  | .logXor o => Sys2Proof.Machine.execLogXor o s
  | .setBit x b => Sys2Proof.Machine.execSetBit x b s
  | .clearBit x b => Sys2Proof.Machine.execClearBit x b s
  | .toggleBit x b => Sys2Proof.Machine.execToggleBit x b s
  | .findFirst o => Sys2Proof.Machine.execFindFirst o s
  | .rol o => Sys2Proof.Machine.execRol o s
  | .ror o => Sys2Proof.Machine.execRor o s
  | .sll o => Sys2Proof.Machine.execSll o s
  | .srl o => Sys2Proof.Machine.execSrl o s
  | .sll1w16 o => Sys2Proof.Machine.execSll1w16 o s
  | .sll1w32 o => Sys2Proof.Machine.execSll1w32 o s
  | .sll1w64 o => Sys2Proof.Machine.execSll1w64 o s
  | .sll2w16 o => Sys2Proof.Machine.execSll2w16 o s
  | .sll2w32 o => Sys2Proof.Machine.execSll2w32 o s
  | .sll2w64 o => Sys2Proof.Machine.execSll2w64 o s
  | .sll3w16 o => Sys2Proof.Machine.execSll3w16 o s
  | .sll3w32 o => Sys2Proof.Machine.execSll3w32 o s
  | .sll3w64 o => Sys2Proof.Machine.execSll3w64 o s
  | .cmpBr8 o a => Sys2Proof.Machine.execCmpBr8 o a s
  | .cmpBr16 o a => Sys2Proof.Machine.execCmpBr16 o a s
  | .cmpBr32 o a => Sys2Proof.Machine.execCmpBr32 o a s
  | .cmpBr64 o a => Sys2Proof.Machine.execCmpBr64 o a s
  | .cmpuBr8 o a => Sys2Proof.Machine.execCmpuBr8 o a s
  | .cmpuBr16 o a => Sys2Proof.Machine.execCmpuBr16 o a s
  | .cmpuBr32 o a => Sys2Proof.Machine.execCmpuBr32 o a s
  | .cmpuBr64 o a => Sys2Proof.Machine.execCmpuBr64 o a s
  | .cmp8 o a => Sys2Proof.Machine.execCmp8 o a s
  | .cmp16 o a => Sys2Proof.Machine.execCmp16 o a s
  | .cmp32 o a => Sys2Proof.Machine.execCmp32 o a s
  | .cmp64 o a => Sys2Proof.Machine.execCmp64 o a s
  | .cmpu8 o a => Sys2Proof.Machine.execCmpu8 o a s
  | .cmpu16 o a => Sys2Proof.Machine.execCmpu16 o a s
  | .cmpu32 o a => Sys2Proof.Machine.execCmpu32 o a s
  | .cmpu64 o a => Sys2Proof.Machine.execCmpu64 o a s
  | .fcmpBr32 o a => Sys2Proof.Machine.execFcmpBr32 o a s
  | .fcmpBr64 o a => Sys2Proof.Machine.execFcmpBr64 o a s
  | .fcmpxBr32 o a => Sys2Proof.Machine.execFcmpxBr32 o a s
  | .fcmpxBr64 o a => Sys2Proof.Machine.execFcmpxBr64 o a s
  | .fcmp32 o a => Sys2Proof.Machine.execFcmp32 o a s
  | .fcmp64 o a => Sys2Proof.Machine.execFcmp64 o a s
  | .fcmpx32 o a => Sys2Proof.Machine.execFcmpx32 o a s
  | .fcmpx64 o a => Sys2Proof.Machine.execFcmpx64 o a s
  | .fcmp80 x y z a => Sys2Proof.Machine.execFcmp80 x y z a s
  | .fcmpBr80 x y z a => Sys2Proof.Machine.execFcmpBr80 x y z a s
  | .fcmpx80 x y z a => Sys2Proof.Machine.execFcmpx80 x y z a s
  | .fcmpxBr80 x y z a => Sys2Proof.Machine.execFcmpxBr80 x y z a s
  | .cmpbBr x y z a => Sys2Proof.Machine.execCmpbBr x y z a s
  | .cmpbBrConst x y z a => Sys2Proof.Machine.execCmpbBrConst x y z a s
  | .cmpbTest x y z => Sys2Proof.Machine.execCmpbTest x y z s
  | .cvtDe o => Sys2Proof.Machine.execCvtDe o s
  | .cvtDi o => Sys2Proof.Machine.execCvtDi o s
  | .cvtDs o => Sys2Proof.Machine.execCvtDs o s
  | .cvtId o => Sys2Proof.Machine.execCvtId o s
  | .cvtIs o => Sys2Proof.Machine.execCvtIs o s
  | .cvtSd o => Sys2Proof.Machine.execCvtSd o s
  | .cvtSi o => Sys2Proof.Machine.execCvtSi o s
  | .cvtSe o => Sys2Proof.Machine.execCvtSe o s
  | .finp32 o => Sys2Proof.Machine.execFinp32 o s
  | .finp64 o => Sys2Proof.Machine.execFinp64 o s
  | .cvtAi x y z => Sys2Proof.Machine.execCvtAi x y z s
  | .cvtIa x y z => Sys2Proof.Machine.execCvtIa x y z s
  | .cvtIe x y z => Sys2Proof.Machine.execCvtIe x y z s
  | .cvtEi x y z => Sys2Proof.Machine.execCvtEi x y z s
  | .cvtEs x y z => Sys2Proof.Machine.execCvtEs x y z s
  | .cvtEd x y z => Sys2Proof.Machine.execCvtEd x y z s
  | .finp80 x y z => Sys2Proof.Machine.execFinp80 x y z s
  | .brAbs u d => Sys2Proof.Machine.execBrAbs u d s
  | .brRel u d => Sys2Proof.Machine.execBrRel u d s
  | .brBackward b => Sys2Proof.Machine.execBrBackward b s
  | .brForward b => Sys2Proof.Machine.execBrForward b s
  | .brGtAbs x u d => Sys2Proof.Machine.execBrGtAbs x u d s
  | .brGtRel x u d => Sys2Proof.Machine.execBrGtRel x u d s
  | .brBGtShRel x b => Sys2Proof.Machine.execBrBGtShRel x b s
  | .brFGtShRel x b => Sys2Proof.Machine.execBrFGtShRel x b s
  | .brEqAbs x u d => Sys2Proof.Machine.execBrEqAbs x u d s
  | .brEqRel x u d => Sys2Proof.Machine.execBrEqRel x u d s
  | .brBEqShRel x b => Sys2Proof.Machine.execBrBEqShRel x b s
  | .brFEqShRel x b => Sys2Proof.Machine.execBrFEqShRel x b s
  | .brGeAbs x u d => Sys2Proof.Machine.execBrGeAbs x u d s
  | .brGeRel x u d => Sys2Proof.Machine.execBrGeRel x u d s
  | .brBGeShRel x b => Sys2Proof.Machine.execBrBGeShRel x b s
  | .brFGeShRel x b => Sys2Proof.Machine.execBrFGeShRel x b s
  | .brLtAbs x u d => Sys2Proof.Machine.execBrLtAbs x u d s
  | .brLtRel x u d => Sys2Proof.Machine.execBrLtRel x u d s
  | .brBLtShRel x b => Sys2Proof.Machine.execBrBLtShRel x b s
  | .brFLtShRel x b => Sys2Proof.Machine.execBrFLtShRel x b s
  | .brNeAbs x u d => Sys2Proof.Machine.execBrNeAbs x u d s
  | .brNeRel x u d => Sys2Proof.Machine.execBrNeRel x u d s
  | .brBNeShRel x b => Sys2Proof.Machine.execBrBNeShRel x b s
  | .brFNeShRel x b => Sys2Proof.Machine.execBrFNeShRel x b s
  | .brLeAbs x u d => Sys2Proof.Machine.execBrLeAbs x u d s
  | .brLeRel x u d => Sys2Proof.Machine.execBrLeRel x u d s
  | .brBLeShRel x b => Sys2Proof.Machine.execBrBLeShRel x b s
  | .brFLeShRel x b => Sys2Proof.Machine.execBrFLeShRel x b s
  | .brReg x => Sys2Proof.Machine.execBrReg x s
  | .call u d => Sys2Proof.Machine.execCall u d s
  | .callReg x u d => Sys2Proof.Machine.execCallReg x u d s
  | .exit u b => Sys2Proof.Machine.execExit u b s
  | .ixit u b => Sys2Proof.Machine.execIxit u b s
  | .bxit u b => Sys2Proof.Machine.execBxit u b s
  | .breakpoint => Sys2Proof.Machine.execBreakpoint s
  | .exception x y z => Sys2Proof.Machine.execException x y z s
  | .exchLinkForward x y z => Sys2Proof.Machine.execExchLinkForward x y z s
  | .forwardMsg x y z => Sys2Proof.Machine.execForwardMsg x y z s
  | .sendSmallMsg x y z => Sys2Proof.Machine.execSendSmallMsg x y z s
  | .delLink x y z t v => Sys2Proof.Machine.execDelLink x y z t v s
  | .attFunToChan x y z => Sys2Proof.Machine.execAttFunToChan x y z s
  | .createFun x y z => Sys2Proof.Machine.execCreateFun x y z s
  | .createLink x y z => Sys2Proof.Machine.execCreateLink x y z s
  | .delFun x y z => Sys2Proof.Machine.execDelFun x y z s
  | .delMsg x y z => Sys2Proof.Machine.execDelMsg x y z s
  | .disableChanInt x y z => Sys2Proof.Machine.execDisableChanInt x y z s
  | .disableFun x y z => Sys2Proof.Machine.execDisableFun x y z s
  | .enableChanInt x y z => Sys2Proof.Machine.execEnableChanInt x y z s
  | .enableFun x y z => Sys2Proof.Machine.execEnableFun x y z s
  | .sendToHardware x y z => Sys2Proof.Machine.execSendToHardware x y z s
  | .setFunIntVector x y z => Sys2Proof.Machine.execSetFunIntVector x y z s
  | .copyLink x y z t v => Sys2Proof.Machine.execCopyLink x y z t v s
  | .passLink x y z t v => Sys2Proof.Machine.execPassLink x y z t v s
  | .rcv x y z t v => Sys2Proof.Machine.execRcv x y z t v s
  | .rcvChan x y z t v => Sys2Proof.Machine.execRcvChan x y z t v s
  | .rcvLink x y z t v => Sys2Proof.Machine.execRcvLink x y z t v s
  | .rcvLinkOnChan x y z t v => Sys2Proof.Machine.execRcvLinkOnChan x y z t v s
  | .readFte x y z t v => Sys2Proof.Machine.execReadFte x y z t v s
  | .readLte x y z t v => Sys2Proof.Machine.execReadLte x y z t v s
  | .send x y z t v => Sys2Proof.Machine.execSend x y z t v s
  | .setLocalPri x y z t v => Sys2Proof.Machine.execSetLocalPri x y z t v s
  | .nop => Sys2Proof.Machine.execNop s
  | .readMachId x => Sys2Proof.Machine.execReadMachId x s
  | .memoryMan x y z => Sys2Proof.Machine.execMemoryMan x y z s
  | .modifyPme x y z => Sys2Proof.Machine.execModifyPme x y z s
  | .readCpuTimer x => Sys2Proof.Machine.execReadCpuTimer x s
  | .readPme x => Sys2Proof.Machine.execReadPme x s
  | .readRealTimer x => Sys2Proof.Machine.execReadRealTimer x s
  | .readStat x => Sys2Proof.Machine.execReadStat x s
  | .writeStat x => Sys2Proof.Machine.execWriteStat x s

end Sys2Proof.Machine
end

