-- ==== Sys2Proof/Machine/SquareRoot.lean ====
section
/-! DEFINITION. FSQR (R355): it has a meaning and no opcode of its own; the open parameter FSQR_OPCODES gives it
opcodes (D36). Which formats exist, and which operand is the source, the source lost: DESIGN CHOICE (unsafe;
notes/assumptions/34.md). With the default, no opcode, nothing here is ever reached. -/

namespace Sys2Proof.Machine

open Sys2Proof

/-- An FSQR: of the generalized class, from the last operand to Rx, or extended, from the pair Rz to the pair Rx. -/
inductive Fsqr
  | general (f : Fmt) (o : GOp)
  | pair (x z : Reg)
deriving DecidableEq, Repr

/-- The format an opcode of the generalized class has as an FSQR: no opcode of another instruction, and none of the
relational class, is one (R147). -/
def fsqrFormat (p : Config.Params) (op1 op2 : Nib) : Option Fmt :=
  if op1 = 2 ∨ op1 = 3 ∨ (findRow longRows (nibs op1 op2).toNat).isSome then none
  else if p.fsqrOpcodes.contains (.single op1 op2) then some .single
  else if p.fsqrOpcodes.contains (.double op1 op2) then some .double
  else none

/-- The FSQR that bytes stand for, in the modes of the other floating-point instructions, which have no immediates
(R150, R320, R330). -/
def decodeFsqr (p : Config.Params) (bs : List Byte) : Option Fsqr :=
  match bs with
  | b0 :: b1 :: r =>
    if loNib b0 = 0 then
      if hiNib b0 = 0xF && (nonRow p 0xF (hiNib b1)).isNone && p.fsqrOpcodes.contains (.extended (hiNib b1)) then
        r.head?.map fun b2 => .pair (loNib b1) (loNib b2)
      else none
    else if isShortMode (hiNib b0) || decide (hiNib b0 ∈ ([2, 5, 7] : List Nib)) then none
    else (fsqrFormat p (loNib b0) (hiNib b1)).bind fun f =>
      (longOperand (hiNib b0) (loNib b1) r).map fun o => .general f o.1
  | _ => none

/-- An extended FSQR names a register pair that may not be named (R23, R320). -/
def Fsqr.badPair : Fsqr → Bool
  | .general _ _ => false
  | .pair x z => !(pairTarget x && pairSource z)

/-- FSQR (R355), its bytes given; the extended form's register pairs are checked as for every pair (R23, R320). -/
def execFsqr (q : Fsqr) (bytes : List Byte) (s : State) : Res :=
  let next := s.pc + BitVec.ofNat 32 bytes.length
  if q.badPair then raiseAt bytes s.pc next { code := .illegal } s
  else match q with
    | .general f o =>
      match s.lastVal .zero f.bytes o with
      | none => raiseAt [] s.pc next { code := .accessViolation } s
      | some b => finishFloatAt bytes next (writeDatum f o.x) (fsqrt s.fenv f (wordDatum f b)) s
    | .pair x z => finishFloatAt bytes next (writeDatum .extended x) (fsqrt s.fenv .extended (s.pair z)) s

end Sys2Proof.Machine
end

