-- ==== Sys2Proof/Machine/Fetch.lean ====
section
/-! DEFINITION. Fetching an instruction (R102, R147, R169), and what happens at the boundary after it (R702):
single step, the timers, the environment. -/

namespace Sys2Proof.Machine

open Sys2Proof

/-! ### Fetch -/

/-- What a fetch at the pc finds. -/
inductive Fetched
  /-- A byte of the instruction is an access violation (R102, R740). -/
  | violation
  /-- The bytes are no instruction (R148); as many bytes as its length (R730). -/
  | illegal (bytes : List Byte)
  /-- An instruction. -/
  | instr (i : Instr)
  /-- An FSQR, which has an opcode only by a parameter, with its bytes (R355, D36). -/
  | fsqr (q : Fsqr) (bytes : List Byte)
deriving DecidableEq, Repr

/-- `MemFetch(a, n)` (R102); none is an access violation. -/
def State.fetchBytes (s : State) (a : Addr) (n : Nat) : Option (List Byte) :=
  if s.allowedRange .fetch a n then some (readBytes s.mem a n) else none

/-- The bytes from `a` up, zero for a byte that may not be fetched. -/
def State.visibleBytes (s : State) (a : Addr) : Nat → List Byte
  | 0 => []
  | n + 1 => (if s.allowed .fetch a then s.byteAt a else 0) :: s.visibleBytes (a + 1) n

/-- The bytes, followed by zeros, begin with an instruction. The first two bytes alone decide it. -/
def opcodeKnown (p : Config.Params) (bs : List Byte) : Bool :=
  match decode p (bs ++ List.replicate 9 0) with
  | .ok _ => true
  | .error _ => (decodeFsqr p (bs ++ List.replicate 9 0)).isSome

/-- The first byte alone makes the instruction illegal: reserved mode 2, OP0 = 4 or C, or a short-op that no
table lists (R148). -/
def firstByteIllegal (p : Config.Params) (b0 : Byte) : Bool :=
  !opcodeKnown p [b0] && (decide (instrLen b0 = 1) || isShortMode (hiNib b0) && decide (loNib b0 ≠ 0))

/-- The instruction is illegal by its opcode or by its registers alone: an opcode that is not implemented (R8, D14), or
a register pair that may not be named (R23, D3, U17). -/
def illegalForm (p : Config.Params) : Instr → Bool
  | .readMachId _ => !p.impl603
  | .memoryMan .. => !p.impl700
  | .modifyPme .. => !p.impl701
  | .exchLinkForward .. => !p.impl809
  | .forwardMsg .. => !p.impl80A
  | .sendSmallMsg .. => !p.impl80E
  | .mul128 x _ _ => !pairDest x
  | .mulu128 x _ _ => !pairDest x
  | .fadd80 x y z => !(pairTarget x && pairSource y && pairSource z)
  | .fsub80 x y z => !(pairTarget x && pairSource y && pairSource z)
  | .fmul80 x y z => !(pairTarget x && pairSource y && pairSource z)
  | .fdiv80 x y z => !(pairTarget x && pairSource y && pairSource z)
  | .frem80 _ y z => !(pairTarget z && pairSource y)
  | .cvtDe o => !pairTarget o.x
  | .cvtSe o => !pairTarget o.x
  | .cvtIe x _ _ => !pairTarget x
  | .cvtEi _ _ z => !pairSource z
  | .cvtEs _ _ z => !pairSource z
  | .cvtEd _ _ z => !pairSource z
  | .finp80 x _ z => !(pairTarget x && pairSource z)
  | .fcmp80 _ y z _ => !(pairSource y && pairSource z)
  | .fcmpBr80 _ y z _ => !(pairSource y && pairSource z)
  | .fcmpx80 _ y z _ => !(pairSource y && pairSource z)
  | .fcmpxBr80 _ y z _ => !(pairSource y && pairSource z)
  | _ => false

/-- The bytes that can be fetched make the instruction illegal, an extended FSQR among them, whatever those that cannot
would hold: a byte that cannot be fetched counts as zero, which makes no register pair illegal (R733). -/
def illegalAsFar (p : Config.Params) (bs : List Byte) : Bool :=
  match decode p bs with
  | .ok (i, _) => illegalForm p i
  | .error _ =>
    match decodeFsqr p bs with
    | some q => q.badPair
    | none => false

/-- Fetch and decode at the pc. An instruction that the bytes that can be fetched make illegal is illegal before an
access violation on the other bytes (R733; notes/assumptions/19.md). -/
def State.fetch (s : State) : Fetched :=
  match s.fetchBytes s.pc 1 with
  | none => .violation
  | some h0 =>
    let b0 := h0.headD 0
    let n := instrLen b0
    if firstByteIllegal s.params b0 then .illegal (s.visibleBytes s.pc n)
    else match s.fetchBytes s.pc (min n 2) with
      | none => .violation
      | some h =>
        if opcodeKnown s.params h then
          match s.fetchBytes s.pc n with
          | none => if illegalAsFar s.params (s.visibleBytes s.pc n) then .illegal (s.visibleBytes s.pc n) else .violation
          | some bs =>
            match decode s.params bs with
            | .ok (i, _) => .instr i
            | .error _ =>
              match decodeFsqr s.params bs with
              | some q => .fsqr q bs
              | none => .illegal bs
        else .illegal (s.visibleBytes s.pc n)

/-- An instruction-fetch access violation: the message's PC is the last instruction that executed, the saved PC
the address itself; without an enabled handler there is no further step (R740, D59, U19). -/
def fetchViolation (s : State) : Res :=
  if s.excEnabled .accessViolation then raiseAt [] s.lastPc s.pc { code := .accessViolation } s
  else .fault .fetchUnhandled

/-- An illegal instruction (R730, D15). -/
def illegalBytes (bytes : List Byte) (s : State) : Res :=
  raiseAt bytes s.pc (s.pc + BitVec.ofNat 32 bytes.length) { code := .illegal } s

/-! ### The boundary -/

/-- A page's bytes read as zero (R86, R671). -/
def zeroPage (m : List Host.Cell) (page : Nat) : List Host.Cell := m.filter fun c => decide (c.1 / 2048 ≠ page)

/-- A page's map entry changes; a page taken away, or given, holds zeros (R86, R90). -/
def State.remap (s : State) (page : Nat) (p : Option Page) : State :=
  match p with
  | none => { s with pages := Assoc.erase s.pages page, mem := zeroPage s.mem page }
  | some q =>
    match Assoc.get s.pages page with
    | none => { s with pages := Assoc.set s.pages page q, mem := zeroPage s.mem page }
    | some _ => { s with pages := Assoc.set s.pages page q }

/-- One thing the environment does (R10; notes/assumptions/12.md). -/
def applyEvent (e : EnvEvent) (s : State) : Res :=
  match e with
  | .arrival f m => deliver f.toNat m s
  | .sharedStore a b => if (s.pageAt a).isSome then .next (s.poke a [b]) else .next s
  | .remap page p => .next (s.remap page p)
  | .breakEntry .executeBreak d => if s.blocked then .next s else debuggerEntry .executeBreak s.lastPc d s
  | .breakEntry .readBreak d => if s.blocked then .next s else debuggerEntry .readBreak s.lastPc d s
  | .breakEntry .writeBreak d => if s.blocked then .next s else debuggerEntry .writeBreak s.lastPc d s
  | .breakEntry .breakpoint _ => .next s
  | .breakEntry .singleStep _ => .next s
  | .chanPrio c v => .next { s with chanPrio := s.chanPrio.set c.val v c.isLt }
  | .terminate => .next { s with ended := true }
  | .restart => .next (if s.manager = .waiting then { s with manager := .restarted } else s)
  | .migrate code => .next { s with machId := code }

/-- The environment's events of one boundary, in order (R702 (3)). -/
def applyEvents : List EnvEvent → State → Res
  | [], s => .next s
  | e :: es, s => (applyEvent e s).bind (applyEvents es)

/-- The boundary's part of the arrivals list. -/
def environment (s : State) : Res :=
  applyEvents (s.arrivals.headD []) { s with arrivals := s.arrivals.tail }

/-- An unsigned counter goes on by a free amount, never down (D10). -/
def tickUnsigned (w : Word) (k : Nat) : Word := BitVec.ofNat 64 (w.toNat + k % (2 ^ 64 - w.toNat))

/-- A signed counter goes on by a free amount, never down (D11). -/
def tickSigned (w : Word) (k : Nat) : Word := BitVec.ofInt 64 (w.toInt + (k % (2 ^ 63 - w.toInt).toNat : Nat))

/-- The timers after an instruction; the CPU timer stands while the process is blocked (R40, R41, R579). The
counter of the free values goes on. -/
def State.tick (s : State) : State :=
  { s with
    cpuTimer := if s.blocked then s.cpuTimer else tickUnsigned s.cpuTimer (Config.cpuTicks s.draws)
    clock := tickSigned s.clock (Config.clockTicks s.draws)
    draws := s.draws + 1 }

/-- The Debugger is entered if a single step was armed when the instruction started and still is (R702 (2),
R711); an instruction that waits has not started (D43). -/
def singleStep (armed : Bool) (s : State) : Res :=
  if armed && s.ss && !s.blocked then debuggerEntry .singleStep 0 0 s else .next s

/-- What follows the instruction that stood at `last` (none: a fetch violation), `armed` telling whether a
single step was armed when it started (R702). An instruction that has ended leaves no request to wait for. -/
def boundary (last : Option Addr) (armed : Bool) (s : State) : Res :=
  let s1 := if s.blocked then s else { s with lastPc := last.getD s.lastPc, manager := .idle }
  (singleStep armed s1).bind fun s2 => environment s2.tick

/-! ### Placing an instruction -/

/-- The page of an address may be fetched from; other rights as they were. -/
def State.makeFetchable (s : State) (a : Addr) : State :=
  let p := (Assoc.get s.pages (pageNo a)).getD (.plain false false false)
  { s with pages := Assoc.set s.pages (pageNo a) { p with x := true } }

/-- Nine bytes put at the pc, on pages that may be fetched from; a pc on which no instruction can lie becomes
ENTRY_PC, an ended process goes on. -/
def State.placeBytes (s : State) (bs : List Byte) : State :=
  let pc := if allocatable s.pc && allocatable (s.pc + 8) then s.pc else Config.entryPc
  ((({ s with pc := pc, ended := false }).makeFetchable pc).makeFetchable (pc + 8)).poke pc bs

end Sys2Proof.Machine
end

