-- ==== Sys2Proof/Machine/Step.lean ====
section
/-! DEFINITION. One step: fetch, execute, and the instruction boundary (R26, R102, R700, R702, R780). -/

namespace Sys2Proof.Machine

open Sys2Proof

/-- One step of the machine. An instruction that waited is tried again (R579). DEDUCED (unsafe;
notes/assumptions/15.md, 20.md): an illegal instruction, and one with an access violation of its own, counts as the last
that executed (R740), and a fetch violation counts as the single-stepped instruction (R702), which the spec does not
say. -/
def step (s : State) : Host.Outcome State Fault Refusal :=
  if s.ended then .fault .terminated
  else
    let s0 := { s with blocked := false }
    match s0.fetch with
    | .violation => (fetchViolation s0).bind (boundary none s.ss)
    | .illegal bytes => (illegalBytes bytes s0).bind (boundary (some s.pc) s.ss)
    | .fsqr q bytes => (execFsqr q bytes s0).bind (boundary (some s.pc) s.ss)
    | .instr i => Res.bind (exec i s0) (boundary (some s.pc) s.ss)

/-- The state with the instruction of an opcode-table word where `step` fetches next (R25, R102;
notes/assumptions/6.md). -/
def State.withFetchWord (s : State) (nbits w : Nat) : State := s.placeBytes (tableBytes nbits w)

end Sys2Proof.Machine
end

