-- ==== Sys2Proof/Safety.lean ====
section
/-! DEFINITION. What a run keeps and how it ends, in the terms the statements use: the invariants of a state
and the outcomes of a step. -/

namespace Sys2Proof.Machine

open Sys2Proof

/-- Memory has its canonical form (R80; notes/assumptions/7.md). -/
def State.memOk (s : State) : Prop := Memory.wf s.mem = true

/-- Channel 0 has interrupts enabled: "Channel 0 is always interrupting and can never be disabled" (R641). -/
def State.lifelineOk (s : State) : Prop := chanBit s.chanMask 0 = true

/-- Funnel 1 is defined, attached to channel 0 and enabled, and no other funnel is on channel 0 (R53, R54). -/
def State.funnel1Ok (s : State) : Prop :=
  (∃ e, s.funnel 1 = some e ∧ e.channel = 0) ∧ s.funnelEnabled 1 = true
    ∧ ∀ f e, s.funnel f = some e → e.channel = 0 → f = 1

/-- Every table is a function of its key: keys strictly rising (R44, R49, R90). -/
def State.tablesOk (s : State) : Prop :=
  Assoc.sorted s.links.entries = true ∧ Assoc.sorted s.funnels.entries = true ∧ Assoc.sorted s.pages = true

/-- The IDs on a free list are not 0 and are not defined (R44, R49). -/
def State.freeOk (s : State) : Prop :=
  (∀ n, n ∈ s.links.free ∨ n ∈ s.links.freeTail → n ≠ 0 ∧ s.link n = none)
    ∧ ∀ n, n ∈ s.funnels.free ∨ n ∈ s.funnels.freeTail → n ≠ 0 ∧ s.funnel n = none

/-- Every defined link lies on an allocated page of the link table (R44). -/
def State.linkPagesOk (s : State) : Prop :=
  ∀ n e, s.link n = some e → s.links.pageAllocated (n / linksPerPage) = true

/-- The active funnels list holds, without repeats, exactly the funnels whose queue is not empty (R54). -/
def State.activeOk (s : State) : Prop :=
  s.funnels.active.Nodup ∧ ∀ f, f ∈ s.funnels.active ↔ ∃ e, s.funnel f = some e ∧ e.queue ≠ []

/-- What every step keeps. -/
structure State.Inv (s : State) : Prop where
  mem : s.memOk
  lifeline : s.lifelineOk
  funnel1 : s.funnel1Ok
  tables : s.tablesOk
  free : s.freeOk
  pages : s.linkPagesOk
  active : s.activeOk

/-- What no instruction and no event can change: who the process is (R43, R570), and the open parameters (the
model's choice, notes/assumptions/14.md). The CPU may change (R675). -/
def State.sameIdentity (s t : State) : Prop :=
  t.processId = s.processId ∧ t.versionId = s.versionId ∧ t.params = s.params

/-- The CPU timer and the real-time clock have not gone down (R40, R41, D10, D11). -/
def State.clocksGoOn (s t : State) : Prop :=
  s.cpuTimer.toNat ≤ t.cpuTimer.toNat ∧ s.clock.toInt ≤ t.clock.toInt

/-- The instruction ends with a next state. -/
def completes (i : Instr) (s : State) : Prop := ∃ t, exec i s = .next t

end Sys2Proof.Machine
end

