-- ==== Sys2Proof/Certificates/Slice0/Obligations.lean ====
section
/-! DEFINITION. The statements for the provers. The tables and small definitions come first; every statement is
`def Obligations.<Name> : Prop`, and its docstring names the rules of spec/ it formalises. -/

namespace Sys2Proof.Stmt

open Sys2Proof Sys2Proof.Machine

/-! ### Ways to end -/

/-- Instruction `i` completes: the changes of `t`, then the next instruction. -/
def Done (i : Instr) (s t : State) : Prop := exec i s = .next (t.setPc (s.nextPc i))

/-- Instruction `i` completes and transfers control to `a`. -/
def Goes (i : Instr) (s t : State) (a : Addr) : Prop := exec i s = .next (t.setPc a)

/-- A message-system instruction completes with a status in Rx (R571). -/
def Status (i : Instr) (x : Reg) (n : Nat) (s t : State) : Prop := Done i s (t.setReg x (BitVec.ofNat 64 n))

/-- The mathematical integer is in the signed 64-bit range. -/
def InRange (n : Int) : Prop := -(2 ^ 63 : Int) ≤ n ∧ n < 2 ^ 63

/-- Byte `k` of a register, byte 0 the most significant (R121). -/
def stringByte (w : Word) (k : Nat) : Nat := (w.extractLsb' (56 - 8 * k) 8).toNat

/-- The register `w` is a numeric string of the value `n`: each byte is 00, for the digit 0, or 30 to 39 (R370, R371). -/
def NumericString (w : Word) (n : Nat) : Prop :=
  (∀ k, k < 8 → stringByte w k = 0 ∨ (0x30 ≤ stringByte w k ∧ stringByte w k ≤ 0x39)) ∧
  n = ((List.range 8).map fun k => (if stringByte w k = 0 then 0 else stringByte w k - 0x30) * 10 ^ (7 - k)).sum

/-- The word at an address of memory, most significant byte first. -/
def wordAt (s : State) (a : Addr) : Word := wordOf (readBytes s.mem a 8)

/-- No PSW bit differs but those of a list. -/
def PswBut (l : List Nat) (s t : State) : Prop := ∀ j, j < 64 → j ∉ l → t.pswBit j = s.pswBit j

/-- No register differs but those of a list. -/
def RegsBut (l : List Reg) (s t : State) : Prop := ∀ r, r ∉ l → t.reg r = s.reg r

/-- Nothing differs but registers, the PSW and the pc. -/
def OnlyCpu (s t : State) : Prop := t = { s with regs := t.regs, psw := t.psw, pc := t.pc }

/-- The five floating-point occurred bits. -/
def fpBits : List Nat := [21, 23, 25, 27, 29]

/-! ### Tables: the constructors a statement covers -/

/-- A generalized instruction by its operand. -/
abbrev Gen := GOp → Instr
/-- A compare by its operand and appendage. -/
abbrev GenApp := GOp → App → Instr
/-- An instruction on three registers. -/
abbrev Tri := Reg → Reg → Reg → Instr

/-- LD and LDZ: extension and width (R201, R202). -/
def loads : List (Gen × Ext × Nat) :=
  [(Instr.ld8, .sign, 1), (Instr.ld16, .sign, 2), (Instr.ld32, .sign, 4), (Instr.ld64, .sign, 8),
   (Instr.ldz8, .zero, 1), (Instr.ldz16, .zero, 2), (Instr.ldz24, .zero, 3), (Instr.ldz32, .zero, 4),
   (Instr.ldz40, .zero, 5), (Instr.ldz48, .zero, 6), (Instr.ldz56, .zero, 7)]

/-- ST: width (R204). -/
def stores : List (Gen × Nat) :=
  [(Instr.st8, 1), (Instr.st16, 2), (Instr.st24, 3), (Instr.st32, 4), (Instr.st40, 5), (Instr.st48, 6),
   (Instr.st56, 7), (Instr.st64, 8)]

/-- STV: width (R207). -/
def checkedStores : List (Gen × Nat) := [(Instr.stv8, 1), (Instr.stv16, 2), (Instr.stv32, 4)]

/-- STI and STIN: width, and the value of nibble 3 (R208, R209). -/
def immStores : List (Gen × Nat × (Nib → Word)) :=
  [(Instr.sti8, 1, fun k => k.setWidth 64), (Instr.sti16, 2, fun k => k.setWidth 64),
   (Instr.sti32, 4, fun k => k.setWidth 64), (Instr.sti64, 8, fun k => k.setWidth 64),
   (Instr.stin8, 1, fun k => -1 - k.setWidth 64), (Instr.stin16, 2, fun k => -1 - k.setWidth 64),
   (Instr.stin32, 4, fun k => -1 - k.setWidth 64), (Instr.stin64, 8, fun k => -1 - k.setWidth 64)]

/-- The exchanges: what memory takes of the register and the old memory word (R241 to R243). -/
def exchanges : List (Tri × (Word → Word → Word)) :=
  [(Instr.exch, fun r _ => r), (Instr.exchAnd, fun r m => r &&& m), (Instr.exchOr, fun r m => r ||| m)]

/-- A signed operation: its exact result of A, B and the carry, whether it clears CI, whether it is a product. -/
structure SignedOp where
  ctor : Gen
  width : Nat
  exact : Int → Int → Int → Int
  clears : Bool
  product : Bool

/-- The signed operations on A and the last operand (R264, R275, R280, R290, R291, R300, R301). -/
def signedOps : List SignedOp :=
  [⟨Instr.add16, 2, fun a b c => a + b + c, true, false⟩, ⟨Instr.add32, 4, fun a b c => a + b + c, true, false⟩,
   ⟨Instr.add64, 8, fun a b c => a + b + c, true, false⟩, ⟨Instr.sub16, 2, fun a b c => a - b - c, true, false⟩,
   ⟨Instr.sub32, 4, fun a b c => a - b - c, true, false⟩, ⟨Instr.sub64, 8, fun a b c => a - b - c, true, false⟩,
   ⟨Instr.subr16, 2, fun a b c => b - a - c, true, false⟩, ⟨Instr.subr32, 4, fun a b c => b - a - c, true, false⟩,
   ⟨Instr.subr64, 8, fun a b c => b - a - c, true, false⟩, ⟨Instr.mul16, 2, fun a b _ => a * b, false, true⟩,
   ⟨Instr.mul32, 4, fun a b _ => a * b, false, true⟩, ⟨Instr.mul64, 8, fun a b _ => a * b, false, true⟩,
   ⟨Instr.neg16, 2, fun _ b _ => -b, false, false⟩, ⟨Instr.neg32, 4, fun _ b _ => -b, false, false⟩,
   ⟨Instr.neg64, 8, fun _ b _ => -b, false, false⟩, ⟨Instr.sla, 8, fun a b _ => a * 2 ^ (b % 64).toNat, false, false⟩,
   ⟨Instr.sra, 8, fun a b _ => a / 2 ^ (b % 64).toNat, false, false⟩]

/-- The carry bit as a number. -/
def carry (s : State) : Nat := if s.pswBit 9 then 1 else 0

/-- DIV, DIVR, REM, REMR: width, whether the operands are exchanged, whether the remainder is wanted (R270, R271,
R283, R284). -/
def divisions : List (Gen × Nat × Bool × Bool) :=
  [(Instr.div16, 2, false, false), (Instr.div32, 4, false, false), (Instr.div64, 8, false, false),
   (Instr.divr16, 2, true, false), (Instr.divr32, 4, true, false), (Instr.divr64, 8, true, false),
   (Instr.rem16, 2, false, true), (Instr.rem32, 4, false, true), (Instr.rem64, 8, false, true),
   (Instr.remr16, 2, true, true), (Instr.remr32, 4, true, true), (Instr.remr64, 8, true, true)]

/-- MUL.128 and MULU.128: the exact product (R276, R277). -/
def wideProducts : List (Tri × (Word → Word → Int)) :=
  [(Instr.mul128, fun a b => a.toInt * b.toInt), (Instr.mulu128, fun a b => (a.toNat * b.toNat : Nat))]

/-- The operations of the floating-point arithmetic. -/
inductive Arith | add | sub | subr | mul | div | divr
deriving DecidableEq, Repr

/-- The generalized floating-point arithmetic: format and operation (R330 to R346). -/
def floatOps : List (Gen × Fmt × Arith) :=
  [(Instr.fadd32, .single, .add), (Instr.fadd64, .double, .add), (Instr.fsub32, .single, .sub),
   (Instr.fsub64, .double, .sub), (Instr.fsubr32, .single, .subr), (Instr.fsubr64, .double, .subr),
   (Instr.fmul32, .single, .mul), (Instr.fmul64, .double, .mul), (Instr.fdiv32, .single, .div),
   (Instr.fdiv64, .double, .div), (Instr.fdivr32, .single, .divr), (Instr.fdivr64, .double, .divr)]

/-- The extended arithmetic on pairs (R331, R335, R341, R347). -/
def floatPairOps : List (Tri × Arith) :=
  [(Instr.fadd80, .add), (Instr.fsub80, .sub), (Instr.fmul80, .mul), (Instr.fdiv80, .div)]

/-- The remainders (R350). -/
def remainders : List (Tri × Fmt) := [(Instr.frem32, .single), (Instr.frem64, .double), (Instr.frem80, .extended)]

/-- The generalized conversions to a floating-point format: bytes of the source, destination (R486 to R498). -/
def conversions : List (Gen × Nat × Fmt) :=
  [(Instr.cvtDe, 8, .extended), (Instr.cvtDs, 8, .single), (Instr.cvtSd, 4, .double), (Instr.cvtSe, 4, .extended),
   (Instr.cvtId, 8, .double), (Instr.cvtIs, 8, .single), (Instr.finp32, 4, .single), (Instr.finp64, 8, .double)]

/-- The conversions between registers to a floating-point format: whether the source is a pair, the destination
(R489, R491, R494, R499). -/
def pairConversions : List (Tri × Bool × Fmt) :=
  [(Instr.cvtEd, true, .double), (Instr.cvtEs, true, .single), (Instr.cvtIe, false, .extended),
   (Instr.finp80, true, .extended)]

/-- AND, OR, XOR (R391, R392, R394), rotates and shifts (R400 to R403) as functions of A and B. -/
def dyadics : List (Gen × (Word → Word → Word)) :=
  [(Instr.logAnd, fun a b => a &&& b), (Instr.logOr, fun a b => a ||| b), (Instr.logXor, fun a b => a ^^^ b),
   (Instr.rol, fun a b => BitVec.ofNat 64 (a.toNat * 2 ^ (b.toNat % 64) + a.toNat / 2 ^ (64 - b.toNat % 64))),
   (Instr.ror, fun a b => BitVec.ofNat 64 (a.toNat / 2 ^ (b.toNat % 64) + a.toNat * 2 ^ (64 - b.toNat % 64))),
   (Instr.sll, fun a b => BitVec.ofNat 64 (a.toNat * 2 ^ (b.toNat % 64))),
   (Instr.srl, fun a b => BitVec.ofNat 64 (a.toNat / 2 ^ (b.toNat % 64)))]

/-- SLL1, SLL2, SLL3: bytes of the operand and distance (R410, R411, R413, R414). -/
def shiftLoads : List (Gen × Nat × Nat) :=
  [(Instr.sll1w16, 2, 1), (Instr.sll1w32, 4, 1), (Instr.sll1w64, 8, 1), (Instr.sll2w16, 2, 2), (Instr.sll2w32, 4, 2),
   (Instr.sll2w64, 8, 2), (Instr.sll3w16, 2, 3), (Instr.sll3w32, 4, 3), (Instr.sll3w64, 8, 3)]

/-- SET.BIT, CLEAR.BIT, TOGGLE.BIT: the new bit of the old (R395 to R397). -/
def bitOps : List ((Reg → BitVec 8 → Instr) × (Bool → Bool)) :=
  [(Instr.setBit, fun _ => true), (Instr.clearBit, fun _ => false), (Instr.toggleBit, fun b => !b)]

/-- CMP.BR and CMPU.BR: extension and width (R435, R436). -/
def compareBranches : List (GenApp × Ext × Nat) :=
  [(Instr.cmpBr8, .sign, 1), (Instr.cmpBr16, .sign, 2), (Instr.cmpBr32, .sign, 4), (Instr.cmpBr64, .sign, 8),
   (Instr.cmpuBr8, .zero, 1), (Instr.cmpuBr16, .zero, 2), (Instr.cmpuBr32, .zero, 4), (Instr.cmpuBr64, .zero, 8)]

/-- CMP and CMPU: extension and width (R437, R438). -/
def compareTests : List (GenApp × Ext × Nat) :=
  [(Instr.cmp8, .sign, 1), (Instr.cmp16, .sign, 2), (Instr.cmp32, .sign, 4), (Instr.cmp64, .sign, 8),
   (Instr.cmpu8, .zero, 1), (Instr.cmpu16, .zero, 2), (Instr.cmpu32, .zero, 4), (Instr.cmpu64, .zero, 8)]

/-- The order of two words, signed or unsigned (R434). -/
def wordRel (e : Ext) (p q : Word) : Rel :=
  match e with
  | .sign => if p.toInt < q.toInt then .less else if p.toInt = q.toInt then .equal else .greater
  | .zero => if p.toNat < q.toNat then .less else if p.toNat = q.toNat then .equal else .greater

/-- The condition field selects the relation: weights U = 8, L = 4, E = 2, G = 1 (R432). -/
def selects (ccf : BitVec 4) (r : Rel) : Bool :=
  match r with
  | .unordered => ccf.getLsbD 3
  | .less => ccf.getLsbD 2
  | .equal => ccf.getLsbD 1
  | .greater => ccf.getLsbD 0

/-- The generalized floating-point compares: whether quiet NaNs are invalid too, the format, whether it is a branch
form (R441, R442, R445, R446). -/
def floatCompares : List (GenApp × Bool × Fmt × Bool) :=
  [(Instr.fcmpBr32, false, .single, true), (Instr.fcmpBr64, false, .double, true),
   (Instr.fcmpxBr32, true, .single, true), (Instr.fcmpxBr64, true, .double, true),
   (Instr.fcmp32, false, .single, false), (Instr.fcmp64, false, .double, false),
   (Instr.fcmpx32, true, .single, false), (Instr.fcmpx64, true, .double, false)]

/-- The extended compares (R443, R444, R447, R448). -/
def pairCompares : List ((Reg → Reg → Reg → App → Instr) × Bool × Bool) :=
  [(Instr.fcmpBr80, false, true), (Instr.fcmpxBr80, true, true), (Instr.fcmp80, false, false),
   (Instr.fcmpx80, true, false)]

/-- The value of a finite datum. -/
def ratOf : FVal → Option Rat
  | .zero _ => some 0
  | .fin neg m e => some ((if neg then -1 else 1) * (m : Rat) * (2 : Rat) ^ e)
  | .inf _ => none
  | .nan .. => none
  | .undef => none

/-- The order of two numbers. -/
def ratRel (p q : Rat) : Rel := if p < q then .less else if p = q then .equal else .greater

/-- The action of a compare whose test gave `held`, the other changes being in `u`: the branch form branches or goes on,
the set-register form places 1 or 0, the generate-exception form raises a software exception, with the eight bits of the
appendage's sub-code as source operand 2, or does nothing (R433, R726). -/
def Acts (i : Instr) (x : Reg) (a : App) (branch : Bool) (s u : State) (held : Bool) : Prop :=
  if branch = true then (if held then Goes i s u (s.pc + a.act.signExtend 32) else Done i s u)
  else if a.act.getLsbD 11 = false then Done i s (u.setReg x (if held then 1 else 0))
  else if held then
    (s.excEnabled .software = false → Done i s (u.setOccurred .software)) ∧
    (s.excEnabled .software = true →
      exec i s = raise i { code := .software, src2 := BitVec.ofNat 64 (a.act.toNat % 256) } u)
  else Done i s u

/-- A floating-point compare of two operands that are not undefined: numbers by value, infinities beyond every number, a
NaN unordered; an invalid one (a signaling NaN, or any NaN where `excepted`) is taken where its handler is enabled, the
action not performed; else it records bit 27 and acts as if the test held if the condition field has U, else does nothing
more (R440). -/
def Compares (i : Instr) (x : Reg) (a : App) (branch excepted : Bool) (s : State) (p q : FVal) : Prop :=
  (∀ m n, ratOf p = some m → ratOf q = some n → Acts i x a branch s s (selects a.ccf (ratRel m n))) ∧
  (∀ f m, p = .inf f → ratOf q = some m → Acts i x a branch s s (selects a.ccf (if f then .less else .greater))) ∧
  (∀ f m, ratOf p = some m → q = .inf f → Acts i x a branch s s (selects a.ccf (if f then .greater else .less))) ∧
  (∀ f g, p = .inf f → q = .inf g →
    Acts i x a branch s s (selects a.ccf (if f = g then .equal else if f then .less else .greater))) ∧
  (p ≠ .undef → q ≠ .undef → p.isNan = true ∨ q.isNan = true →
    ((p.isSignaling || q.isSignaling || excepted) = false → Acts i x a branch s s (selects a.ccf .unordered)) ∧
    ((p.isSignaling || q.isSignaling || excepted) = true →
      (s.excEnabled .fpInvalid = true → exec i s = raise i { code := .fpInvalid } s) ∧
      (s.excEnabled .fpInvalid = false →
        (selects a.ccf .unordered = true → Acts i x a branch s (s.setOccurred .fpInvalid) true) ∧
        (selects a.ccf .unordered = false → Done i s (s.setOccurred .fpInvalid)))))

/-- BR.<cond>.ABS: the opcode's last nibble and the relation to zero (R526 to R531). -/
def absBranches : List ((Reg → BitVec 8 → BitVec 32 → Instr) × Nib × (Int → Prop)) :=
  [(Instr.brGtAbs, 0x1, fun n => 0 < n), (Instr.brEqAbs, 0x2, fun n => n = 0), (Instr.brGeAbs, 0x3, fun n => 0 ≤ n),
   (Instr.brLtAbs, 0x4, fun n => n < 0), (Instr.brNeAbs, 0x5, fun n => n ≠ 0), (Instr.brLeAbs, 0x6, fun n => n ≤ 0)]

/-- BR.<cond>.REL (R532 to R537). -/
def relBranches : List ((Reg → BitVec 8 → BitVec 32 → Instr) × Nib × (Int → Prop)) :=
  [(Instr.brGtRel, 0x9, fun n => 0 < n), (Instr.brEqRel, 0xA, fun n => n = 0), (Instr.brGeRel, 0xB, fun n => 0 ≤ n),
   (Instr.brLtRel, 0xC, fun n => n < 0), (Instr.brNeRel, 0xD, fun n => n ≠ 0), (Instr.brLeRel, 0xE, fun n => n ≤ 0)]

/-- BR.B.<cond>.SH.REL (R538 to R543). -/
def backBranches : List ((Reg → BitVec 8 → Instr) × Nib × (Int → Prop)) :=
  [(Instr.brBGtShRel, 0x9, fun n => 0 < n), (Instr.brBEqShRel, 0xA, fun n => n = 0),
   (Instr.brBGeShRel, 0xB, fun n => 0 ≤ n), (Instr.brBLtShRel, 0xC, fun n => n < 0),
   (Instr.brBNeShRel, 0xD, fun n => n ≠ 0), (Instr.brBLeShRel, 0xE, fun n => n ≤ 0)]

/-- BR.F.<cond>.SH.REL (R560 to R565). -/
def forwardBranches : List ((Reg → BitVec 8 → Instr) × Nib × (Int → Prop)) :=
  [(Instr.brFGtShRel, 0x9, fun n => 0 < n), (Instr.brFEqShRel, 0xA, fun n => n = 0),
   (Instr.brFGeShRel, 0xB, fun n => 0 ≤ n), (Instr.brFLtShRel, 0xC, fun n => n < 0),
   (Instr.brFNeShRel, 0xD, fun n => n ≠ 0), (Instr.brFLeShRel, 0xE, fun n => n ≤ 0)]

/-- The generalized instructions that read their last operand: extension and width (R152). -/
def readers : List (Gen × Ext × Nat) :=
  loads ++ signedOps.map (fun e => (e.ctor, .sign, e.width)) ++ divisions.map (fun e => (e.1, .sign, e.2.1))
    ++ [(Instr.adduc64, .sign, 8), (Instr.subuc64, .sign, 8), (Instr.subucr64, .sign, 8)]
    ++ dyadics.map (fun e => (e.1, .zero, 8)) ++ [(Instr.logNot, .zero, 8), (Instr.findFirst, .zero, 8)]
    ++ shiftLoads.map (fun e => (e.1, .zero, e.2.1)) ++ floatOps.map (fun e => (e.1, .zero, e.2.1.bytes))
    ++ [(Instr.cvtSi, .zero, 4), (Instr.cvtDi, .zero, 8)]

/-- The generalized compares: extension and width of the last operand (R435 to R446). -/
def compares : List (GenApp × Ext × Nat) :=
  compareBranches ++ compareTests ++ floatCompares.map fun e => (e.1, .zero, e.2.2.1.bytes)

/-- The number is a normal number of the format (R113 to R115). -/
def Normal (f : Fmt) (p : Rat) : Prop :=
  ∃ neg m x, 2 ^ f.fracBits ≤ m ∧ m < 2 ^ f.prec ∧ f.emin ≤ x + f.fracBits ∧ x + f.fracBits ≤ f.emax ∧
    ratOf (.fin neg m x) = some p

/-- The datum is of the format, its unused bits zero, and has the value (R112 to R115, D21). -/
def Holds (f : Fmt) (d : FBits) (p : Rat) : Prop := d = cleanBits f d ∧ ratOf (classify f d) = some p

/-- A number rounded to an integer (R322, R498). -/
def roundRat (mode : Rounding) (p : Rat) : Int :=
  match mode with
  | .nearest =>
    if p - ⌊p⌋ < 1 / 2 then ⌊p⌋ else if 1 / 2 < p - ⌊p⌋ then ⌊p⌋ + 1 else if ⌊p⌋ % 2 = 0 then ⌊p⌋ else ⌊p⌋ + 1
  | .zero => if 0 ≤ p then ⌊p⌋ else ⌈p⌉
  | .plus => ⌈p⌉
  | .minus => ⌊p⌋

/-- The number an operation computes exactly, of A and B (R330 to R347). -/
def Arith.exact : Arith → Rat → Rat → Rat
  | .add => fun p q => p + q
  | .sub => fun p q => p - q
  | .subr => fun p q => q - p
  | .mul => fun p q => p * q
  | .div => fun p q => p / q
  | .divr => fun p q => q / p

/-- FADD, FSUB and FSUBR. -/
def sums : List Arith := [.add, .sub, .subr]

/-- OP1 and OP2 of the operation's result matrix, of A and B (R332, R340, R345, R346). -/
def Arith.operands (x y : FVal) : Arith → FVal × FVal
  | .add => (x, y)
  | .sub => (x, y.negate)
  | .subr => (y, x.negate)
  | .mul => (x, y)
  | .div => (x, y)
  | .divr => (y, x)

/-- The cells of Table 7-1 that are a zero by a rule of signs or an infinity (R332). -/
def sumCell (mode : Rounding) : FVal → FVal → Option FVal
  | .zero p, .zero q => some (.zero (if p = q then p else decide (mode = .minus)))
  | .inf p, .inf q => if p = q then some (.inf p) else none
  | .inf p, .zero _ => some (.inf p)
  | .inf p, .fin .. => some (.inf p)
  | .zero _, .inf q => some (.inf q)
  | .fin .., .inf q => some (.inf q)
  | _, _ => none

/-- The cells of Table 7-3 that are a zero or an infinity (R340). -/
def productCell : FVal → FVal → Option FVal
  | .zero p, .zero q => some (.zero (p ^^ q))
  | .zero p, .fin q _ _ => some (.zero (p ^^ q))
  | .fin p _ _, .zero q => some (.zero (p ^^ q))
  | .inf p, .fin q _ _ => some (.inf (p ^^ q))
  | .fin p _ _, .inf q => some (.inf (p ^^ q))
  | .inf p, .inf q => some (.inf (p ^^ q))
  | _, _ => none

/-- The cells of Table 7-2 that are a zero or an infinity without an exception (R345). -/
def quotientCell : FVal → FVal → Option FVal
  | .zero p, .fin q _ _ => some (.zero (p ^^ q))
  | .zero p, .inf q => some (.zero (p ^^ q))
  | .fin p _ _, .inf q => some (.zero (p ^^ q))
  | .inf p, .zero q => some (.inf (p ^^ q))
  | .inf p, .fin q _ _ => some (.inf (p ^^ q))
  | _, _ => none

/-- The zero or the infinity that a valid cell of the operation's result matrix delivers, of A and B (R332, R340, R345). -/
def Arith.cell (op : Arith) (mode : Rounding) (x y : FVal) : Option FVal :=
  let v := op.operands x y
  match op with
  | .add => sumCell mode v.1 v.2
  | .sub => sumCell mode v.1 v.2
  | .subr => sumCell mode v.1 v.2
  | .mul => productCell v.1 v.2
  | .div => quotientCell v.1 v.2
  | .divr => quotientCell v.1 v.2

/-- Two infinities of unlike sign: an invalid sum (R332). -/
def unlike (v : FVal × FVal) : Prop := ∃ g, v = (.inf g, .inf (!g))
/-- A zero and an infinity, in either order: an invalid product (R340). -/
def zeroInf (v : FVal × FVal) : Prop := ∃ g h, v = (.zero g, .inf h) ∨ v = (.inf g, .zero h)
/-- Two zeros or two infinities: an invalid quotient (R345). -/
def alike (v : FVal × FVal) : Prop := ∃ g h, v = (.zero g, .zero h) ∨ v = (.inf g, .inf h)

/-- The invalid cells of the operation's result matrix, of A and B (R332, R340, R345). -/
def Arith.invalid (op : Arith) (x y : FVal) : Prop :=
  let v := op.operands x y
  match op with
  | .add => unlike v
  | .sub => unlike v
  | .subr => unlike v
  | .mul => zeroInf v
  | .div => alike v
  | .divr => alike v

/-- `i` is the arithmetic `op` in a format, with its destination and its operands A and B, which can be read (R320). -/
def Computes (s : State) (i : Instr) (op : Arith) (f : Fmt) (r : Reg) (a b : FBits) : Prop :=
  (∃ e ∈ floatOps, ∃ o v, i = e.1 o ∧ f = e.2.1 ∧ op = e.2.2 ∧ r = o.x ∧ s.lastVal .zero f.bytes o = some v ∧
    a = wordDatum f (s.reg o.a) ∧ b = wordDatum f v) ∨
  (∃ e ∈ floatPairOps, ∃ x y z, i = e.1 x y z ∧ f = .extended ∧ op = e.2 ∧ r = x ∧ x.toNat < 14 ∧ y ≠ 15 ∧ z ≠ 15 ∧
    a = s.pair y ∧ b = s.pair z)

/-- `i` is a remainder in a format, its registers Rx and Rz apart, with its divisor and its dividend (R350). -/
def Divides (s : State) (i : Instr) (f : Fmt) (x z : Reg) (divisor dividend : FBits) : Prop :=
  ∃ e ∈ remainders, ∃ y, i = e.1 x y z ∧ f = e.2 ∧ x ≠ z ∧
    (f = .extended → z.toNat < 14 ∧ y ≠ 15 ∧ x ≠ z + 1 ∧ divisor = s.pair y ∧ dividend = s.pair z) ∧
    (f ≠ .extended → divisor = wordDatum f (s.reg y) ∧ dividend = wordDatum f (s.reg z))

/-- `i` is a conversion of a floating-point datum `b` of format `src` to the format `f` (R486, R488, R489, R491, R495,
R497). -/
def Converts (s : State) (i : Instr) (src : Fmt) (b : FBits) (f : Fmt) (r : Reg) : Prop :=
  (∃ o v, s.lastVal .zero 8 o = some v ∧ src = .double ∧ b = wordDatum .double v ∧ r = o.x ∧
    ((i = .cvtDe o ∧ f = .extended ∧ r.toNat < 14) ∨ (i = .cvtDs o ∧ f = .single))) ∨
  (∃ o v, s.lastVal .zero 4 o = some v ∧ src = .single ∧ b = wordDatum .single v ∧ r = o.x ∧
    ((i = .cvtSe o ∧ f = .extended ∧ r.toNat < 14) ∨ (i = .cvtSd o ∧ f = .double))) ∨
  (∃ y z, z ≠ 15 ∧ src = .extended ∧ b = s.pair z ∧
    ((i = .cvtEd r y z ∧ f = .double) ∨ (i = .cvtEs r y z ∧ f = .single)))

/-- `i` is a conversion of the integer `n` to the format `f` (R492 to R494). -/
def FromInteger (s : State) (i : Instr) (n : Int) (f : Fmt) (r : Reg) : Prop :=
  (∃ o v, s.lastVal .zero 8 o = some v ∧ n = v.toInt ∧ r = o.x ∧
    ((i = .cvtId o ∧ f = .double) ∨ (i = .cvtIs o ∧ f = .single))) ∨
  (∃ y z, i = .cvtIe r y z ∧ f = .extended ∧ r.toNat < 14 ∧ n = (s.reg z).toInt)

/-- `i` is FINP of the datum `b` of format `f` (R498, R499). -/
def TakesPart (s : State) (i : Instr) (b : FBits) (f : Fmt) (r : Reg) : Prop :=
  (∃ o v, s.lastVal .zero f.bytes o = some v ∧ b = wordDatum f v ∧ r = o.x ∧
    ((i = .finp32 o ∧ f = .single) ∨ (i = .finp64 o ∧ f = .double))) ∨
  (∃ y z, i = .finp80 r y z ∧ f = .extended ∧ r.toNat < 14 ∧ z ≠ 15 ∧ b = s.pair z)

/-- `i` delivers, from the state `t` that differs from `s` in recorded exceptions, a datum of a format of which `P` holds,
its unused bits zero (R320, D21). -/
def Delivered (i : Instr) (f : Fmt) (r : Reg) (s t : State) (P : FBits → Prop) : Prop :=
  ∃ d : FBits, Done i s (writeDatum f r d t) ∧ d = cleanBits f d ∧ P d

/-- The canonical quiet NaN (R117). -/
def canonicalNan : Fmt → FBits
  | .single => 0x7F800001
  | .double => 0x7FF0000020000000
  | .extended => 0x7FFF0000000000008000010000000000

/-- `i` is an invalid operation: with the handler disabled the canonical quiet NaN and bit 27, with it enabled the
exception is taken (R323, D32). -/
def Invalid (i : Instr) (f : Fmt) (r : Reg) (s : State) : Prop :=
  (s.excEnabled .fpInvalid = false → Done i s (writeDatum f r (canonicalNan f) (s.setOccurred .fpInvalid))) ∧
  (s.excEnabled .fpInvalid = true → exec i s = raise i { code := .fpInvalid } s)

/-- The message `m` stands at the tail of funnel `f`'s queue, and the local priority is the higher of itself and the
channel's (R578, R640); the funnel, if it had no message, became active after all that are (R54). -/
def Queued (f : Nat) (e : Funnel) (m : Message) (s t : State) : Prop :=
  t.funnel f = some { e with queue := e.queue ++ [m] } ∧ (∀ g, g ≠ f → t.funnel g = s.funnel g) ∧
  t.lp = min s.lp e.channel ∧
  t.funnels.active = (if e.queue = [] then s.funnels.active ++ [f] else s.funnels.active) ∧
  t = { s with lp := t.lp, funnels := { s.funnels with entries := t.funnels.entries, active := t.funnels.active } }

/-- An arrival on funnel `f` is accepted as an interrupt: its channel is enabled, above the local priority, and no other
channel above it is active (R703). -/
def Accepts (s : State) (f : Nat) (e : Funnel) : Prop :=
  chanBit s.chanMask e.channel = true ∧ e.channel < s.lp ∧
    ∀ g h, g ≠ f → s.funnel g = some h → h.queue ≠ [] → e.channel ≤ h.channel

/-- The interrupt handler at `v` entered from `s` for funnel `f`, `lp0` being the local priority before the delivery: the
state `t` (R706, R707). -/
def InterruptEntered (f : Nat) (v : Addr) (lp0 : Chan) (s t : State) : Prop :=
  let b := lo32 (s.reg 15) - 144
  t.reg 15 = zext32 b ∧ t.reg 0 = zext32 (b + 136) ∧ t.reg 1 = zext32 b ∧ t.reg 2 = BitVec.ofNat 64 f ∧
    RegsBut [0, 1, 2, 15] s t ∧ (∀ k : Reg, wordAt t (b + 8 * k.setWidth 32) = s.reg k) ∧
    wordAt t (b + 128) = BitVec.ofNat 64 lp0.val ∧ wordAt t (b + 136) = zext32 s.pc ∧
    (∀ a, (∀ k, k < 144 → a ≠ b + BitVec.ofNat 32 k) → t.byteAt a = s.byteAt a) ∧
    t = { s with regs := t.regs, mem := t.mem, pc := v, blocked := false, manager := .idle }

/-- Instruction `i` puts status `n` in Rx over its own changes, which are in `v`, and at its end the message `m` reaches
funnel `f` of this process: queued, and where the arrival is accepted an interrupt, the next instruction's address saved
(R592, R703, D57). -/
def Delivers (i : Instr) (x : Reg) (n f : Nat) (e : Funnel) (m : Message) (s v : State) : Prop :=
  ∃ u, Queued f e m v u ∧ (¬ Accepts v f e → Status i x n s u) ∧
    (Accepts v f e → v.tablesOk →
      exec i s = interruptEntry f e.vector v.lp ((u.setReg x (BitVec.ofNat 64 n)).setPc (s.nextPc i)))

/-- A send on link `e` of this process to itself that is turned away, `l` being the statuses of a buffer shortage: 36 for
another version, 47 for a funnel that takes no message, one of `l` where the buffers are used up. Nothing is sent, and no
changes are made but those in `t` (R55, R592, D57). -/
def TurnedAway (i : Instr) (x : Reg) (l : List Nat) (e : Lte) (s t : State) : Prop :=
  e.toProcess = s.processId →
    (e.versionId ≠ s.versionId → Status i x 36 s t) ∧
    (e.versionId = s.versionId →
      (s.openFunnel e.toFunnel.toNat = none → Status i x 47 s t) ∧
      (s.openFunnel e.toFunnel.toNat ≠ none → s.poolFull = true → ∃ n ∈ l, Status i x n s t))

/-- The link `id` that the free list gives next: its head; where it is empty and a page of the table can be allocated, the
first ID of the lowest page that is not allocated, within the limit (R44, R600, U26; notes/assumptions/28.md). -/
def NextLink (s : State) (id : Nat) : Prop :=
  s.links.nextFree = some id ∨
  (s.links.nextFree = none ∧ s.links.canAllocate = true ∧ s.linkPagesOk ∧ id ≤ s.links.limit ∧
    ∃ q, id = 128 * q ∧ 0 < q ∧ q < 512 ∧ q ∉ s.links.pages ∧ ∀ k, 0 < k → k < q → k ∈ s.links.pages)

/-- No link is free, and no page of the table with an ID within the limit can be allocated (R44, R600). -/
def NoNextLink (s : State) : Prop :=
  s.links.nextFree = none ∧
    (s.links.canAllocate = true → ∀ q, 0 < q → q < 512 → q ∉ s.links.pages → s.links.limit < 128 * q)

/-- The ID `id` a new link takes with the preference `p`: for 0 the next free one, else `p` where it is unused and its page
is or can be allocated (R44, R600, R623). -/
def LinkIdFor (s : State) (p id : Nat) : Prop :=
  (p = 0 ∧ NextLink s id) ∨
  (0 < p ∧ id = p ∧ id ≤ s.links.limit ∧ s.link id = none ∧
    (id / 128 = 0 ∨ id / 128 ∈ s.links.pages ∨ s.links.canAllocate = true))

/-- The status `n` where there is no such ID: 11 for a full table, 32 above the limit, 12 for a defined link, 42 for a page
that cannot be allocated (R44, R600, R623; notes/assumptions/28.md). -/
def NoLinkIdFor (s : State) (p n : Nat) : Prop :=
  (n = 11 ∧ p = 0 ∧ NoNextLink s) ∨ (n = 32 ∧ 0 < p ∧ s.links.limit < p) ∨
  (n = 12 ∧ 0 < p ∧ p ≤ s.links.limit ∧ s.link p ≠ none) ∨
  (n = 42 ∧ p ≤ s.links.limit ∧ s.link p = none ∧ p / 128 ≠ 0 ∧ p / 128 ∉ s.links.pages ∧ s.links.canAllocate = false)

/-- Link `id` is defined as `e` and off the free list, its page is allocated, taken from those that can be if it was not, and
every other link is as before (R44, R47, R600, R623). -/
def LinkDefined (s t : State) (id : Nat) (e : Lte) : Prop :=
  t.link id = some e ∧ (∀ n, n ≠ id → t.link n = s.link n) ∧
  t.links.free = s.links.free.filter (· ≠ id) ∧ t.links.freeTail = s.links.freeTail.filter (· ≠ id) ∧
  t.links.maxCreated = max s.links.maxCreated id ∧
  (id / 128 = 0 ∨ id / 128 ∈ s.links.pages →
    t.links.pages = s.links.pages ∧ t.links.allocatablePageCount = s.links.allocatablePageCount) ∧
  (id / 128 ≠ 0 → id / 128 ∉ s.links.pages → t.links.pages = s.links.pages ++ [id / 128] ∧
    t.links.allocatablePageCount.toNat = s.links.allocatablePageCount.toNat - 1)

/-- Link `id` is undefined again and its ID back on the free list, at the head or at the tail (notes/assumptions/28.md);
nothing else of the link table differs (R44, R605, R615). -/
def LinkGone (s t : State) (id : Nat) : Prop :=
  t.link id = none ∧ (∀ n, n ≠ id → t.link n = s.link n) ∧
  ((t.links.nextFree = some id ∧ t.links.free = id :: s.links.free ∧ t.links.freeTail = s.links.freeTail) ∨
    (t.links.prevFree = some id ∧ t.links.free = s.links.free ∧ t.links.freeTail = s.links.freeTail ++ [id])) ∧
  t.links = { s.links with entries := t.links.entries, free := t.links.free, freeTail := t.links.freeTail }

/-- Funnel `f` is undefined again and its ID back on the free list, at the head or at the tail (notes/assumptions/28.md);
nothing else of the funnel table differs (R49, R606). -/
def FunnelGone (s t : State) (f : Nat) : Prop :=
  t.funnel f = none ∧ (∀ g, g ≠ f → t.funnel g = s.funnel g) ∧
  ((t.funnels.nextFree = some f ∧ t.funnels.free = f :: s.funnels.free ∧ t.funnels.freeTail = s.funnels.freeTail) ∨
    (t.funnels.prevFree = some f ∧ t.funnels.free = s.funnels.free ∧ t.funnels.freeTail = s.funnels.freeTail ++ [f])) ∧
  t.funnels = { s.funnels with entries := t.funnels.entries, free := t.funnels.free, freeTail := t.funnels.freeTail }

/-- The control information of a message that this process sends on link `e`: the link's code and funnel, the type, this
process, and the number of bytes of the data (R576, R577). -/
def Labelled (s : State) (e : Lte) (type : BitVec 8) (m : Message) : Prop :=
  m.rci.extractLsb' 48 16 = e.linkCode ∧ m.rci.extractLsb' 40 8 = e.toFunnel ∧ m.rci.extractLsb' 32 8 = type ∧
    m.rci.extractLsb' 16 16 = s.processId ∧ m.rci.extractLsb' 0 16 = BitVec.ofNat 16 m.data.length

/-- The notification to the creator of link `e2`, two bytes with the process ID of the receiver on `e1`, where it is asked for:
what leaves, and the status, which is advisory (R577, R614, R615). -/
def Notice (s : State) (e1 e2 : Lte) (tell : Prop) (type : BitVec 8) (n : Nat) (l : List OutEvent) : Prop :=
  (¬ tell → n = 0 ∧ l = []) ∧
  (tell → n ∈ [0, 5, 136, 147, 152, 139] ∧ ∃ k : Message, l = [.send e2 k] ∧
    k.data = beBytes 2 e1.toProcess.toNat ∧ k.link = none ∧ Labelled s e2 type k)

/-- The message of COPY.LINK and PASS.LINK on link `e1` with the data and the link `e2` (R573, R576, R614). -/
def Carries (s : State) (e1 e2 : Lte) (d : List Byte) (m : Message) : Prop :=
  m.data = d ∧ m.link = some e2 ∧ Labelled s e1 1 m

/-- What COPY.LINK and PASS.LINK send to another process (R614, R615): the message; a failure of its transport ends it;
else the notification follows. -/
def Shares (s : State) (e1 e2 : Lte) (d : List Byte) (tell : Prop) (type : BitVec 8) (n : Nat) (l : List OutEvent) : Prop :=
  ∃ m l', Carries s e1 e2 d m ∧
    ((n ∈ [36, 47, 37, 38, 39, 48, 52, 54, 55, 56] ∧ l = [.send e1 m]) ∨
      (Notice s e1 e2 tell type n l' ∧ l = .send e1 m :: l'))

/-- The Debugger entered from `s` with a reason, R3 and R4: the state `t`, memory outside the frame as before, and nothing
changed but the registers, PSW bit 12, the frame and the pc (R709, R710). -/
def DebuggerEntered (s t : State) (reason r3 r4 : Word) (next : Addr) : Prop :=
  let b := lo32 (s.reg 15) - 136
  t.pc = s.params.debuggerPc ∧ t.reg 15 = zext32 b ∧ t.reg 0 = zext32 (b + 128) ∧ t.reg 1 = zext32 b ∧
    t.reg 2 = reason ∧ t.reg 3 = r3 ∧ t.reg 4 = r4 ∧ RegsBut [0, 1, 2, 3, 4, 15] s t ∧ t.pswBit 12 = false ∧
    PswBut [12] s t ∧ t.lp = s.lp ∧ (∀ k : Reg, wordAt t (b + 8 * k.setWidth 32) = s.reg k) ∧
    wordAt t (b + 128) = zext32 next ∧
    (∀ a, (∀ k, k < 136 → a ≠ b + BitVec.ofNat 32 k) → t.byteAt a = s.byteAt a) ∧
    t = { s with regs := t.regs, psw := t.psw, mem := t.mem, pc := t.pc }

/-- An instruction that is illegal by its opcode or its registers: a register pair that may not be named, its destination
14 or 15 or its source 15 (R23, R276, R320, D3, U17), or an opcode that this edition does not implement (R8, D14). -/
def BadForm (p : Config.Params) (i : Instr) : Prop :=
  (∃ e ∈ wideProducts, ∃ x y z, i = e.1 x y z ∧ 14 ≤ x.toNat) ∨
  (∃ e ∈ floatPairOps, ∃ x y z, i = e.1 x y z ∧ (14 ≤ x.toNat ∨ y = 15 ∨ z = 15)) ∨
  (∃ e ∈ pairCompares, ∃ x y z a, i = e.1 x y z a ∧ (y = 15 ∨ z = 15)) ∨
  (∃ x y z : Reg,
    (i = .frem80 x y z ∧ (14 ≤ z.toNat ∨ y = 15)) ∨ (i = .finp80 x y z ∧ (14 ≤ x.toNat ∨ z = 15)) ∨
    (i = .cvtIe x y z ∧ 14 ≤ x.toNat) ∨ ((i = .cvtEi x y z ∨ i = .cvtEs x y z ∨ i = .cvtEd x y z) ∧ z = 15)) ∨
  (∃ o : GOp, (i = .cvtDe o ∨ i = .cvtSe o) ∧ 14 ≤ o.x.toNat) ∨
  (∃ x y z : Reg,
    (i = .readMachId x ∧ p.impl603 = false) ∨ (i = .memoryMan x y z ∧ p.impl700 = false) ∨
    (i = .modifyPme x y z ∧ p.impl701 = false) ∨ (i = .exchLinkForward x y z ∧ p.impl809 = false) ∨
    (i = .forwardMsg x y z ∧ p.impl80A = false) ∨ (i = .sendSmallMsg x y z ∧ p.impl80E = false))

/-- The byte of two nibbles. -/
def byteOf (h l : Nib) : Byte := h ++ l

end Sys2Proof.Stmt

open Sys2Proof Sys2Proof.Machine Sys2Proof.Stmt

/-! ### Encoding -/

/-- Decoding the encoding of an instruction of the opcode table gives the instruction, for every value of every
operand and of every open parameter, and leaves what follows (R140 to R173, R655, R670). -/
def Obligations.DecodeEncode : Prop :=
  ∀ (p : Config.Params) (i : Instr) (rest : List Byte), p.valid = true → i.wellFormed p = true →
    decode p (encode p i ++ rest) = .ok (i, rest)

/-- What the decoder accepts is an instruction of the opcode table, and encoding it gives the very bytes read: no
bit is dropped, and no two instructions share a word (R148). -/
def Obligations.EncodeDecode : Prop :=
  ∀ (p : Config.Params) (bs : List Byte) (i : Instr) (rest : List Byte), p.valid = true →
    decode p bs = .ok (i, rest) → i.wellFormed p = true ∧ encode p i ++ rest = bs

/-- A few words written out from the spec's encodings decode to their instructions, one of every family (R150,
R201, R266, R331, R372, R393, R435, R486, R522, R605, R680). -/
def Obligations.WordsDecode : Prop :=
  let d := fun bs => decode Config.params bs
  d [0xBA, 0x03, 0x05] = .ok (.ld32 (.mB 3 0 5), []) ∧ d [0x04, 0x3F] = .ok (.addi64 (.m0 3 0xF), []) ∧
  d [0xF0, 0x92, 0x46] = .ok (.fadd80 2 4 6, []) ∧ d [0x70, 0x81, 0x23] = .ok (.asciiAdd 1 2 3, []) ∧
  d [0x31, 0xE1, 0x02] = .ok (.logNot (.m3 1 0 2), []) ∧
  d [0x33, 0x30, 0x12, 0x20, 0x08] = .ok (.cmpBr64 (.m3 0 1 2) { ccf := 2, act := 8 }, []) ∧
  d [0x3D, 0x71, 0x03] = .ok (.cvtDe (.m3 1 0 3), []) ∧
  d [0xE0, 0x70, 0x00, 0x00, 0x01, 0x20, 0x00] = .ok (.brAbs 0 0x00012000, []) ∧
  d [0x90, 0x11, 0x20, 0x00] = .ok (.delLink 1 2 0 0 0, []) ∧ d [0x50] = .ok (.nop, [])

/-! ### The step -/

/-- When the bytes at the program counter may be fetched and decode to an instruction, a step is that instruction's
meaning in the state in which the process no longer waits in a receive, then the instruction boundary: the address
recorded as the last executed, the single step, the timers, the environment (R26, R102, R579, R702). Bytes that are an FSQR,
which has an opcode only by a parameter, run it in the same way (R355, D36; notes/assumptions/34.md). -/
def Obligations.StepRunsDecoded : Prop :=
  ∀ (s : State) (bs : List Byte), s.ended = false → s.fetchBytes s.pc (instrLen (s.byteAt s.pc)) = some bs →
    (∀ i rest, decode s.params bs = .ok (i, rest) →
      step s = Res.bind (exec i { s with blocked := false }) (boundary (some s.pc) s.ss)) ∧
    (∀ q, (∀ r, decode s.params bs ≠ .ok r) → decodeFsqr s.params bs = some q →
      step s = Res.bind (execFsqr q bs { s with blocked := false }) (boundary (some s.pc) s.ss))

/-- What a step does where no instruction can run. A fetch that is an access violation, on the first byte or a later one,
raises exception 21 with the last executed instruction's address in the message, the address of the instruction as the saved
PC and no instruction bytes; without an enabled handler there is no further step (R740, D59, U19). Bytes that are no row of the
opcode table raise exception 22 with these bytes; with bit 60 off bit 61 is set and the pc goes on by the format's length (R148,
R730, D15, U21, U30). An instruction that its opcode or registers make illegal is so before a violation on a later byte (R733):
that its opcode is known from two bytes, or one in the short formats, and that a byte which cannot be fetched counts as zero,
is the model's reading (notes/assumptions/19.md). So is what the boundary makes of them: a fetch violation counts as the
single-stepped instruction, "which the spec does not say" (notes/assumptions/20.md), and an illegal instruction as that and as
the last executed (notes/assumptions/15.md, 20.md). The forms of FSQR are those of notes/assumptions/34.md. -/
def Obligations.FailedFetches : Prop :=
  ∀ s : State, s.ended = false →
    let p := s.params
    let n := instrLen (s.byteAt s.pc)
    let s0 : State := { s with blocked := false }
    let violates :=
      (s.excEnabled .accessViolation = false → step s = .fault .fetchUnhandled) ∧
      (s.excEnabled .accessViolation = true → step s =
        Res.bind (sendException [] s.lastPc { code := .accessViolation } ((s0.setOccurred .accessViolation).setPc s.pc))
          (boundary none s.ss))
    let illegal := fun bytes : List Byte =>
      let t := (s0.setOccurred .illegal).setPc (s.pc + BitVec.ofNat 32 n)
      (s.excEnabled .illegal = false → step s = boundary (some s.pc) s.ss t) ∧
      (s.excEnabled .illegal = true → step s =
        Res.bind (sendException bytes s.pc { code := .illegal } t) (boundary (some s.pc) s.ss))
    (s.fetchBytes s.pc 1 = none → violates) ∧
    (∀ bs, s.fetchBytes s.pc n = some bs → (∀ r, decode p bs ≠ .ok r) → decodeFsqr p bs = none → illegal bs) ∧
    (∀ k bs, 1 ≤ k → k < n → s.fetchBytes s.pc k = some bs → s.allowed .fetch (s.pc + BitVec.ofNat 32 k) = false →
      let seen := bs ++ List.replicate (n - k) 0
      (k = 1 →
        let listed := hiNib (s.byteAt s.pc) ∉ ([0, 1, 8, 9, 0xA] : List Nib) ∨ loNib (s.byteAt s.pc) = 0 ∨
          ∃ more r, decode p (bs ++ more) = .ok r
        (listed → violates) ∧ (¬ listed → illegal seen)) ∧
      (1 < k →
        (∀ i r, decode p seen = .ok (i, r) → (¬ BadForm p i → violates) ∧ (BadForm p i → illegal seen)) ∧
        ((∀ r, decode p seen ≠ .ok r) →
          (∀ f o, decodeFsqr p seen = some (.general f o) → violates) ∧
          (∀ x z : Reg, decodeFsqr p seen = some (.pair x z) →
            (x.toNat < 14 ∧ z ≠ 15 → violates) ∧ (14 ≤ x.toNat ∨ z = 15 → illegal seen)) ∧
          (decodeFsqr p seen = none → illegal seen))))

/-! ### Invariants and whole-machine rules -/

/-- Every step keeps the invariant: memory in canonical form, channel 0 enabled, funnel 1 the only funnel of channel 0
and enabled, the tables ordered, the free lists disjoint from the defined entries, every defined link on an allocated page
of its table, and the list of active funnels holding, without repeats, exactly the funnels whose queue is not empty (R37,
R44, R49, R53, R54, R641). -/
def Obligations.StepKeepsInvariant : Prop :=
  ∀ s t : State, s.Inv → Sys2Proof.Machine.step s = .next t → t.Inv

/-- The state at start-up has the invariant. -/
def Obligations.ResetHasInvariant : Prop := State.reset.Inv

/-- The values the spec gives for process start-up (R57, R28, R53): the PSW's 64 bits, the CPU timer, the two channels
enabled, link 1 directed into funnel 2 of this process, funnels 1 and 2 on channels 0 and 1. That the PSW's reserved bits 2
to 8 and 13 to 15 are zero is the spec's decision D5 and the model's choice (notes/assumptions/5.md). -/
def Obligations.ResetValues : Prop :=
  State.reset.psw = 0x0000A000000000A8 ∧ State.reset.cpuTimer = 0 ∧
  chanBit State.reset.chanMask 0 = true ∧ chanBit State.reset.chanMask 1 = true ∧
  (∃ e, State.reset.link 1 = some e ∧ e.toFunnel = 2 ∧ e.toProcess = State.reset.processId) ∧
  (∃ e, State.reset.funnel 1 = some e ∧ e.channel = 0) ∧ (∃ e, State.reset.funnel 2 = some e ∧ e.channel = 1)

/-- No step changes the process ID or the version ID: "The sender has no way of altering the process ID tag" (R43); nor the
open parameters, which is the model's choice (notes/assumptions/14.md). The CPU timer and the real-time clock never go down
(R40, R41, by the decisions D10 and D11; notes/assumptions/10.md). -/
def Obligations.StepKeepsIdentityAndClocks : Prop :=
  ∀ s t : State, Sys2Proof.Machine.step s = .next t → s.sameIdentity t ∧ s.clocksGoOn t

/-- No instruction but WRITE.STAT changes the rounding mode, FZ or an exception enable bit, and an occurred bit that is
set stays set (R34, R679). -/
def Obligations.ModesOnlyByWriteStat : Prop :=
  ∀ (i : Instr) (s t : State), (∀ x, i ≠ .writeStat x) → exec i s = .next t →
    (∀ j, j < 64 → (j ≤ 8 ∨ j = 11 ∨ (13 ≤ j ∧ j ≤ 15) ∨ (16 ≤ j ∧ j % 2 = 0)) → t.pswBit j = s.pswBit j) ∧
    (∀ j, j < 64 → 17 ≤ j → s.pswBit j = true → t.pswBit j = true)

/-- Nothing but SET.LOCAL.PRI, IXIT and the receives can lower the local priority: every other instruction leaves it or
raises it, that is, does not increase its number (R36, R640); and the channel mask is changed only by DISABLE.CHAN.INT and
ENABLE.CHAN.INT (R37, R642, R643). -/
def Obligations.PriorityAndMaskRules : Prop :=
  (∀ (i : Instr) (s t : State), (∀ x y z u v, i ≠ .setLocalPri x y z u v) → (∀ u b, i ≠ .ixit u b) →
     (∀ x y z u v, i ≠ .rcv x y z u v) → (∀ x y z u v, i ≠ .rcvChan x y z u v) →
     (∀ x y z u v, i ≠ .rcvLink x y z u v) → (∀ x y z u v, i ≠ .rcvLinkOnChan x y z u v) →
     exec i s = .next t → t.lp ≤ s.lp) ∧
  (∀ (i : Instr) (s t : State), (∀ x y z, i ≠ .disableChanInt x y z) → (∀ x y z, i ≠ .enableChanInt x y z) →
     exec i s = .next t → t.chanMask = s.chanMask)

/-! ### Memory and operands -/

/-- What a store leaves: the stored bytes read back, most significant first, every other byte of memory as before, and
the canonical form kept (R81, R86, R101). -/
def Obligations.StoreReadsBack : Prop :=
  ∀ (s : State) (a : Addr) (n : Nat) (w : Word), s.memOk → n ≤ 8 →
    let t := s.poke a (lowBytes n w)
    t.memOk ∧
    (∀ k, k < n → t.byteAt (a + BitVec.ofNat 32 k) = w.extractLsb' (8 * (n - 1 - k)) 8) ∧
    (∀ b, (∀ k, k < n → b ≠ a + BitVec.ofNat 32 k) → t.byteAt b = s.byteAt b)

/-- The last operand in every addressing mode: a register, a sign-extended immediate, or the big-endian bytes at the
mode's effective address, extended (R152, R153, R155, R160). -/
def Obligations.LastOperandByMode : Prop :=
  ∀ (s : State) (e : Ext) (n : Nat) (x y z w u : Nib), 1 ≤ n → n ≤ 8 →
    s.lastVal e n (.m0 w x) = some (s.reg w) ∧ s.lastVal e n (.m1 w x) = some (s.reg w) ∧
    s.lastVal e n (.m3 x y z) = some (s.reg z) ∧
    (∀ imm, s.lastVal e n (.m5 x y imm) = some (imm.signExtend 64)) ∧
    (∀ imm, s.lastVal e n (.m7 x y u imm) = some (imm.signExtend 64)) ∧
    ∀ (o : GOp) (a : Addr),
      (∃ d, o = .m4 x d ∧ a = d.setWidth 32) ∨ (∃ d, o = .m6 x y u d ∧ a = d) ∨
      (o = .m8 w x ∧ a = lo32 (s.reg 15) + 4 * w.setWidth 32) ∨
      (o = .m9 w x ∧ a = lo32 (s.reg 15) + 4 * w.setWidth 32) ∨
      (o = .mA w x ∧ a = lo32 (s.reg w)) ∨ (o = .mB x y z ∧ a = lo32 (s.reg z)) ∨
      (o = .mC x y z ∧ a = lo32 (s.reg y) + lo32 (s.reg z)) ∨
      (∃ d, o = .mD x y d ∧ a = lo32 (s.reg y) + d.signExtend 32) ∨
      (∃ d, o = .mE x y z d ∧ a = lo32 (s.reg y) + lo32 (s.reg z) + d) ∨
      (∃ d, o = .mF x y z d ∧ a = lo32 (s.reg z) + d) →
      s.ea o = a ∧
      (s.allowedRange .read a n = false → s.lastVal e n o = none) ∧
      (s.allowedRange .read a n = true → ∃ v, s.lastVal e n o = some v ∧
        (e = .zero → v.toNat = beNat (readBytes s.mem a n)) ∧
        (e = .sign → v.toInt = ((beNat (readBytes s.mem a n) : Nat) : Int).bmod (2 ^ (8 * n))))

/-! ### Exceptions and interrupts -/

/-- An exception whose handler is disabled sets its occurred bit, goes on with the next instruction and does nothing
else (R720). -/
def Obligations.DisabledExceptionGoesOn : Prop :=
  ∀ (i : Instr) (e : Exc) (s : State), s.excEnabled e.code = false →
    raise i e s = .next ((s.setOccurred e.code).setPc (s.nextPc i)) ∧
    ((s.setOccurred e.code).pswBit (17 + 2 * e.code.num) = true) ∧
    PswBut [17 + 2 * e.code.num] s (s.setOccurred e.code)

/-- An enabled exception with the handler's funnel open, its channel enabled, above the local priority and no active
channel above it: the 104-byte message stands at the tail of funnel 2's queue, and the process is at the funnel's vector
with the interrupt frame on its stack (R703, R706, R707, R720 to R722). Stated for any bytes in the instruction field, any PC
field and any next address: an instruction's own exception has its bytes, its address and the following one's. That the
message reaches funnel 2 whatever link 1 has become is the model's reading (notes/assumptions/17.md). -/
def Obligations.EnabledExceptionInterrupts : Prop :=
  (∀ (i : Instr) (e : Exc) (s : State), raise i e s = raiseAt (encode s.params i) s.pc (s.nextPc i) e s) ∧
  ∀ (bytes : List Byte) (pcField next : Addr) (e : Exc) (s : State) (l : Lte) (fe : Funnel), s.memOk →
    s.tablesOk → s.excEnabled e.code = true → s.link 1 = some l → s.openFunnel 2 = some fe → Accepts s 2 fe →
    s.allowedRange .write (lo32 (s.reg 15) - 144) 144 = true →
    ∃ (t u : State) (m : Message), raiseAt bytes pcField next e s = .next t ∧
      Queued 2 fe m ((s.setOccurred e.code).setPc next) u ∧ InterruptEntered 2 fe.vector s.lp u t ∧
      m.data.length = 104 ∧ m.data.take 9 = leftJustify 9 bytes ∧
      m.data[15]? = some (BitVec.ofNat 8 e.code.num) ∧ (m.data.drop 16).take 4 = beBytes 4 pcField.toNat ∧
      wordOf ((m.data.drop 40).take 8) = e.src1 ∧ wordOf ((m.data.drop 56).take 8) = e.src2 ∧
      wordOf ((m.data.drop 64).take 8) = e.high ∧ wordOf ((m.data.drop 72).take 8) = e.low ∧ m.link = none ∧
      m.rci.extractLsb' 48 16 = l.linkCode ∧ m.rci.extractLsb' 40 8 = 2 ∧ m.rci.extractLsb' 32 8 = 0 ∧
      m.rci.extractLsb' 0 16 = 104

/-- Delivery, for every funnel (R54, R578, R703, R704, R706): one that is not defined or not enabled takes nothing; else the
message goes to the tail of the queue, the local priority becomes the higher of itself and the channel's, and a funnel that was
empty becomes the last of the active ones; where the arrival is accepted (the channel enabled, above the local priority before,
no other active channel above it) the handler at the funnel's vector is entered, the frame holding the local priority before; else
nothing more. A frame that cannot be stored stops the machine (D61). The environment's events of a boundary are applied in their order, the list of the next boundary left as it was: an arrival is a
delivery; a store of another agent changes one byte of an allocated page; a change of the map changes one page's entry; the end
of the process leaves no further step; a Debugger break of reason 2, 3 or 4 is an entry of R709 with the last executed
instruction's address and, for 3 and 4, the data's, which changes the registers, PSW bit 12, the frame's bytes and the pc alone; a move to another CPU brings its identification code (R10, R578, R702, R709,
R713, R714, R742, R764). That these are the events and when they are applied is the model's choice (notes/assumptions/12.md),
as it is that a page taken or given holds zeros, one whose rights alone change keeps its bytes, and that no break comes while the
process waits (notes/assumptions/42.md). -/
def Obligations.DeliveriesAndEvents : Prop :=
  (∀ (f : Nat) (m : Message) (s : State),
    (s.openFunnel f = none → deliver f m s = .next s) ∧
    (∀ e, s.openFunnel f = some e → ∃ t, Queued f e m s t ∧
      (¬ Accepts s f e → deliver f m s = .next t) ∧
      (Accepts s f e → s.tablesOk → deliver f m s = interruptEntry f e.vector s.lp t))) ∧
  (∀ (f : Nat) (v : Addr) (lp0 : Chan) (s : State), s.memOk →
    let fits := s.allowedRange .write (lo32 (s.reg 15) - 144) 144
    (fits = true → ∃ t, interruptEntry f v lp0 s = .next t ∧ InterruptEntered f v lp0 s t) ∧
    (fits = false → interruptEntry f v lp0 s = .fault .frameStore)) ∧
  (∀ s : State,
    (s.arrivals.headD [] = [] → environment s = .next { s with arrivals := s.arrivals.tail }) ∧
    (∀ e es rest, s.arrivals = (e :: es) :: rest → environment s =
      Res.bind (applyEvent e { s with arrivals := rest }) fun u => environment { u with arrivals := es :: rest })) ∧
  (∀ (f : BitVec 8) (m : Message) (s : State), applyEvent (.arrival f m) s = deliver f.toNat m s) ∧
  (∀ s : State, s.memOk → s.tablesOk →
    (∀ a b, ∃ t, applyEvent (.sharedStore a b) s = .next t ∧ t = { s with mem := t.mem } ∧
      ∀ c, t.byteAt c = if c = a ∧ (s.pageAt a).isSome then b else s.byteAt c) ∧
    (∀ n q, ∃ t, applyEvent (.remap n q) s = .next t ∧ t = { s with pages := t.pages, mem := t.mem } ∧
      Assoc.get t.pages n = q ∧ (∀ k, k ≠ n → Assoc.get t.pages k = Assoc.get s.pages k) ∧
      ∀ a : Addr, t.byteAt a =
        if a.toNat / 2048 = n ∧ ¬ (q.isSome ∧ (Assoc.get s.pages n).isSome) then 0 else s.byteAt a) ∧
    (∀ e ∈ [(BreakReason.executeBreak, (2 : Word)), (.readBreak, 3), (.writeBreak, 4)], ∀ a,
      (s.blocked = false → s.allowedRange .write (lo32 (s.reg 15) - 136) 136 = true →
        ∃ t, applyEvent (.breakEntry e.1 a) s = .next t ∧
          DebuggerEntered s t e.2 (zext32 s.lastPc) (if e.2 = 2 then 0 else zext32 a) s.pc) ∧
      (s.blocked = true → applyEvent (.breakEntry e.1 a) s = .next s)) ∧
    (applyEvent .terminate s = .next { s with ended := true } ∧
      step { s with ended := true } = .fault .terminated) ∧
    (∀ code, applyEvent (.migrate code) s = .next { s with machId := code }) ∧
    (∀ c v, ∃ t, applyEvent (.chanPrio c v) s = .next t ∧ t = { s with chanPrio := t.chanPrio } ∧
      ∀ k : Fin 16, t.chanPrio[k] = if k = c then v else s.chanPrio[k]) ∧
    (s.manager = .waiting → applyEvent .restart s = .next { s with manager := .restarted }) ∧
    (s.manager ≠ .waiting → applyEvent .restart s = .next s))

/-- An interrupt and its return: from any state, if the frame lies on pages that may be written and read, the handler
entered for any funnel at any vector can leave by IXIT 0, and then all sixteen registers and the pc are as before the
interrupt, the PSW untouched, the local priority the saved one or the highest active channel's (R557, R706, R707). From any
state IXIT with any displacement completes where the frame at the stack pointer plus the displacement can be read: the
registers, the local priority through the set local priority function and the pc are the frame's, and nothing else changes
(R557, D51, D54). -/
def Obligations.InterruptReturns : Prop :=
  (∀ (s t : State) (f : Nat) (v : Addr) (lp0 : Chan) (u : Nib), s.memOk →
    interruptEntry f v lp0 s = .next t → s.allowedRange .read (lo32 (s.reg 15) - 144) 144 = true →
    ∃ w, exec (.ixit u 0) t = .next w ∧ w.regs = s.regs ∧ w.pc = s.pc ∧ w.psw = s.psw ∧
      w.lp = min lp0 s.hpac ∧ w.funnels = s.funnels ∧
      (∀ a, (∀ k, k < 144 → a ≠ lo32 (s.reg 15) - 144 + BitVec.ofNat 32 k) → w.byteAt a = s.byteAt a)) ∧
  (∀ (s : State) (u : Nib) (d : BitVec 8),
    let b := lo32 (s.reg 15 + d.setWidth 64)
    s.allowedRange .read b 144 = true →
    ∃ w, exec (.ixit u d) s = .next w ∧ (∀ k : Reg, w.reg k = wordAt s (b + 8 * k.setWidth 32)) ∧
      (∀ p : Chan, (wordAt s (b + 128)).toNat % 16 = p.val → w.lp = min p s.hpac) ∧
      w.pc = lo32 (wordAt s (b + 136)) ∧ w = { s with regs := w.regs, lp := w.lp, pc := w.pc })

/-- BREAKPOINT and BXIT: BREAKPOINT enters the Debugger with the reason 0 and the instruction's address; BXIT 0 there with
R0 = 0 restores all sixteen registers and goes on after the BREAKPOINT with no single step pending, with R0 = 1 the same
with a single step pending, nothing but PSW bit 12, the frame's bytes and the pc differing from the state before the
BREAKPOINT (R554, R556, R709, R710). An entry changes the registers, PSW bit 12, the 136 bytes of the frame and the pc, and
nothing else. From any state with R0 = 0 or 1 BXIT with any displacement completes
where the frame can be read: the registers and the pc are the frame's, and PSW bit 12 is R0's (R556, D51). The boundary
after an instruction that was started with a single step armed and has left it armed enters the Debugger with reason 1
before the timers and the environment; without one it does not; the boundary of an instruction that waits changes nothing
before them (R33, R702, R711, D43). -/
def Obligations.BreakpointReturns : Prop :=
  (∀ (s : State) (u : Nib), s.memOk → s.allowedRange .write (lo32 (s.reg 15) - 136) 136 = true →
    s.allowedRange .read (lo32 (s.reg 15) - 136) 136 = true →
    ∃ t, exec .breakpoint s = .next t ∧ DebuggerEntered s t 0 (zext32 s.pc) 0 (s.pc + 1) ∧
      ∀ c : Bool, ∃ w, exec (.bxit u 0) (t.setReg 0 (if c then 1 else 0)) = .next w ∧ w.regs = s.regs ∧
        w.pc = s.pc + 1 ∧ w.pswBit 12 = c ∧ PswBut [12] s w ∧ w.lp = s.lp ∧
        w = { s with psw := w.psw, mem := t.mem, pc := w.pc }) ∧
  (∀ (s : State) (u : Nib) (d : BitVec 8) (c : Bool),
    let b := lo32 (s.reg 15 + d.setWidth 64)
    s.reg 0 = (if c then 1 else 0) → s.allowedRange .read b 136 = true →
    ∃ w, exec (.bxit u d) s = .next w ∧ (∀ k : Reg, w.reg k = wordAt s (b + 8 * k.setWidth 32)) ∧
      w.pc = lo32 (wordAt s (b + 128)) ∧ w.pswBit 12 = c ∧ PswBut [12] s w ∧
      w = { s with regs := w.regs, psw := w.psw, pc := w.pc }) ∧
  (∀ (s : State) (a : Addr), s.memOk → s.blocked = false →
    (s.ss = true → s.allowedRange .write (lo32 (s.reg 15) - 136) 136 = true →
      ∃ t, boundary (some a) true s = environment t.tick ∧ t.lastPc = a ∧ t.manager = .idle ∧
        DebuggerEntered { s with lastPc := a, manager := .idle } t 1 0 0 s.pc) ∧
    (∀ armed, armed = false ∨ s.ss = false →
      ∃ t, boundary (some a) armed s = environment t.tick ∧ t = { s with lastPc := a, manager := .idle })) ∧
  (∀ (s : State) (a : Addr) (armed : Bool), s.blocked = true → boundary (some a) armed s = environment s.tick)

/-- An operand that is an access violation: exception 21 and nothing else: no destination is written (R100, R571, R740, D18,
U20). With its handler disabled only the occurred bit and the pc change; with it enabled it is taken, the message's instruction
field zero, its PC field the instruction's address. Covered are every generalized instruction that
reads its last operand, the stores, the exchanges, CALL, EXIT, the frames of IXIT, BXIT and BREAKPOINT, the map entry of
MODIFY.PME (R673), and that of READ.PME, which is the model's reading (notes/assumptions/40.md: D12 names R673, and R676 is
silent); the parameter blocks of the message instructions, the ID's stores of CREATE.LINK and EXCH.LINK.FORWARD among them, the data blocks and the
second link's ID of the sends, the control information, the data and the preferred ID of the receives; not the string
instructions (U9). -/
def Obligations.ViolatingAccessChangesNothing : Prop :=
  ∀ s : State,
  let gone := fun i : Instr =>
    exec i s = raiseAt [] s.pc (s.nextPc i) { code := .accessViolation } s ∧
    (s.excEnabled .accessViolation = false → Done i s (s.setOccurred .accessViolation)) ∧
    (s.excEnabled .accessViolation = true →
      exec i s = sendException [] s.pc { code := .accessViolation } ((s.setOccurred .accessViolation).setPc (s.nextPc i)))
  (∀ e ∈ readers, ∀ o, s.lastVal e.2.1 e.2.2 o = none → gone (e.1 o)) ∧
  (∀ e ∈ compares, ∀ o a, s.lastVal e.2.1 e.2.2 o = none → gone (e.1 o a)) ∧
  (∀ e ∈ conversions, ∀ o, s.lastVal .zero e.2.1 o = none → (e.2.2 = .extended → o.x.toNat < 14) → gone (e.1 o)) ∧
  (∀ e ∈ stores ++ checkedStores, ∀ o, s.allowedRange .write (s.ea o) e.2 = false → gone (e.1 o)) ∧
  (∀ e ∈ immStores, ∀ o, o.last = .mem → s.allowedRange .write (s.ea o) e.2.1 = false → gone (e.1 o)) ∧
  (∀ e ∈ exchanges, ∀ x y z, (lo32 (s.reg z)).toNat % 8 = 0 →
    s.allowedRange .read (lo32 (s.reg z)) 8 = false ∨ s.allowedRange .write (lo32 (s.reg z)) 8 = false → gone (e.1 x y z)) ∧
  (∀ u d, s.allowedRange .write (lo32 (s.reg 15)) 4 = false → gone (.call u d)) ∧
  (∀ u b, s.allowedRange .read (lo32 (s.reg 15 + b.setWidth 64)) 4 = false → gone (.exit u b)) ∧
  (∀ u b, s.allowedRange .read (lo32 (s.reg 15 + b.setWidth 64)) 144 = false → gone (.ixit u b)) ∧
  (∀ u b, s.reg 0 = 0 ∨ s.reg 0 = 1 → s.allowedRange .read (lo32 (s.reg 15 + b.setWidth 64)) 136 = false →
    gone (.bxit u b)) ∧
  (s.allowedRange .write (lo32 (s.reg 15) - 136) 136 = false → gone .breakpoint) ∧
  (∀ x, s.pageAt (lo32 (s.reg x)) = none → gone (.readPme x)) ∧
  (∀ x y z, s.params.impl701 = true → s.pageAt (lo32 (s.reg z)) = none → gone (.modifyPme x y z)) ∧
  (∀ x y z t v : Reg,
    let pb := lo32 (s.reg y)
    (s.allowedRange .read pb 1 = false → gone (.createLink x y z) ∧ gone (.rcv x y z t v) ∧ gone (.rcvLink x y z t v) ∧
      (s.params.impl809 = true → gone (.exchLinkForward x y z)) ∧
      (s.params.impl80A = true → gone (.forwardMsg x y z))) ∧
    (s.allowedRange .read pb 4 = false → gone (.createLink x y z)) ∧
    (s.allowedRange .read (pb + 2) 2 = false → s.params.impl80A = true → gone (.forwardMsg x y z)) ∧
    (∀ f fe m, s.params.impl809 = true → s.allowedRange .read pb 1 = true → beNat (readBytes s.mem pb 1) = f → 0 < f →
      s.funnel f = some fe → fe.queue.head? = some m →
      (s.allowedRange .read (pb + 2) 2 = false → gone (.exchLinkForward x y z)) ∧
      (∀ e, s.allowedRange .read (pb + 2) 2 = true → s.lookup (beNat (readBytes s.mem (pb + 2) 2)) = .ok e →
        e.rights.getLsbD 1 = true → m.link ≠ none →
        (s.allowedRange .read (pb + 4) 2 = false → gone (.exchLinkForward x y z)) ∧
        (∀ id, s.allowedRange .read (pb + 4) 2 = true → LinkIdFor s (beNat (readBytes s.mem (pb + 4) 2)) id →
          s.allowedRange .write (pb + 4) 2 = false ∨ s.allowedRange .read (pb + 6) 2 = false →
          gone (.exchLinkForward x y z)))) ∧
    (s.allowedRange .read pb 2 = false → gone (.rcvChan x y z t v) ∧ gone (.rcvLinkOnChan x y z t v)) ∧
    (s.allowedRange .read (pb + 2) 2 = false → gone (.delLink x y z t v) ∧ gone (.send x y z t v) ∧
      gone (.copyLink x y z t v) ∧ gone (.passLink x y z t v)) ∧
    (∀ f fe id, s.allowedRange .read pb 16 = true → s.allowedRange .write (pb + 2) 2 = false →
      beNat (readBytes s.mem pb 1) = f → 1 < f → s.funnel f = some fe →
      s.linkSlot (beNat (readBytes s.mem (pb + 2) 2)) = .ok id → gone (.createLink x y z))) ∧
  (∀ x y z t v : Reg,
    let pb := lo32 (s.reg y)
    let n1 := (s.reg z).toInt
    let n2 := (s.reg v).toInt
    0 ≤ n1 → 0 ≤ n2 →
    (s.allowedRange .read (pb + 2) 2 = true → s.allowedRange .read (pb + 6) 2 = false →
      gone (.copyLink x y z t v) ∧ gone (.passLink x y z t v)) ∧
    (s.allowedRange .read (pb + 16) n1.toNat = false ∨ s.allowedRange .read (lo32 (s.reg t)) n2.toNat = false →
      (n1 + n2 ≤ 888 → s.allowedRange .read (pb + 2) 2 = true → gone (.send x y z t v)) ∧
      (n1 + n2 ≤ 672 → s.allowedRange .read (pb + 2) 6 = true →
        gone (.copyLink x y z t v) ∧ gone (.passLink x y z t v))) ∧
    (∀ f fe m, s.allowedRange .read pb 3 = true →
      let unstored := s.allowedRange .write (pb + 8) 8 = false ∨
        s.allowedRange .write (pb + 16) (m.data.take n1.toNat).length = false ∨
        s.allowedRange .write (lo32 (s.reg t)) ((m.data.drop n1.toNat).take n2.toNat).length = false
      let unplaced := unstored ∨ (m.link ≠ none ∧ s.allowedRange .read (pb + 4) 2 = false)
      ((s.byteAt pb).toNat = f → 1 < f → s.funnel f = some fe → fe.queue.head? = some m →
        (unstored → gone (.rcv x y z t v)) ∧ (unplaced → gone (.rcvLink x y z t v))) ∧
      (bestCandidate (s.candidates (BitVec.ofNat 16 (beNat (readBytes s.mem pb 2)))) =
          some { funnel := f, entry := fe, message := m } →
        (unstored → gone (.rcvChan x y z t v)) ∧ (unplaced → gone (.rcvLinkOnChan x y z t v)))))

/-- A register pair that may not be named is an illegal instruction: a destination 14 or 15, a source 15, in MUL.128,
MULU.128, the extended arithmetic, FREM.80, the conversions to and from extended, FINP.80 and the extended compares (R23,
R112, R276, R320, D3, U17). The six opcodes this edition does not implement are illegal instructions unless the parameter of
the opcode says otherwise (R8, D14, U31). The instruction's whole effect is exception 22, with bit 60 off its occurred bit
(R730). Bytes that are no row of the table are in FailedFetches. -/
def Obligations.IllegalForms : Prop :=
  ∀ (i : Instr) (s : State), BadForm s.params i →
    exec i s = raise i { code := .illegal } s ∧
    (s.excEnabled .illegal = false → Done i s (s.setOccurred .illegal))

/-- Where the spec gives no effect the machine stops by name: a bit field past bit 63 or a value wider than its field
(U4, U5), a misaligned exchange (U6, D23), a string copy above 2^31 - 1 bytes (U8), BXIT with R0 neither 0 nor 1
(U16). -/
def Obligations.UndefinedStops : Prop :=
  (∀ x y z f s, 64 < f.start.toNat + (64 - f.len.toNat) →
    exec (.extract x y z f) s = .refused .undefinedBitField ∧
    exec (.extractz x y z f) s = .refused .undefinedBitField) ∧
  (∀ x y z f s, (64 < f.start.toNat + f.len.toNat ∨ 2 ^ f.len.toNat ≤ (s.reg z).toNat) →
    exec (.insert x y z f) s = .refused .undefinedBitField) ∧
  (∀ e ∈ exchanges, ∀ x y z s, (lo32 (s.reg z)).toNat % 8 ≠ 0 →
    exec (e.1 x y z) s = .refused .misalignedExchange) ∧
  (∀ x y z s, 2 ^ 31 - 1 < (s.reg z).toInt → exec (.copyb x y z) s = .refused .stringTooLong) ∧
  (∀ u b s, s.reg 0 ≠ 0 → s.reg 0 ≠ 1 → exec (.bxit u b) s = .refused .bxitFlag)

/-! ### Data transfer -/

/-- LD, LDZ, ST, STI and STIN complete, and nothing changes but the destination and the pc: a load gives Rx the last
operand; a store puts Rx's low-order bytes at the effective address; STI and STIN give a register destination the whole
64-bit value and memory its low-order bytes (R201, R202, R204, R208, R209). -/
def Obligations.LoadsAndStoresComplete : Prop :=
  (∀ e ∈ loads, ∀ o s v, s.lastVal e.2.1 e.2.2 o = some v → Done (e.1 o) s (s.setReg o.x v)) ∧
  (∀ e ∈ stores, ∀ o s, s.allowedRange .write (s.ea o) e.2 = true →
     Done (e.1 o) s (s.poke (s.ea o) (lowBytes e.2 (s.reg o.x)))) ∧
  (∀ e ∈ immStores, ∀ o s,
     (∀ r, o.last = .reg r → Done (e.1 o) s (s.setReg r (e.2.2 o.x))) ∧
     (o.last = .mem → s.allowedRange .write (s.ea o) e.2.1 = true →
       Done (e.1 o) s (s.poke (s.ea o) (lowBytes e.2.1 (e.2.2 o.x)))))

/-- STV completes: the store is made in any case; a register whose value does not fit the width is an integer
overflow, recorded, or with its handler enabled taken after the store, the message's operand and result words zero (R207,
R724). -/
def Obligations.CheckedStoresComplete : Prop :=
  ∀ e ∈ checkedStores, ∀ o s, s.allowedRange .write (s.ea o) e.2 = true →
    let v := (s.reg o.x).toInt
    let t := s.poke (s.ea o) (lowBytes e.2 (s.reg o.x))
    (-(2 ^ (8 * e.2 - 1) : Int) ≤ v ∧ v < 2 ^ (8 * e.2 - 1) → Done (e.1 o) s t) ∧
    (v < -(2 ^ (8 * e.2 - 1) : Int) ∨ 2 ^ (8 * e.2 - 1) ≤ v → s.excEnabled .intOverflow = false →
      Done (e.1 o) s (t.setOccurred .intOverflow)) ∧
    (v < -(2 ^ (8 * e.2 - 1) : Int) ∨ 2 ^ (8 * e.2 - 1) ≤ v → s.excEnabled .intOverflow = true →
      exec (e.1 o) s = raise (e.1 o) { code := .intOverflow } t)

/-- EXTRACT, EXTRACTZ and INSERT complete for a field inside the register. The length of the first two is 64 less the
appendage's (R210 to R212). -/
def Obligations.BitFieldsComplete : Prop :=
  ∀ (x y z : Reg) (f : FieldApp) (s : State),
    (let n := 64 - f.len.toNat
     f.start.toNat + n ≤ 64 →
      let v := (s.reg z).toNat / 2 ^ (64 - f.start.toNat - n) % 2 ^ n
      Done (.extract x y z f) s (s.setReg x (BitVec.ofInt 64 ((v : Int).bmod (2 ^ n)))) ∧
      Done (.extractz x y z f) s (s.setReg x (BitVec.ofNat 64 v))) ∧
    (let n := f.len.toNat
     f.start.toNat + n ≤ 64 → (s.reg z).toNat < 2 ^ n →
      ∃ v : Word, Done (.insert x y z f) s (s.setReg x v) ∧
        ∀ j, j < 64 → v.getMsbD j =
          if f.start.toNat ≤ j ∧ j < f.start.toNat + n then (s.reg z).getMsbD (64 - n + (j - f.start.toNat))
          else (s.reg y).getMsbD j)

/-- EXCH, EXCH.AND and EXCH.OR complete on a multiple of 8 that may be read and written: memory takes the combination,
Rx the old word (R240 to R243). -/
def Obligations.ExchangesComplete : Prop :=
  ∀ e ∈ exchanges, ∀ x y z s, (lo32 (s.reg z)).toNat % 8 = 0 →
    s.allowedRange .read (lo32 (s.reg z)) 8 = true → s.allowedRange .write (lo32 (s.reg z)) 8 = true →
    Done (e.1 x y z) s
      ((s.poke (lo32 (s.reg z)) (wordBytes (e.2 (s.reg x) (wordAt s (lo32 (s.reg z)))))).setReg x
        (wordAt s (lo32 (s.reg z))))

/-- COPYB and COPYB.CONST complete: the destination takes the source's bytes as they were, or the constant's over and
over; a length of zero or less moves nothing; only the named registers hold any value (R245, R246, D25, U7). -/
def Obligations.StringCopiesComplete : Prop :=
  ∀ (x y z : Reg) (s : State),
    let n := (s.reg z).toInt.toNat
    let d := lo32 (s.reg x)
    s.allowedRange .write d n = true →
    ((s.reg z).toInt ≤ 2 ^ 31 - 1 → s.allowedRange .read (lo32 (s.reg y)) n = true →
      ∃ t, exec (.copyb x y z) s = .next t ∧
        t = { s with regs := t.regs, mem := writeBytes s.mem d (readBytes s.mem (lo32 (s.reg y)) n),
                     pc := s.nextPc (.copyb x y z) } ∧ RegsBut [x, y, z] s t) ∧
    (∃ (t : State) (bs : List Byte), exec (.copybConst x y z) s = .next t ∧ bs.length = n ∧
        (∀ k, k < n → bs[k]? = some ((s.reg y).extractLsb' (8 * (7 - k % 8)) 8)) ∧
        t = { s with regs := t.regs, mem := writeBytes s.mem d bs, pc := s.nextPc (.copybConst x y z) } ∧
        RegsBut [x, z] s t)

/-! ### Integer arithmetic -/

/-- The signed operations complete: the destination takes the low 64 bits of the exact result, the carry is cleared
where the rule says so and else kept, and a result out of range records an integer overflow; with its handler enabled the
exception is taken with the result in place (R261, R263, R264, R275, R280, R290, R291, R300, R301). The message's two result
words are zero but for MUL: there R724, which the model takes at reset, puts product bits 64 to 127 in the low word, and R275
the wrapped product there and those bits in the high word; a parameter tells which, the model's reading
(notes/assumptions/47.md). -/
def Obligations.SignedArithmetic : Prop :=
  ∀ e ∈ signedOps, ∀ o s b, s.lastVal .sign e.width o = some b →
    let r := e.exact (s.reg o.a).toInt b.toInt (carry s)
    let t := s.setReg o.x (BitVec.ofInt 64 r)
    let t' := if e.clears then t.setCi false else t
    (InRange r → Done (e.ctor o) s t') ∧
    let top := BitVec.ofInt 64 (r / 2 ^ 64)
    let words : Word × Word := if e.product = false then (0, 0) else if s.params.mulHighInLow then (0, top)
      else (top, BitVec.ofInt 64 r)
    (¬ InRange r → s.excEnabled .intOverflow = false → Done (e.ctor o) s (t'.setOccurred .intOverflow)) ∧
    (¬ InRange r → s.excEnabled .intOverflow = true →
      exec (e.ctor o) s = raise (e.ctor o) { code := .intOverflow, high := words.1, low := words.2 } t')

/-- ADDUC, SUBUC and SUBUCR complete: unsigned arithmetic modulo 2^64, the carry set to the carry out or the borrow, no
overflow. ADDI adds the nibble to Rw, SUBI subtracts the nibble and one more; the carry is not used and is cleared; their
overflow is recorded, or with its handler enabled taken with the result in place and the message's operand and result words zero
(R263, R265, R266, R292, R293, R295, R724). -/
def Obligations.UnsignedAndImmediateArithmetic : Prop :=
  (∀ (o : GOp) (s : State) (b : Word), s.lastVal .sign 8 o = some b →
     (let n := (s.reg o.a).toNat + b.toNat + carry s
      Done (.adduc64 o) s ((s.setReg o.x (BitVec.ofNat 64 n)).setCi (decide (2 ^ 64 ≤ n)))) ∧
     (let n : Int := (s.reg o.a).toNat - b.toNat - carry s
      Done (.subuc64 o) s ((s.setReg o.x (BitVec.ofInt 64 n)).setCi (decide (n < 0)))) ∧
     (let n : Int := b.toNat - (s.reg o.a).toNat - carry s
      Done (.subucr64 o) s ((s.setReg o.x (BitVec.ofInt 64 n)).setCi (decide (n < 0))))) ∧
  (∀ (w k : Nib) (s : State),
     (let r := (s.reg w).toInt + k.toNat
      let t := (s.setReg w (BitVec.ofInt 64 r)).setCi false
      (InRange r → Done (.addi64 (.m0 w k)) s t) ∧
      (¬ InRange r → s.excEnabled .intOverflow = false → Done (.addi64 (.m0 w k)) s (t.setOccurred .intOverflow)) ∧
      (¬ InRange r → s.excEnabled .intOverflow = true →
        exec (.addi64 (.m0 w k)) s = raise (.addi64 (.m0 w k)) { code := .intOverflow } t)) ∧
     (let r := (s.reg w).toInt - k.toNat - 1
      let t := (s.setReg w (BitVec.ofInt 64 r)).setCi false
      (InRange r → Done (.subi64 (.m1 w k)) s t) ∧
      (¬ InRange r → s.excEnabled .intOverflow = false → Done (.subi64 (.m1 w k)) s (t.setOccurred .intOverflow)) ∧
      (¬ InRange r → s.excEnabled .intOverflow = true →
        exec (.subi64 (.m1 w k)) s = raise (.subi64 (.m1 w k)) { code := .intOverflow } t)))

/-- DIV, DIVR, REM and REMR complete: the quotient rounded toward zero or its remainder; the one quotient out of range
is an integer overflow, recorded or with its handler enabled taken, the wrapped quotient in place; a zero divisor is recorded or
taken and leaves the destination; the messages' operand and result words are zero (R724, R728). MUL.128 and MULU.128
complete: Rx and its successor take the high and the low word of the exact product (R262, R270, R271, R276, R277, R283,
R284). -/
def Obligations.ProductsAndQuotients : Prop :=
  (∀ e ∈ divisions, ∀ o s b, s.lastVal .sign e.2.1 o = some b →
     let p := if e.2.2.1 then b else s.reg o.a
     let q := if e.2.2.1 then s.reg o.a else b
     (q ≠ 0 → e.2.2.2 = true → Done (e.1 o) s (s.setReg o.x (BitVec.ofInt 64 (p.toInt.tmod q.toInt)))) ∧
     (q ≠ 0 → e.2.2.2 = false → InRange (p.toInt.tdiv q.toInt) →
       Done (e.1 o) s (s.setReg o.x (BitVec.ofInt 64 (p.toInt.tdiv q.toInt)))) ∧
     (q ≠ 0 → e.2.2.2 = false → ¬ InRange (p.toInt.tdiv q.toInt) → s.excEnabled .intOverflow = false →
       Done (e.1 o) s ((s.setReg o.x (BitVec.ofInt 64 (p.toInt.tdiv q.toInt))).setOccurred .intOverflow)) ∧
     (q ≠ 0 → e.2.2.2 = false → ¬ InRange (p.toInt.tdiv q.toInt) → s.excEnabled .intOverflow = true →
       exec (e.1 o) s =
         raise (e.1 o) { code := .intOverflow } (s.setReg o.x (BitVec.ofInt 64 (p.toInt.tdiv q.toInt)))) ∧
     (q = 0 → s.excEnabled .intDivZero = false → Done (e.1 o) s (s.setOccurred .intDivZero)) ∧
     (q = 0 → s.excEnabled .intDivZero = true → exec (e.1 o) s = raise (e.1 o) { code := .intDivZero } s)) ∧
  (∀ e ∈ wideProducts, ∀ x y z s, x.toNat < 14 →
     let p := e.2 (s.reg y) (s.reg z)
     Done (e.1 x y z) s
       ((s.setReg x (BitVec.ofInt 64 (p / 2 ^ 64))).setReg (x + 1) (BitVec.ofInt 64 p)))

/-! ### Floating point -/

/-- Every floating-point arithmetic instruction and every conversion to a floating-point format completes when the five
handlers are disabled and the operands can be read: it changes its destination, floating-point occurred bits and the pc,
nothing else (R320 to R350, R480 to R499). -/
def Obligations.FloatInstructionsComplete : Prop :=
  (∀ s : State, (∀ c ∈ [ExcCode.fpOverflow, .fpUnderflow, .fpDivZero, .fpInvalid, .fpInexact], s.excEnabled c = false) →
     (∀ e ∈ floatOps, ∀ o b, s.lastVal .zero e.2.1.bytes o = some b → ∃ t, exec (e.1 o) s = .next t ∧
       OnlyCpu s t ∧ RegsBut [o.x] s t ∧ PswBut fpBits s t ∧ t.pc = s.nextPc (e.1 o)) ∧
     (∀ e ∈ floatPairOps, ∀ x y z, x.toNat < 14 → y ≠ 15 → z ≠ 15 → ∃ t, exec (e.1 x y z) s = .next t ∧
       OnlyCpu s t ∧ RegsBut [x, x + 1] s t ∧ PswBut fpBits s t ∧ t.pc = s.nextPc (e.1 x y z)) ∧
     (∀ e ∈ remainders, ∀ x y z, (e.2 = .extended → z.toNat < 14 ∧ y ≠ 15) → ∃ t, exec (e.1 x y z) s = .next t ∧
       OnlyCpu s t ∧ RegsBut (if e.2 = .extended then [x, z, z + 1] else [x, z]) s t ∧ PswBut fpBits s t ∧
       t.pc = s.nextPc (e.1 x y z))) ∧
  (∀ s : State, (∀ c ∈ [ExcCode.fpOverflow, .fpUnderflow, .fpDivZero, .fpInvalid, .fpInexact], s.excEnabled c = false) →
     (∀ e ∈ conversions, ∀ o b, s.lastVal .zero e.2.1 o = some b → (e.2.2 = .extended → o.x.toNat < 14) →
       ∃ t, exec (e.1 o) s = .next t ∧ OnlyCpu s t ∧
         RegsBut (if e.2.2 = .extended then [o.x, o.x + 1] else [o.x]) s t ∧ PswBut fpBits s t ∧
         t.pc = s.nextPc (e.1 o)) ∧
     (∀ e ∈ pairConversions, ∀ x y z, (e.2.1 = true → z ≠ 15) → (e.2.2 = .extended → x.toNat < 14) →
       ∃ t, exec (e.1 x y z) s = .next t ∧ OnlyCpu s t ∧
         RegsBut (if e.2.2 = .extended then [x, x + 1] else [x]) s t ∧ PswBut fpBits s t ∧
         t.pc = s.nextPc (e.1 x y z)))

/-- Results delivered exactly, without an exception. The arithmetic of two finite operands whose exact result is a normal
number of the format (R322, R330 to R335, R340, R341, R345 to R347); a finite operand added to a zero, denormalized or not, and
the sign of a zero sum of magnitudes (R332). A quiet NaN operand, A's first, where neither signals (R321, D31). The cells of the
result matrices that are a zero or an infinity (R332, R340, R345). The conversions of a finite datum or an integer to a format in
which it is a normal number or zero, of a signed zero, of an infinity (R481, R486, R488, R489, R491 to R495, R497), and of a quiet
NaN, its fraction widened by zeros or cut off, the canonical one's if nothing is left, an extended one with its integer bit (R483,
D39). FINP delivers the number rounded to an integer by RMODE with its sign, and is inexact exactly if that is another number (R498,
D40). FREM of two finite operands, the divisor not zero, gives the dividend less the quotient rounded to nearest even times the
divisor, a zero with the dividend's sign, and the quotient's low 64 bits; a quotient of zero, or a finite dividend by an infinity,
changes nothing; a quiet NaN goes to Rz alone (R350, D35). That of two quiet NaNs FREM delivers the divisor's is the model's
reading (notes/assumptions/22.md, DEDUCED): D31 delivers the first source, and no rule says that FREM's is Ry. -/
def Obligations.ExactResultsDelivered : Prop :=
  (∀ s i op f r a b, Computes s i op f r a b →
    let x := classify f a
    let y := classify f b
    (∀ p q, ratOf x = some p → ratOf y = some q →
      (Normal f (op.exact p q) ∨ (op ∈ sums ∧ (p = 0 ∨ q = 0) ∧ op.exact p q ≠ 0) →
        Delivered i f r s s fun d => ratOf (classify f d) = some (op.exact p q)) ∧
      (op ∈ sums → p ≠ 0 → op.exact p q = 0 →
        Delivered i f r s s fun d => classify f d = .zero (decide (s.rmode = .minus)))) ∧
    (∀ v, op.cell s.rmode x y = some v → Delivered i f r s s fun d => classify f d = v) ∧
    (x ≠ .undef → y ≠ .undef → x.isSignaling = false → y.isSignaling = false →
      (x.isNan = true → Done i s (writeDatum f r (cleanBits f a) s)) ∧
      (x.isNan = false → y.isNan = true → Done i s (writeDatum f r (cleanBits f b) s)))) ∧
  (∀ s i src b f r, Converts s i src b f r →
    (∀ p, ratOf (classify src b) = some p → Normal f p → Delivered i f r s s fun d => ratOf (classify f d) = some p) ∧
    (∀ g, classify src b = .zero g → Delivered i f r s s fun d => classify f d = .zero g) ∧
    (∀ g, classify src b = .inf g → Delivered i f r s s fun d => classify f d = .inf g) ∧
    (∀ g frac, classify src b = .nan true g frac →
      let kept := frac * 2 ^ f.fracBits / 2 ^ src.fracBits
      Delivered i f r s s fun d => (f = .extended → d.getLsbD 63 = true) ∧
        (kept ≠ 0 → classify f d = .nan true g kept) ∧
        (kept = 0 → ∃ k, classify f (canonicalNan f) = .nan true false k ∧ classify f d = .nan true g k))) ∧
  (∀ s i n f r, FromInteger s i n f r →
    (Normal f n → Delivered i f r s s fun d => ratOf (classify f d) = some (n : Rat)) ∧
    (n = 0 → Delivered i f r s s fun d => classify f d = .zero false)) ∧
  (∀ s i b f r p, TakesPart s i b f r → ratOf (classify f b) = some p →
    let n := roundRat s.rmode p
    let result := fun d => ratOf (classify f d) = some (n : Rat) ∧
      ∀ g, (classify f b = .zero g ∨ ∃ m e, classify f b = .fin g m e) → n = 0 → classify f d = .zero g
    ((n : Rat) = p → Delivered i f r s s result) ∧
    ((n : Rat) ≠ p → s.excEnabled .fpInexact = false → Delivered i f r s (s.setOccurred .fpInexact) result)) ∧
  (∀ s i f x z v w, Divides s i f x z v w →
    (∀ p q, ratOf (classify f w) = some p → ratOf (classify f v) = some q → q ≠ 0 →
      let n := roundRat .nearest (p / q)
      (n = 0 → Done i s s) ∧
      (n ≠ 0 → Delivered i f z s (s.setReg x (BitVec.ofInt 64 n)) fun d =>
        ratOf (classify f d) = some (p - n * q) ∧ (p = n * q → classify f d = .zero (decide (p < 0))))) ∧
    (∀ p g, ratOf (classify f w) = some p → classify f v = .inf g → Done i s s) ∧
    (classify f v ≠ .undef → classify f w ≠ .undef → (classify f v).isSignaling = false →
      (classify f w).isSignaling = false →
      ((classify f v).isNan = true → Done i s (writeDatum f z (cleanBits f v) s)) ∧
      ((classify f v).isNan = false → (classify f w).isNan = true → Done i s (writeDatum f z (cleanBits f w) s))))

/-- The rounding of a magnitude to a coarser unit (R322): to nearest the error is at most half a unit and a tie goes to
the even multiple; to zero it is cut off; to plus and minus infinity it is the next multiple in that direction; and
information is lost exactly when the magnitude is no multiple. -/
def Obligations.RoundingModes : Prop :=
  ∀ (neg : Bool) (m d : Nat) (e : Int), 0 < d →
    let r := fun mode => (roundAt mode neg m e (e + d)).1
    (2 * r .nearest * 2 ^ d ≤ 2 * m + 2 ^ d ∧ 2 * m ≤ 2 * r .nearest * 2 ^ d + 2 ^ d) ∧
    (2 * (m % 2 ^ d) = 2 ^ d → r .nearest % 2 = 0) ∧
    r .zero = m / 2 ^ d ∧
    r .plus = (if neg then m / 2 ^ d else (m + 2 ^ d - 1) / 2 ^ d) ∧
    r .minus = (if neg then (m + 2 ^ d - 1) / 2 ^ d else m / 2 ^ d) ∧
    ∀ mode, (roundAt mode neg m e (e + d)).2 = decide (m % 2 ^ d ≠ 0)

/-- The floating-point exceptions. Invalid operations: a signaling NaN in the arithmetic, the conversions to a floating-point
format, FREM or FINP; an invalid cell of a result matrix; FREM of an infinity or by zero; FINP of an infinity or any NaN: the
canonical quiet NaN (of FREM to Rz) and bit 27, or the handler (R117, R321, R323, R332, R340, R345, R350, R481, R483, R498, D35).
Division of a finite number by zero: the signed infinity and bit 25, or taken (R324). For the arithmetic of two finite operands not
zero and for the conversions of a number: an overflow, by rounding alone too, is taken with the scaled result; else infinity or the
largest number by the rounding mode, bits 21 and 29 (R325, R326). A tiny result is taken with the scaled result; else with FZ a signed
zero, bits 23 and 29, without it rounded at the denormalized precision, with both bits only if information was lost (R327, D33). A
result in range that the format does not hold is rounded, with bit 29 or taken (R326); so FINP's. Where overflow or the loss of a
tiny result has its handler disabled and inexact's is enabled, that is taken (R328); the datum of its message after an overflow or
a flush is the model's (notes/assumptions/22.md) and not stated. A taken exception leaves the destination (D32). A scaled result
that the format does not hold is free (notes/assumptions/23.md). FSQR, which has an opcode only by a parameter, of a single or
double operand: a negative one is invalid, a zero and the positive infinity give themselves, a square its root (R355, D36). That
the last operand is the source is the model's choice (notes/assumptions/34.md). -/
def Obligations.FloatExceptions : Prop :=
  (∀ s i op f r a b, Computes s i op f r a b →
    let x := classify f a
    let y := classify f b
    (x ≠ .undef → y ≠ .undef → x.isSignaling = true ∨ y.isSignaling = true ∨ op.invalid x y → Invalid i f r s) ∧
    (∀ neg m k zneg, op = .div ∨ op = .divr → op.operands x y = (.fin neg m k, .zero zneg) →
      (s.excEnabled .fpDivZero = false →
        Delivered i f r s (s.setOccurred .fpDivZero) fun d => classify f d = .inf (neg ^^ zneg)) ∧
      (s.excEnabled .fpDivZero = true → exec i s = raise i { code := .fpDivZero } s))) ∧
  (∀ s i src b f r, Converts s i src b f r → (classify src b).isSignaling = true → Invalid i f r s) ∧
  (∀ s i b f r, TakesPart s i b f r →
    ((classify f b).isNan = true ∨ (∃ g, classify f b = .inf g) → Invalid i f r s) ∧
    (∀ p, ratOf (classify f b) = some p → (roundRat s.rmode p : Rat) ≠ p → s.excEnabled .fpInexact = true →
      ∃ d : FBits, exec i s = raise i { code := .fpInexact, high := FBits.hi d, low := FBits.lo d } s ∧
        Holds f d (roundRat s.rmode p))) ∧
  (∀ s i f x z v w, Divides s i f x z v w → classify f v ≠ .undef → classify f w ≠ .undef →
    ((classify f v).isSignaling = true ∨ (classify f w).isSignaling = true → Invalid i f z s) ∧
    ((classify f v).isNan = false → (classify f w).isNan = false →
      (∃ g, classify f v = .zero g ∨ classify f w = .inf g) → Invalid i f z s)) ∧
  (∀ (i : Instr) (f : Fmt) (r : Reg) (s : State) (c : Rat),
    ((∃ op a b p q, Computes s i op f r a b ∧ ratOf (classify f a) = some p ∧ ratOf (classify f b) = some q ∧ p ≠ 0 ∧
        q ≠ 0 ∧ c = op.exact p q) ∨
      (∃ src b, Converts s i src b f r ∧ ratOf (classify src b) = some c) ∨ (∃ n : Int, FromInteger s i n f r ∧ c = n)) →
    let taken := fun (t : State) (code : ExcCode) (P : FBits → Prop) =>
      ∃ d : FBits, exec i s = raise i { code := code, high := FBits.hi d, low := FBits.lo d } t ∧ P d
    let rounded := fun u : Int => (roundRat s.rmode (c / 2 ^ u) : Rat) * 2 ^ u
    let scaled := fun (k : Int) (d : FBits) => ∀ u : Int, 2 ^ (u + f.fracBits) ≤ |c| → |c| < 2 ^ (u + f.fracBits + 1) →
      Normal f (rounded u * 2 ^ k) → Holds f d (rounded u * 2 ^ k)
    (2 ^ (f.emax + 1) ≤ |rounded (f.emax - f.fracBits)| →
      (s.excEnabled .fpOverflow = true → taken (s.setOccurred .fpInexact) .fpOverflow (scaled (-f.scale))) ∧
      (s.excEnabled .fpOverflow = false → s.excEnabled .fpInexact = true →
        taken (s.setOccurred .fpOverflow) .fpInexact fun _ => True) ∧
      (s.excEnabled .fpOverflow = false → s.excEnabled .fpInexact = false →
        Delivered i f r s ((s.setOccurred .fpOverflow).setOccurred .fpInexact) fun d =>
          if s.rmode = .nearest ∨ (s.rmode = .plus ∧ 0 < c) ∨ (s.rmode = .minus ∧ c < 0)
          then classify f d = .inf (decide (c < 0))
          else ratOf (classify f d) =
            some ((if c < 0 then -1 else 1) * ((2 : Rat) ^ f.prec - 1) * 2 ^ (f.emax - f.fracBits)))) ∧
    (0 < |c| → |c| < 2 ^ f.emin →
      let v := rounded (f.emin - f.fracBits)
      (s.excEnabled .fpUnderflow = true → ∀ u : Int, 2 ^ (u + f.fracBits) ≤ |c| → |c| < 2 ^ (u + f.fracBits + 1) →
        taken (if rounded u = c then s else s.setOccurred .fpInexact) .fpUnderflow (scaled f.scale)) ∧
      (s.excEnabled .fpUnderflow = false →
        (s.pswBit 11 = true →
          (s.excEnabled .fpInexact = false →
            Delivered i f r s ((s.setOccurred .fpUnderflow).setOccurred .fpInexact) fun d =>
              classify f d = .zero (decide (c < 0))) ∧
          (s.excEnabled .fpInexact = true → taken (s.setOccurred .fpUnderflow) .fpInexact fun _ => True)) ∧
        (s.pswBit 11 = false →
          (v = c → Delivered i f r s s fun d => ratOf (classify f d) = some c) ∧
          (v ≠ c → s.excEnabled .fpInexact = false →
            Delivered i f r s ((s.setOccurred .fpUnderflow).setOccurred .fpInexact) fun d =>
              ratOf (classify f d) = some v ∧ (v = 0 → classify f d = .zero (decide (c < 0)))) ∧
          (v ≠ c → s.excEnabled .fpInexact = true →
            taken (s.setOccurred .fpUnderflow) .fpInexact fun d => Holds f d v)))) ∧
    (∀ u : Int, f.emin ≤ u + f.fracBits → u + f.fracBits ≤ f.emax → 2 ^ (u + f.fracBits) ≤ |c| →
      |c| < 2 ^ (u + f.fracBits + 1) → rounded u ≠ c → |rounded u| < 2 ^ (f.emax + 1) →
      (s.excEnabled .fpInexact = true → taken s .fpInexact fun d => Holds f d (rounded u)) ∧
      (s.excEnabled .fpInexact = false →
        Delivered i f r s (s.setOccurred .fpInexact) fun d => ratOf (classify f d) = some (rounded u)))) ∧
  (∀ (f : Fmt) (o : GOp) (bytes : List Byte) (s : State) (b : Word), f ≠ .extended → s.lastVal .zero f.bytes o = some b →
    let v := classify f (wordDatum f b)
    let gives := fun (d : FBits) (t : State) =>
      execFsqr (.general f o) bytes s = .next ((t.setReg o.x (FBits.lo d)).setPc (s.pc + BitVec.ofNat 32 bytes.length))
    ((v = .inf true ∨ ∃ m e, v = .fin true m e) →
      (s.excEnabled .fpInvalid = false → gives (canonicalNan f) (s.setOccurred .fpInvalid)) ∧
      (s.excEnabled .fpInvalid = true → execFsqr (.general f o) bytes s =
        raiseAt bytes s.pc (s.pc + BitVec.ofNat 32 bytes.length) { code := .fpInvalid } s)) ∧
    (∀ neg, v = .zero neg → ∃ d, gives d s ∧ classify f d = .zero neg) ∧
    (v = .inf false → ∃ d, gives d s ∧ classify f d = .inf false) ∧
    (∀ p, 0 < p → ratOf v = some (p * p) → Normal f p → ∃ d, gives d s ∧ Holds f d p))

/-! ### Conversion -/

/-- The conversions to integer complete: a finite operand is truncated toward zero; one out of range is an
integer overflow, recorded, or with its handler enabled taken with the low 64 bits in Rx; an infinity or a NaN is an invalid
operation, recorded with any value in Rx, or taken with Rx unchanged (R481, R482, R487, R490, R496, R724, R729, D32, D41, U15). -/
def Obligations.ConversionsToInteger : Prop :=
  ∀ (i : Instr) (x : Reg) (f : Fmt) (b : FBits) (s : State),
    ((∃ o w, i = .cvtSi o ∧ x = o.x ∧ f = .single ∧ s.lastVal .zero 4 o = some w ∧ b = wordDatum .single w) ∨
     (∃ o w, i = .cvtDi o ∧ x = o.x ∧ f = .double ∧ s.lastVal .zero 8 o = some w ∧ b = wordDatum .double w) ∨
     (∃ y z, i = .cvtEi x y z ∧ f = .extended ∧ z ≠ 15 ∧ b = s.pair z)) →
    (∀ p n, ratOf (classify f b) = some p → n = (if 0 ≤ p then ⌊p⌋ else ⌈p⌉) →
      (InRange n → Done i s (s.setReg x (BitVec.ofInt 64 n))) ∧
      (¬ InRange n → s.excEnabled .intOverflow = false →
        Done i s ((s.setReg x (BitVec.ofInt 64 n)).setOccurred .intOverflow)) ∧
      (¬ InRange n → s.excEnabled .intOverflow = true →
        exec i s = raise i { code := .intOverflow } (s.setReg x (BitVec.ofInt 64 n)))) ∧
    ((∃ g, classify f b = .inf g) ∨ (classify f b).isNan = true →
      (s.excEnabled .fpInvalid = false → ∃ v, Done i s ((s.setReg x v).setOccurred .fpInvalid)) ∧
      (s.excEnabled .fpInvalid = true → exec i s = raise i { code := .fpInvalid } s))

/-- CVT.IA and CVT.AI complete: CVT.IA gives 0 to 99,999,999 in ASCII display format, CVT.AI the value of any numeric string, a
byte 00 counting as the digit 0; so CVT.AI takes back what CVT.IA gave (R370, R371, R484, R485); else any value (U11, U12). -/
def Obligations.DecimalConversions : Prop :=
  ∀ (x y z : Reg) (s : State),
    (∃ v, Done (.cvtIa x y z) s (s.setReg x v)) ∧ (∃ v, Done (.cvtAi x y z) s (s.setReg x v)) ∧
    (∀ n, n < 10 ^ 8 → s.reg z = BitVec.ofNat 64 n →
      NumericString (toAscii n) n ∧ Done (.cvtIa x y z) s (s.setReg x (toAscii n))) ∧
    (∀ n, NumericString (s.reg z) n → Done (.cvtAi x y z) s (s.setReg x (BitVec.ofNat 64 n)))

/-! ### ASCII arithmetic -/

/-- ASCII.ADD, ASCII.ADDC, ASCII.SUBC and ASCII.SUB complete. On numeric strings, each byte 00 or 30 to 39: decimal addition and subtraction of eight
digits with the decimal carry, the sum, the difference modulo 10^8, or the magnitude and the sign; of the one magnitude of
nine digits, 10^8, which R374 does not state, any eight digits in ASCII display format (notes/assumptions/38.md). On operands that are no
numeric strings: no exception, and only the result registers and the decimal carry hold any value (R370 to R375, U11). -/
def Obligations.AsciiInstructions : Prop :=
  (∀ (x y z : Reg) (s : State) (p q : Nat), NumericString (s.reg y) p → NumericString (s.reg z) q →
     let c := if s.pswBit 10 then 1 else 0
     Done (.asciiAdd x y z) s ((s.setReg x (toAscii ((p + q + c) % 10 ^ 8))).setCd false) ∧
     Done (.asciiAddc x y z) s ((s.setReg x (toAscii ((p + q + c) % 10 ^ 8))).setCd (decide (10 ^ 8 ≤ p + q + c))) ∧
     Done (.asciiSubc x y z) s
       ((s.setReg x (toAscii ((p + 10 ^ 8 - q - c) % 10 ^ 8))).setCd (decide (p < q + c))) ∧
     ∀ (t : Reg) (u : Nib), t ≠ x →
       (q + c ≤ p → Done (.asciiSub x y z t u) s (((s.setReg x (toAscii (p - q - c))).setReg t 0).setCd false)) ∧
       (p < q + c → q + c - p < 10 ^ 8 →
         Done (.asciiSub x y z t u) s (((s.setReg x (toAscii (q + c - p))).setReg t 1).setCd false)) ∧
       (q + c - p = 10 ^ 8 →
         ∃ n, n < 10 ^ 8 ∧ Done (.asciiSub x y z t u) s (((s.setReg x (toAscii n)).setReg t 1).setCd false))) ∧
  (∀ (x y z t : Reg) (u : Nib) (s : State),
     (∃ v c, Done (.asciiAdd x y z) s ((s.setReg x v).setCd c)) ∧
     (∃ v c, Done (.asciiAddc x y z) s ((s.setReg x v).setCd c)) ∧
     (∃ v c, Done (.asciiSubc x y z) s ((s.setReg x v).setCd c)) ∧
     ∃ w, exec (.asciiSub x y z t u) s = .next w ∧ OnlyCpu s w ∧ RegsBut [x, t] s w ∧ PswBut [10] s w ∧
       w.pc = s.nextPc (.asciiSub x y z t u))

/-! ### Logical -/

/-- The logical instructions complete: AND, OR, XOR, the rotates and the shifts; NOT turns every bit over; FIND.FIRST gives
the number of the first bit that is set, or all ones; SET.BIT, CLEAR.BIT and TOGGLE.BIT change one bit of Rx, its number
modulo 64; SLL1, SLL2 and SLL3 give the operand's low-order bytes, zero-extended, times 2, 4 or 8 modulo 2^64 (R391 to
R398, R400 to R403, R410 to R414). -/
def Obligations.LogicalInstructions : Prop :=
  (∀ e ∈ dyadics, ∀ o s b, s.lastVal .zero 8 o = some b → Done (e.1 o) s (s.setReg o.x (e.2 (s.reg o.a) b))) ∧
  (∀ (o : GOp) (s : State) (b : Word), s.lastVal .zero 8 o = some b →
     Done (.logNot o) s (s.setReg o.x (BitVec.allOnes 64 ^^^ b)) ∧
     (b = 0 → Done (.findFirst o) s (s.setReg o.x (BitVec.allOnes 64))) ∧
     (∀ k, k < 64 → b.getMsbD k = true → (∀ j, j < k → b.getMsbD j = false) →
       Done (.findFirst o) s (s.setReg o.x (BitVec.ofNat 64 k)))) ∧
  (∀ e ∈ bitOps, ∀ x b s, ∃ v : Word, Done (e.1 x b) s (s.setReg x v) ∧
     ∀ j, j < 64 → v.getMsbD j = if j = b.toNat % 64 then e.2 ((s.reg x).getMsbD j) else (s.reg x).getMsbD j) ∧
  (∀ e ∈ shiftLoads, ∀ o s b, s.lastVal .zero e.2.1 o = some b →
     Done (e.1 o) s (s.setReg o.x (BitVec.ofNat 64 (b.toNat % 2 ^ (8 * e.2.1) * 2 ^ e.2.2))))

/-! ### Relational -/

/-- CMP.BR and CMPU.BR complete: to pc plus the signed 12-bit offset if the condition field selects the relation, else on.
CMP and CMPU complete: the set-register form places 1 or 0 in Rx; the generate-exception form does nothing if the condition
is false, and else records a software exception, or with its handler enabled raises it with the appendage's sub-code as source
operand 2 (R431 to R438, R726). -/
def Obligations.IntegerCompares : Prop :=
  (∀ e ∈ compareBranches, ∀ o a s q, s.lastVal e.2.1 e.2.2 o = some q →
     Acts (e.1 o a) o.x a true s s (selects a.ccf (wordRel e.2.1 (s.reg o.a) q))) ∧
  (∀ e ∈ compareTests, ∀ o a s q, s.lastVal e.2.1 e.2.2 o = some q →
     Acts (e.1 o a) o.x a false s s (selects a.ccf (wordRel e.2.1 (s.reg o.a) q)))

/-- The floating-point compares complete, in every form and on every operand but an undefined extended one: numbers by
value, infinities beyond every number, a NaN unordered; an invalid comparison (a signaling NaN, for FCMPX any NaN) with bit
26 off records bit 27, and the test holds exactly if the condition field has U; with bit 26 on it is taken and the action is not
performed; a software exception with its handler enabled is taken with the appendage's sub-code (R432, R433, R440 to R448,
R726). -/
def Obligations.FloatCompares : Prop :=
  (∀ e ∈ floatCompares, ∀ o a s b, s.lastVal .zero e.2.2.1.bytes o = some b →
     Compares (e.1 o a) o.x a e.2.2.2 e.2.1 s (classify e.2.2.1 (wordDatum e.2.2.1 (s.reg o.a)))
       (classify e.2.2.1 (wordDatum e.2.2.1 b))) ∧
  (∀ e ∈ pairCompares, ∀ x y z a s, y ≠ 15 → z ≠ 15 →
     Compares (e.1 x y z a) x a e.2.2 e.2.1 s (classify .extended (s.pair y)) (classify .extended (s.pair z)))

/-- The string compares complete: the first difference decides, bytes as unsigned numbers, equal strings and strings of no
length are equal, and bytes after the first difference need not be accessible; the named registers hold any value
afterwards (R450 to R452, D38, U14). That CMPB.TEST's result stands where Rx is Ry or Rz is the model's choice
(notes/assumptions/24.md). -/
def Obligations.StringCompares : Prop :=
  ∀ (x y z : Reg) (a : App) (s : State) (k : Nat) (r : Rel),
    let n := (s.reg z).toInt.toNat
    let p := fun j => s.byteAt (lo32 (s.reg x) + BitVec.ofNat 32 j)
    let relOf := fun q : Nat → Byte =>
      (k = n ∧ r = .equal ∨ k < n ∧ p k ≠ q k ∧ r = (if (p k).toNat < (q k).toNat then Rel.less else .greater)) ∧
        ∀ j, j < k → p j = q j
    let ends := fun (i : Instr) (l : List Reg) =>
      ∃ t, exec i s = .next t ∧ OnlyCpu s t ∧ t.psw = s.psw ∧ RegsBut l s t ∧
        t.pc = if selects a.ccf r then s.pc + a.act.signExtend 32 else s.nextPc i
    s.allowedRange .read (lo32 (s.reg x)) (min (k + 1) n) = true →
    (relOf (fun j => s.byteAt (lo32 (s.reg y) + BitVec.ofNat 32 j)) →
      s.allowedRange .read (lo32 (s.reg y)) (min (k + 1) n) = true →
      ends (.cmpbBr x y z a) [x, y, z] ∧
      ∃ t, exec (.cmpbTest x y z) s = .next t ∧ OnlyCpu s t ∧ t.psw = s.psw ∧ RegsBut [x, y, z] s t ∧
        t.pc = s.nextPc (.cmpbTest x y z) ∧
        t.reg x = (if r = .less then BitVec.allOnes 64 else if r = .equal then 0 else 1)) ∧
    (relOf (fun j => (s.reg y).extractLsb' (8 * (7 - j % 8)) 8) → ends (.cmpbBrConst x y z a) [x, z])

/-! ### Flow of control -/

/-- BR.ABS, BR.REL, BR.BACKWARD, BR.FORWARD: encodings and targets (R522 to R525). -/
def Obligations.UnconditionalBranches : Prop :=
  ∀ (p : Config.Params) (s : State),
    (∀ u d, encode p (.brAbs u d) = [0xE0, byteOf 0x7 (u.extractLsb' 8 4), u.setWidth 8] ++ beBytes 4 d.toNat ∧
      Goes (.brAbs u d) s s d) ∧
    (∀ u d, encode p (.brRel u d) = [0xE0, byteOf 0xF (u.extractLsb' 8 4), u.setWidth 8] ++ beBytes 4 d.toNat ∧
      Goes (.brRel u d) s s (s.pc + d)) ∧
    (∀ b, encode p (.brBackward b) = [0xA0, b] ∧ Goes (.brBackward b) s s (s.pc - b.setWidth 32)) ∧
    (∀ b, encode p (.brForward b) = [0x20, b] ∧ Goes (.brForward b) s s (s.pc + b.setWidth 32))

/-- The twelve long conditional branches: opcodes E01 to E06 and E09 to E0E, the whole of Rx as a signed integer against
zero, an absolute or a relative target (R526 to R537). -/
def Obligations.LongConditionalBranches : Prop :=
  ∀ (p : Config.Params) (x : Reg) (u : BitVec 8) (d : BitVec 32) (s : State),
    (∀ e ∈ absBranches, encode p (e.1 x u d) = [0xE0, byteOf e.2.1 x, u] ++ beBytes 4 d.toNat ∧
      (e.2.2 (s.reg x).toInt → Goes (e.1 x u d) s s d) ∧
      (¬ e.2.2 (s.reg x).toInt → Goes (e.1 x u d) s s (s.pc + 7))) ∧
    (∀ e ∈ relBranches, encode p (e.1 x u d) = [0xE0, byteOf e.2.1 x, u] ++ beBytes 4 d.toNat ∧
      (e.2.2 (s.reg x).toInt → Goes (e.1 x u d) s s (s.pc + d)) ∧
      (¬ e.2.2 (s.reg x).toInt → Goes (e.1 x u d) s s (s.pc + 7)))

/-- The twelve short conditional branches: opcodes B09 to B0E backward, 309 to 30E forward, by an unsigned 8-bit
displacement (R538 to R543, R560 to R565). -/
def Obligations.ShortConditionalBranches : Prop :=
  ∀ (p : Config.Params) (x : Reg) (b : BitVec 8) (s : State),
    (∀ e ∈ backBranches, encode p (e.1 x b) = [0xB0, byteOf e.2.1 x, b] ∧
      (e.2.2 (s.reg x).toInt → Goes (e.1 x b) s s (s.pc - b.setWidth 32)) ∧
      (¬ e.2.2 (s.reg x).toInt → Goes (e.1 x b) s s (s.pc + 3))) ∧
    (∀ e ∈ forwardBranches, encode p (e.1 x b) = [0x30, byteOf e.2.1 x, b] ∧
      (e.2.2 (s.reg x).toInt → Goes (e.1 x b) s s (s.pc + b.setWidth 32)) ∧
      (¬ e.2.2 (s.reg x).toInt → Goes (e.1 x b) s s (s.pc + 3)))

/-- Calls and returns: CALL places the return address at the stack pointer, EXIT adds to it and takes the address from
there, CALL.REG and BR.REG pass it in a register. EXCEPTION sets PSW bit 57 whatever the enable bit, and with bit 56 off
goes on; with it on, the exception is taken with Rx as source operand 1 and Rz as the high result word (R545, R546, R548,
R549, R555, R726). -/
def Obligations.CallsReturnsAndException : Prop :=
  (∀ s : State,
     (∀ u d, s.allowedRange .write (lo32 (s.reg 15)) 4 = true →
       Goes (.call u d) s (s.poke (lo32 (s.reg 15)) (beBytes 4 (s.pc + 7).toNat)) d) ∧
     (∀ x u d, Goes (.callReg x u d) s (s.setReg x (zext32 (s.pc + 7))) d) ∧
     (∀ x, Goes (.brReg x) s s (lo32 (s.reg x))) ∧
     (∀ u b, s.allowedRange .read (lo32 (s.reg 15 + b.setWidth 64)) 4 = true →
       Goes (.exit u b) s (s.setReg 15 (s.reg 15 + b.setWidth 64))
         (BitVec.ofNat 32 (beNat (readBytes s.mem (lo32 (s.reg 15 + b.setWidth 64)) 4))))) ∧
  (∀ (x y z : Reg) (s : State),
     exec (.exception x y z) s =
       raise (.exception x y z) { code := .software, src1 := s.reg x, high := s.reg z } s ∧
     (s.pswBit 56 = false → Done (.exception x y z) s (s.setPswBit 57 true)))

/-! ### Message system -/

/-- ENABLE.FUN, DISABLE.FUN, SET.FUN.INT.VECTOR, ATT.FUN.TO.CHAN, DEL.MSG and DEL.FUN complete on a defined funnel with
their effect and status 0, each under its conditions (R602, R606, R633, R635, R636, R644). A deleted funnel's ID is back on the
funnels' free list (R49, R606); that it is there at the head or at the tail, by a free value, is the model's choice
(notes/assumptions/28.md). That DEL.MSG finds and removes
a message on funnel 1 as on any other is the model's choice, where R53 is silent (notes/assumptions/48.md), and so is that
ATT.FUN.TO.CHAN leaves the order of activation (notes/assumptions/49.md). -/
def Obligations.FunnelInstructions : Prop :=
  ∀ (x y z : Reg) (s : State) (f : Nat) (e : Funnel), (s.reg y).toNat = f → 0 < f → f ≤ 255 → s.funnel f = some e →
    (s.funnelEnabled f = false →
      Status (.enableFun x y z) x 0 s { s with enabled := s.enabled ||| BitVec.twoPow 256 f }) ∧
    (s.funnelEnabled f = true → f ≠ 1 →
      Status (.disableFun x y z) x 0 s { s with enabled := s.enabled &&& ~~~BitVec.twoPow 256 f }) ∧
    (f ≠ 1 → Status (.setFunIntVector x y z) x 0 s
      ((s.setFunnel f { e with vector := lo32 (s.reg z) }).setReg z (zext32 e.vector))) ∧
    (∀ c : Chan, (s.reg z).toNat = c.val → c ≠ 0 → f ≠ 1 →
      Status (.attFunToChan x y z) x 0 s (s.setFunnel f { e with channel := c })) ∧
    (∀ m q, e.queue = m :: q → m.link = none → ∃ t, Status (.delMsg x y z) x 0 s t ∧
      t.funnel f = some { e with queue := q } ∧ (∀ g, g ≠ f → t.funnel g = s.funnel g) ∧
      t.funnels.active = (if q = [] then s.funnels.active.filter (· ≠ f) else s.funnels.active) ∧
      t = { s with funnels := { s.funnels with entries := t.funnels.entries, active := t.funnels.active } }) ∧
    (s.funnelEnabled f = false → e.queue = [] → s.tablesOk → ∃ t, Status (.delFun x y z) x 0 s t ∧
      FunnelGone s t f ∧ t = { s with funnels := t.funnels })

/-- The funnel instructions' refusals: 1 for a funnel that does not exist, 21 and 18 for one already as wanted, 17, 7 and
34 for funnel 1, 2 and 34 for a channel out of range and channel 0, 14 and 28 for DEL.MSG, 3 and 4 for DEL.FUN; nothing but
Rx and the pc changes (R587, R602, R606, R633, R635, R636, R644). That DEL.MSG's 14 and 28 are those of the queue on funnel 1
too is the model's choice, where R53 is silent (notes/assumptions/48.md). -/
def Obligations.FunnelRefusals : Prop :=
  ∀ (x y z : Reg) (s : State) (f : Nat), (s.reg y).toNat = f →
    (f = 0 ∨ 255 < f ∨ s.funnel f = none →
      Status (.enableFun x y z) x 1 s s ∧ Status (.disableFun x y z) x 1 s s ∧
      Status (.setFunIntVector x y z) x 1 s s ∧ Status (.attFunToChan x y z) x 1 s s ∧
      Status (.delMsg x y z) x 1 s s ∧ Status (.delFun x y z) x 1 s s) ∧
    (∀ e, 0 < f → f ≤ 255 → s.funnel f = some e →
      (s.funnelEnabled f = true → Status (.enableFun x y z) x 21 s s ∧ Status (.delFun x y z) x 3 s s) ∧
      (s.funnelEnabled f = false → f ≠ 1 → Status (.disableFun x y z) x 18 s s) ∧
      (f = 1 → Status (.disableFun x y z) x 17 s s ∧ Status (.setFunIntVector x y z) x 7 s s) ∧
      (15 < (s.reg z).toNat → Status (.attFunToChan x y z) x 2 s s) ∧
      ((s.reg z).toNat ≤ 15 → ((s.reg z).toNat = 0 ∨ f = 1) → Status (.attFunToChan x y z) x 34 s s) ∧
      (e.queue = [] → Status (.delMsg x y z) x 14 s s) ∧
      (∀ m q, e.queue = m :: q → m.link ≠ none → Status (.delMsg x y z) x 28 s s) ∧
      (s.funnelEnabled f = false → e.queue ≠ [] → Status (.delFun x y z) x 4 s s))

/-- CREATE.FUN completes with an unused ID on an allocated page, or for 0 with the head of the funnels' free list (U26): the
funnel is defined on channel 15 with the system handler's vector, empty and enabled, its ID off the free list and in Ry, then
status 0 in Rx. With 0
and no free ID the status is 8, a defined funnel is 10, an ID above 255 is 9, one on the unallocated page 50, and nothing but
the status and the pc changes (R601, D56). That the free list holds only IDs that can be is a premise. -/
def Obligations.CreateFunnel : Prop :=
  ∀ (x y z : Reg) (s : State) (f : Nat), (s.reg y).toNat = f →
    (∀ id, (0 < f ∧ id = f ∧ (f ≤ 127 ∨ (f ≤ 255 ∧ s.funnels.page2 = true)) ∧ s.funnel f = none) ∨
        (f = 0 ∧ s.funnels.nextFree = some id ∧ id ≤ 255) →
      ∃ t : State, Status (.createFun x y z) x 0 s (t.setReg y (BitVec.ofNat 64 id)) ∧
        t.funnel id = some { channel := 15, vector := s.params.sysHandlerPc, queue := [] } ∧ t.funnelEnabled id = true ∧
        (∀ g, g ≠ id → t.funnel g = s.funnel g ∧ t.funnelEnabled g = s.funnelEnabled g) ∧
        t.funnels.free = s.funnels.free.filter (· ≠ id) ∧ t.funnels.freeTail = s.funnels.freeTail.filter (· ≠ id) ∧
        t = { s with funnels := t.funnels, enabled := t.enabled }) ∧
    (f = 0 → s.funnels.nextFree = none → Status (.createFun x y z) x 8 s s) ∧
    (0 < f → f ≤ 127 ∨ (f ≤ 255 ∧ s.funnels.page2 = true) → s.funnel f ≠ none → Status (.createFun x y z) x 10 s s) ∧
    (255 < f → Status (.createFun x y z) x 9 s s) ∧
    (127 < f → f ≤ 255 → s.funnels.page2 = false → Status (.createFun x y z) x 50 s s)

/-- The set local priority function takes the requested priority or the highest active channel's number, whichever is lower.
DISABLE.CHAN.INT, ENABLE.CHAN.INT and SET.LOCAL.PRI complete: the old mask or priority in Ry; a mask with channel 0 is
status 15 and changes nothing; SET.LOCAL.PRI writes no status (R586, R640, R642, R643, R645). -/
def Obligations.ChannelInstructions : Prop :=
  (∀ (s : State) (p : Chan),
     (∃ h : Chan, (s.setLocalPriority p).lp = min p h ∧
       (∀ f e, (f, e) ∈ s.funnels.entries → e.queue ≠ [] → h ≤ e.channel) ∧
       ((∃ f e, (f, e) ∈ s.funnels.entries ∧ e.queue ≠ [] ∧ e.channel = h) ∨
         ((∀ f e, (f, e) ∈ s.funnels.entries → e.queue = []) ∧ h = 15)))) ∧
  (∀ (x y z u v : Reg) (s : State),
     (let m : BitVec 16 := (s.reg y).setWidth 16
      (m.getLsbD 15 = true → Status (.disableChanInt x y z) x 15 s s) ∧
      (m.getLsbD 15 = false → Status (.disableChanInt x y z) x 0 s
        ({ s with chanMask := s.chanMask &&& ~~~m }.setReg y (s.chanMask.setWidth 64))) ∧
      Status (.enableChanInt x y z) x 0 s
        ({ s with chanMask := s.chanMask ||| m }.setReg y (s.chanMask.setWidth 64))) ∧
     (∀ p : Chan, (s.reg y).toNat % 16 = p.val →
       Done (.setLocalPri x y z u v) s ((s.setLocalPriority p).setReg y (BitVec.ofNat 64 s.lp.val))))

/-- CREATE.LINK completes with an unused preferred ID whose page of the link table is or can be allocated, and with ID 0 while
the links' free list has an entry, at its head, or, that list being empty, while a page can be allocated, at its first ID: the
link is this process's own, directed into the block's funnel, with the block's rights but To Hardware, code and grail; the ID is
written back and off the free list. With ID 0 and no ID the status is 11, a page that cannot be allocated is 42, an ID above the
limit 32, a defined link 12, a funnel that does not exist 1, and funnel 1, for which R600 names no code, any of the codes that
Table 14-1 does not assign (U27; notes/assumptions/26.md); nothing changes then. DEL.LINK completes on a defined link: the link
is undefined again, its ID back on the free list; an owned link sends no notification and the status is 0; else, where the link asks for it, the
control information alone leaves on the link, with its code and funnel, type 08, this process and the number of bytes 0; the last of
the notification's statuses is 39, where R605 prints 139 (90_conflicts.md C32, notes/assumptions/27.md) (R44, R47, R577, R591, R600,
R605). Which page is allocated when, the status 42, and that a deleted ID goes to the head or the tail of the free list, by a
free value, are the model's choices (notes/assumptions/28.md). -/
def Obligations.LinksCreatedAndDeleted : Prop :=
  (∀ (x y z : Reg) (s : State) (fe : Funnel) (id : Nat),
     let pb := lo32 (s.reg y)
     let f := beNat (readBytes s.mem pb 1)
     let r := beNat (readBytes s.mem (pb + 1) 1)
     s.allowedRange .read pb 16 = true → s.allowedRange .write (pb + 2) 2 = true →
     s.funnel f = some fe → 1 < f → f ≤ 255 → LinkIdFor s (beNat (readBytes s.mem (pb + 2) 2)) id →
     ∃ (t : State) (e : Lte), Status (.createLink x y z) x 0 s t ∧ LinkDefined s t id e ∧
       e.toFunnel.toNat = f ∧ e.toProcess = s.processId ∧
       e.versionId = s.versionId ∧ (∀ k, k < 8 → e.rights.getLsbD k = if k = 0 then false else r.testBit k) ∧
       e.linkCode.toNat = beNat (readBytes s.mem (pb + 8) 2) ∧
       e.linkGrail.toNat = beNat (readBytes s.mem (pb + 10) 6) ∧
       t = { s with links := t.links, mem := writeBytes s.mem (pb + 2) (beBytes 2 id) }) ∧
  (∀ (x y z : Reg) (s : State),
     let pb := lo32 (s.reg y)
     let f := beNat (readBytes s.mem pb 1)
     s.allowedRange .read pb 4 = true →
     (f = 0 ∨ s.funnel f = none → Status (.createLink x y z) x 1 s s) ∧
     (f = 1 → s.funnel 1 ≠ none → ∃ n, Status (.createLink x y z) x n s s ∧
       (n ∈ [13, 16, 19, 20, 22, 24, 25, 26, 27, 33, 35, 44, 53] ∨ (57 ≤ n ∧ n ≤ 135) ∨
         n ∈ [137, 138, 144, 146, 148, 149, 150, 151])) ∧
     (1 < f → s.funnel f ≠ none → ∀ n, NoLinkIdFor s (beNat (readBytes s.mem (pb + 2) 2)) n →
       Status (.createLink x y z) x n s s)) ∧
  (∀ (x y z u v : Reg) (s : State) (e : Lte), s.tablesOk →
     let pb := lo32 (s.reg y)
     let id := beNat (readBytes s.mem (pb + 2) 2)
     s.allowedRange .read (pb + 2) 2 = true → 0 < id → id ≤ s.links.limit → s.link id = some e →
     ∃ (t : State) (n : Nat), Status (.delLink x y z u v) x n s t ∧ LinkGone s t id ∧
       (e.toProcess = s.processId ∨ e.rights.getLsbD 4 = false → n = 0 ∧ t.outputs = s.outputs) ∧
       (e.toProcess ≠ s.processId → e.rights.getLsbD 4 = true → n ∈ [0, 36, 47, 55, 39] ∧ ∃ m,
         t.outputs = s.outputs ++ [.send e m] ∧ m.data = [] ∧ m.link = none ∧ Labelled s e 0x08 m) ∧
       t = { s with links := t.links, outputs := t.outputs })

/-- SEND completes on a link to this process whose funnel is open: the status is 0 and the message stands at the tail of the
funnel's queue with the link's code, the funnel, type 00, this process and the length in its control information; where the
arrival is accepted the interrupt follows at the end of the instruction (R592, R703); where
the system's message buffers are used up nothing is sent and the status is 37, 38 or 39 (R55); that a limit counts this
process's own queued messages, and that a send to itself finds the shortage, where R592 delivers with status 0, is the model's
choice (notes/assumptions/32.md); on a link to another process the message leaves and the status is one of the transport's (R573, R576, R592, R610, R611, D57). -/
def Obligations.Send : Prop :=
  ∀ (x y z t v : Reg) (s : State) (e : Lte),
    let pb := lo32 (s.reg y)
    let n1 := (s.reg z).toInt
    let n2 := (s.reg v).toInt
    let d := readBytes s.mem (pb + 16) n1.toNat ++ readBytes s.mem (lo32 (s.reg t)) n2.toNat
    s.allowedRange .read (pb + 2) 2 = true → 0 ≤ n1 → 0 ≤ n2 → n1 + n2 ≤ 888 →
    s.allowedRange .read (pb + 16) n1.toNat = true → s.allowedRange .read (lo32 (s.reg t)) n2.toNat = true →
    s.lookup (beNat (readBytes s.mem (pb + 2) 2)) = .ok e →
    ∃ m : Message, m.data = d ∧ m.link = none ∧ Labelled s e 0 m ∧
      (∀ fe, e.toProcess = s.processId → e.versionId = s.versionId → s.openFunnel e.toFunnel.toNat = some fe →
        s.poolFull = true → ∃ n ∈ [37, 38, 39], Status (.send x y z t v) x n s s) ∧
      (∀ fe, e.toProcess = s.processId → e.versionId = s.versionId → s.openFunnel e.toFunnel.toNat = some fe →
        s.poolFull = false → Delivers (.send x y z t v) x 0 e.toFunnel.toNat fe m s s) ∧
      (e.toProcess ≠ s.processId → ∃ n ∈ [0, 36, 47, 37, 38, 39, 48, 52, 54, 55, 56],
        Status (.send x y z t v) x n s { s with outputs := s.outputs ++ [.send e m] })

/-- The link lookup's statuses in their order: 45 for link 0, 43 beyond the limit, 41 or 42 on a page of the link table that
is not allocated, 40 for an undefined link. R44 and R591 do not tell 41 and 42 apart: that the status is 41 where a page can be
allocated and 42 where none can is the model's choice (notes/assumptions/28.md). The refusals of the instructions that send on a
link, nothing but Rx and the pc changed: 46 for a negative length, 6 for more than 888 bytes, or 672 with a link (SEND,
COPY.LINK, PASS.LINK); the lookup's statuses (those three, DEL.LINK, SEND.TO.HARDWARE, SEND.SMALL.MSG, FORWARD.MSG,
EXCH.LINK.FORWARD), for the second link of COPY.LINK and PASS.LINK plus 100; 31 without the hardware right; on a link to this
process 36 for another version, 47 for a funnel that takes no message, 37 to 39 where the buffers are used up
(notes/assumptions/32.md), of which R631 lists only 39. The forwards besides: 1 for a funnel that does not exist, 14 for one
without messages, 23 without the right to forward, FORWARD.MSG 28 for a message with a link. SEND.SMALL.MSG and the forwards
where they are implemented (D14). What EXCH.LINK.FORWARD refuses of a message with a link is in RegisterSendsAndForwards (R44,
R55, R572, R573, R587, R591, R592, R605, R610 to R615, R630, R631). -/
def Obligations.SendRefusals : Prop :=
  (∀ (s : State) (id : Nat),
     (id = 0 → s.lookup id = .error 45) ∧
     (0 < id → (s.links.limit < id ∨ 65535 < id) → s.lookup id = .error 43) ∧
     (0 < id → id ≤ s.links.limit → id ≤ 65535 → s.link id = none →
       (id / 128 = 0 ∨ id / 128 ∈ s.links.pages → s.lookup id = .error 40) ∧
       (id / 128 ≠ 0 → id / 128 ∉ s.links.pages →
         (s.links.canAllocate = true → s.lookup id = .error 41) ∧
         (s.links.canAllocate = false → s.lookup id = .error 42))) ∧
     (∀ e, 0 < id → id ≤ s.links.limit → id ≤ 65535 → s.link id = some e → s.lookup id = .ok e)) ∧
  (∀ (x y z t v : Reg) (s : State),
     let pb := lo32 (s.reg y)
     let n1 := (s.reg z).toInt
     let n2 := (s.reg v).toInt
     let found := s.lookup (beNat (readBytes s.mem (pb + 2) 2))
     let second := s.lookup (beNat (readBytes s.mem (pb + 6) 2))
     let readable := s.allowedRange .read (pb + 16) n1.toNat = true ∧ s.allowedRange .read (lo32 (s.reg t)) n2.toNat = true
     s.allowedRange .read (pb + 2) 2 = true →
     (∀ n, found = .error n → Status (.delLink x y z t v) x n s s) ∧
     (n1 < 0 ∨ n2 < 0 → Status (.send x y z t v) x 46 s s) ∧
     (0 ≤ n1 → 0 ≤ n2 →
       (888 < n1 + n2 → Status (.send x y z t v) x 6 s s) ∧
       (n1 + n2 ≤ 888 → readable →
         (∀ n, found = .error n → Status (.send x y z t v) x n s s) ∧
         (∀ e, found = .ok e → TurnedAway (.send x y z t v) x [37, 38, 39] e s s))) ∧
     (s.allowedRange .read (pb + 6) 2 = true → ∀ p ∈ [(Instr.copyLink x y z t v, 2), (.passLink x y z t v, 3)],
       (n1 < 0 ∨ n2 < 0 → Status p.1 x 46 s s) ∧
       (0 ≤ n1 → 0 ≤ n2 →
         (672 < n1 + n2 → Status p.1 x 6 s s) ∧
         (n1 + n2 ≤ 672 → readable →
           (∀ n, found = .error n → Status p.1 x n s s) ∧
           (∀ e1, found = .ok e1 →
             (∀ n, second = .error n → Status p.1 x (n + 100) s s) ∧
             (∀ e2, second = .ok e2 → e2.rights.getLsbD p.2 = true → TurnedAway p.1 x [37, 38, 39] e1 s s)))))) ∧
  (∀ (x y z : Reg) (s : State),
     let found := s.lookup (s.reg y).toNat
     (∀ n, found = .error n → Status (.sendToHardware x y z) x n s s) ∧
     (∀ e, found = .ok e → e.rights.getLsbD 0 = false → Status (.sendToHardware x y z) x 31 s s) ∧
     (s.params.impl80E = true →
       (∀ n, found = .error n → Status (.sendSmallMsg x y z) x n s s) ∧
       (∀ e, found = .ok e → TurnedAway (.sendSmallMsg x y z) x [37, 38, 39] e s s))) ∧
  (∀ (x y z : Reg) (s : State),
     let pb := lo32 (s.reg y)
     let f := beNat (readBytes s.mem pb 1)
     let found := s.lookup (beNat (readBytes s.mem (pb + 2) 2))
     s.allowedRange .read pb 4 = true →
     ∀ p ∈ [(Instr.forwardMsg x y z, s.params.impl80A, [37, 38, 39]), (.exchLinkForward x y z, s.params.impl809, [39])],
       p.2.1 = true →
       (f = 0 ∨ s.funnel f = none → Status p.1 x 1 s s) ∧
       (∀ fe, 0 < f → s.funnel f = some fe →
         (fe.queue = [] → Status p.1 x 14 s s) ∧
         (∀ m, fe.queue.head? = some m →
           (m.link ≠ none → p.1 = .forwardMsg x y z → Status p.1 x 28 s s) ∧
           (m.link = none ∨ p.1 = .exchLinkForward x y z →
             (∀ n, found = .error n → Status p.1 x n s s) ∧
             (∀ e, found = .ok e → e.rights.getLsbD 1 = false → Status p.1 x 23 s s) ∧
             (∀ e, found = .ok e → e.rights.getLsbD 1 = true → m.link = none → TurnedAway p.1 x p.2.2 e s s)))))

/-- COPY.LINK and PASS.LINK complete on a link to another process: the message leaves with the data of the two blocks, the
second link and type 01; a failure of the transport ends it; else, where the link asks for it and is not this process's own, a
notification of type 04 or 02 from this process, its two bytes the receiver's process ID, follows it on that link, with one of its
statuses (R577, R614, R615, D57; notes/assumptions/27.md); PASS.LINK gives the link up where the message was sent, its ID back
on the free list, at the head or the tail by the model's choice (notes/assumptions/28.md). On a link to this process
whose funnel is open, with buffers free, the notification and the loss of the link are the same, the message stands at the tail of
the funnel's queue, and where the arrival is accepted the interrupt follows at the end of the instruction (R592, R703). Without
the right the status is 51 and nothing changes. -/
def Obligations.ShareLinks : Prop :=
  ∀ (x y z t v : Reg) (s : State) (e1 e2 : Lte), s.tablesOk →
    let pb := lo32 (s.reg y)
    let n1 := (s.reg z).toInt
    let n2 := (s.reg v).toInt
    let id2 := beNat (readBytes s.mem (pb + 6) 2)
    let d := readBytes s.mem (pb + 16) n1.toNat ++ readBytes s.mem (lo32 (s.reg t)) n2.toNat
    let other := e2.toProcess ≠ s.processId
    s.allowedRange .read (pb + 2) 6 = true → 0 ≤ n1 → 0 ≤ n2 → n1 + n2 ≤ 672 →
    s.allowedRange .read (pb + 16) n1.toNat = true → s.allowedRange .read (lo32 (s.reg t)) n2.toNat = true →
    s.lookup (beNat (readBytes s.mem (pb + 2) 2)) = .ok e1 → s.lookup id2 = .ok e2 →
    (e2.rights.getLsbD 2 = true → e1.toProcess ≠ s.processId → ∃ (n : Nat) (l : List OutEvent),
      Shares s e1 e2 d (e2.rights.getLsbD 5 = true ∧ other) 0x04 n l ∧
      Status (.copyLink x y z t v) x n s { s with outputs := s.outputs ++ l }) ∧
    (e2.rights.getLsbD 3 = true → e1.toProcess ≠ s.processId → ∃ (n : Nat) (l : List OutEvent) (u : State),
      Shares s e1 e2 d (e2.rights.getLsbD 6 = true ∧ other) 0x02 n l ∧ Status (.passLink x y z t v) x n s u ∧
      u = { s with links := u.links, outputs := s.outputs ++ l } ∧
      (n ∈ [36, 47, 37, 38, 39, 48, 52, 54, 55, 56] → u.links = s.links) ∧
      (n ∈ [0, 5, 136, 147, 152, 139] → LinkGone s u id2)) ∧
    (∀ fe, e1.toProcess = s.processId → e1.versionId = s.versionId → s.openFunnel e1.toFunnel.toNat = some fe →
      s.poolFull = false →
      (e2.rights.getLsbD 2 = true → ∃ (n : Nat) (l : List OutEvent) (m : Message), Carries s e1 e2 d m ∧
        Notice s e1 e2 (e2.rights.getLsbD 5 = true ∧ other) 0x04 n l ∧
        Delivers (.copyLink x y z t v) x n e1.toFunnel.toNat fe m s { s with outputs := s.outputs ++ l }) ∧
      (e2.rights.getLsbD 3 = true → ∃ (n : Nat) (l : List OutEvent) (m : Message) (w : State), Carries s e1 e2 d m ∧
        Notice s e1 e2 (e2.rights.getLsbD 6 = true ∧ other) 0x02 n l ∧
        w = { s with links := w.links, outputs := s.outputs ++ l } ∧ LinkGone s w id2 ∧ w.tablesOk ∧
        Delivers (.passLink x y z t v) x n e1.toFunnel.toNat fe m s w)) ∧
    (e2.rights.getLsbD 2 = false → Status (.copyLink x y z t v) x 51 s s) ∧
    (e2.rights.getLsbD 3 = false → Status (.passLink x y z t v) x 51 s s)

/-- SEND.TO.HARDWARE completes on a link with the hardware right: the 64-bit message leaves the process; that its status, the
environment's in R613, is one of R592's, on a link to this process too, is the model's choice (notes/assumptions/27.md).
SEND.SMALL.MSG, where it is implemented, sends the four bytes with type 10. FORWARD.MSG and EXCH.LINK.FORWARD, where they are implemented,
complete on a link with the right to forward: the head message without a link goes out on the link and, with status 0, leaves
its funnel (R573, R576, R612, R613, R630, R631, D14). EXCH.LINK.FORWARD of a message with a link: that link is put at the
preferred ID, or for 0 at the next free one, the ID written back, and the message goes out with "link to be sent" in its place; 11,
12, 32 and 42 where there is no such ID, nothing changed; 140 to 145 of the lookup of "link to be sent", 51 for one that can be
neither passed nor copied, and the statuses of a send to this process turned away: the received link is then in the table and the
message on its funnel, which is the model's reading, as what "may not be sent" means is (notes/assumptions/41.md; 42:
notes/assumptions/28.md). On a link to another process the message leaves; on one to this process whose funnel is open, with
buffers free, the status is 0, the message is queued there, after the head has left its own funnel, and where the arrival is
accepted the interrupt follows (R592, R703). The statuses of a send to another process are those of D57
(notes/assumptions/27.md), for EXCH.LINK.FORWARD the transport's in R631's list. That the forwards take a message from funnel 1 is
the model's choice (notes/assumptions/48.md), and so is which other type bits and which sender a forwarded message has
(notes/assumptions/29.md): they are not stated here. The refusals without a link are in SendRefusals. -/
def Obligations.RegisterSendsAndForwards : Prop :=
  (∀ (x y z : Reg) (s : State) (e : Lte), s.lookup (s.reg y).toNat = .ok e →
     (e.rights.getLsbD 0 = true → ∃ n ∈ [0, 36, 47, 37, 38, 39, 48, 52, 54, 55, 56],
       Status (.sendToHardware x y z) x n s
         { s with outputs := s.outputs ++ [.hardware e.toProcess (s.reg z)] }) ∧
     (s.params.impl80E = true → ∃ m : Message,
       m.data = lowBytes 4 (s.reg z) ∧ m.link = none ∧ Labelled s e 0x10 m ∧
       (e.toProcess ≠ s.processId → ∃ n ∈ [0, 36, 47, 37, 38, 39, 48, 52, 54, 55, 56],
         Status (.sendSmallMsg x y z) x n s { s with outputs := s.outputs ++ [.send e m] }) ∧
       (∀ fe, e.toProcess = s.processId → e.versionId = s.versionId → s.openFunnel e.toFunnel.toNat = some fe →
         s.poolFull = false → Delivers (.sendSmallMsg x y z) x 0 e.toFunnel.toNat fe m s s))) ∧
  (∀ (x y z : Reg) (s : State) (fe : Funnel) (m : Message) (e : Lte),
     let pb := lo32 (s.reg y)
     let f := beNat (readBytes s.mem pb 1)
     s.allowedRange .read pb 4 = true → s.funnel f = some fe → 0 < f → f ≤ 255 → fe.queue.head? = some m →
     m.link = none → s.lookup (beNat (readBytes s.mem (pb + 2) 2)) = .ok e → e.rights.getLsbD 1 = true →
     ∃ k : Message, k.data = m.data ∧ k.link = none ∧ k.rci.extractLsb' 48 16 = e.linkCode ∧
       k.rci.extractLsb' 40 8 = e.toFunnel ∧ k.rci.getLsbD 32 = false ∧
       k.rci.extractLsb' 0 16 = BitVec.ofNat 16 m.data.length ∧
       (e.toProcess ≠ s.processId →
         let out := fun n => ((if n = 0 then s.dequeue f fe else s).emit (.send e k))
         (s.params.impl80A = true → ∃ n ∈ [0, 36, 47, 37, 38, 39, 48, 52, 54, 55, 56],
           Status (.forwardMsg x y z) x n s (out n)) ∧
         (s.params.impl809 = true → ∃ n ∈ [0, 36, 39, 47, 55], Status (.exchLinkForward x y z) x n s (out n))) ∧
       (∀ ge, e.toProcess = s.processId → e.versionId = s.versionId → s.poolFull = false →
         (s.dequeue f fe).openFunnel e.toFunnel.toNat = some ge →
         (s.params.impl80A = true →
           Delivers (.forwardMsg x y z) x 0 e.toFunnel.toNat ge k s (s.dequeue f fe)) ∧
         (s.params.impl809 = true →
           Delivers (.exchLinkForward x y z) x 0 e.toFunnel.toNat ge k s (s.dequeue f fe)))) ∧
  (∀ (x y z : Reg) (s : State) (fe : Funnel) (m : Message) (l e : Lte),
     let i := Instr.exchLinkForward x y z
     let pb := lo32 (s.reg y)
     let f := beNat (readBytes s.mem pb 1)
     let pref := beNat (readBytes s.mem (pb + 4) 2)
     let id2 := beNat (readBytes s.mem (pb + 6) 2)
     s.params.impl809 = true → s.allowedRange .read pb 8 = true → s.funnel f = some fe → 0 < f →
     fe.queue.head? = some m → m.link = some l → s.lookup (beNat (readBytes s.mem (pb + 2) 2)) = .ok e →
     e.rights.getLsbD 1 = true →
     (∀ n, NoLinkIdFor s pref n → Status i x n s s) ∧
     (∀ id, LinkIdFor s pref id → s.allowedRange .write (pb + 4) 2 = true → ∃ p : State,
       LinkDefined s p id l ∧ p = { s with links := p.links, mem := writeBytes s.mem (pb + 4) (beBytes 2 id) } ∧
       (∀ n, p.lookup id2 = .error n → Status i x (n + 100) s p) ∧
       (∀ e2, p.lookup id2 = .ok e2 →
         (e2.rights.getLsbD 2 = false → e2.rights.getLsbD 3 = false → Status i x 51 s p) ∧
         (e2.rights.getLsbD 2 = true ∨ e2.rights.getLsbD 3 = true →
           TurnedAway i x [39] e s p ∧
           ∃ k : Message, k.data = m.data ∧ k.link = some e2 ∧ k.rci.extractLsb' 48 16 = e.linkCode ∧
             k.rci.extractLsb' 40 8 = e.toFunnel ∧ k.rci.getLsbD 32 = true ∧
             k.rci.extractLsb' 0 16 = BitVec.ofNat 16 m.data.length ∧
             (e.toProcess ≠ s.processId → ∃ n ∈ [0, 36, 39, 47, 55],
               Status i x n s ((if n = 0 then p.dequeue f fe else p).emit (.send e k))) ∧
             (∀ ge, e.toProcess = s.processId → e.versionId = s.versionId → s.poolFull = false →
               (p.dequeue f fe).openFunnel e.toFunnel.toNat = some ge →
               Delivers i x 0 e.toFunnel.toNat ge k s (p.dequeue f fe))))))

/-- The receives complete on a funnel that holds a message without a link: the control information and as much of the data
as fits go to memory, the message is taken off unless Interrogate is set, the local priority is set to 15 through the set
local priority function if Dismiss is set, and the status is 0 for RCV and RCV.CHAN, 30 for RCV.LINK and RCV.LINK.ON.CHAN
(R590, R620 to R624, D46, D55). A receive that finds a message, with or without a link, and a negative block length is status 46,
and nothing else changes (R620); that Dismiss is not performed then is the model's reading (notes/assumptions/50.md). -/
def Obligations.ReceivesComplete : Prop :=
  (∀ (x y z t v : Reg) (s s1 s2 s3 : State) (ty : Byte) (f : Nat) (fe : Funnel) (m : Message),
    let pb := lo32 (s.reg y)
    s.allowedRange .read pb 3 = true → s.byteAt (pb + 2) = ty → m.link = none →
    0 ≤ (s.reg z).toInt → 0 ≤ (s.reg v).toInt →
    s.store (pb + 8) (wordBytes m.rci) = some s1 →
    s1.store (pb + 16) (m.data.take (s.reg z).toInt.toNat) = some s2 →
    s2.store (lo32 (s.reg t)) ((m.data.drop (s.reg z).toInt.toNat).take (s.reg v).toInt.toNat) = some s3 →
    let s4 := if ty.getLsbD 1 then s3 else s3.dequeue f fe
    let s5 := if ty.getLsbD 2 then s4.setLocalPriority 15 else s4
    (s.funnel f = some fe → fe.queue.head? = some m → (s.byteAt pb).toNat = f → 1 < f →
      Status (.rcv x y z t v) x 0 s s5 ∧ Status (.rcvLink x y z t v) x 30 s s5) ∧
    (bestCandidate (s.candidates (BitVec.ofNat 16 (beNat (readBytes s.mem pb 2)))) =
        some { funnel := f, entry := fe, message := m } →
      Status (.rcvChan x y z t v) x 0 s s5 ∧ Status (.rcvLinkOnChan x y z t v) x 30 s s5)) ∧
  (∀ (x y z t v : Reg) (s : State),
    let pb := lo32 (s.reg y)
    s.allowedRange .read pb 3 = true → (s.reg z).toInt < 0 ∨ (s.reg v).toInt < 0 →
    (∀ f fe, (s.byteAt pb).toNat = f → 1 < f → s.funnel f = some fe → fe.queue ≠ [] →
      Status (.rcv x y z t v) x 46 s s ∧ Status (.rcvLink x y z t v) x 46 s s) ∧
    (bestCandidate (s.candidates (BitVec.ofNat 16 (beNat (readBytes s.mem pb 2)))) ≠ none →
      Status (.rcvChan x y z t v) x 46 s s ∧ Status (.rcvLinkOnChan x y z t v) x 46 s s))

/-- The receive of a message with a link: RCV and RCV.CHAN copy it, leave it on the funnel and return 28; RCV.LINK and
RCV.LINK.ON.CHAN put the link at the free preferred ID, or for 0 at the head of the free list, or where that is empty
at the first ID of a page that can be allocated, write the ID back and return 0, the message taken off unless Interrogate is set;
no free ID is 11, a defined preferred ID 12, one above the limit 32, a page of the link table that cannot be allocated 42, and then
the message stays; that the receives answer 42, and that the message stays then,
where R620 and R623 name 11, 12 and 32 alone, is the model's choice, as which page is allocated is (notes/assumptions/28.md). In each case Dismiss sets the local priority to 15 through the
set local priority function (R44, R620 to R624, D46, D55). -/
def Obligations.ReceivesOfLinks : Prop :=
  ∀ (x y z t v : Reg) (s s1 s2 s3 : State) (ty : Byte) (f : Nat) (fe : Funnel) (m : Message) (l : Lte),
    let pb := lo32 (s.reg y)
    let dis := fun u : State => if ty.getLsbD 2 then u.setLocalPriority 15 else u
    s.allowedRange .read pb 3 = true → s.byteAt (pb + 2) = ty → m.link = some l →
    0 ≤ (s.reg z).toInt → 0 ≤ (s.reg v).toInt →
    s.store (pb + 8) (wordBytes m.rci) = some s1 →
    s1.store (pb + 16) (m.data.take (s.reg z).toInt.toNat) = some s2 →
    s2.store (lo32 (s.reg t)) ((m.data.drop (s.reg z).toInt.toNat).take (s.reg v).toInt.toNat) = some s3 →
    let takes := fun i : Instr => s3.allowedRange .read (pb + 4) 2 = true →
      let pref := beNat (readBytes s3.mem (pb + 4) 2)
      (∀ id s4, LinkIdFor s pref id → (s3.putLink id l).store (pb + 4) (beBytes 2 id) = some s4 →
        LinkDefined s s4 id l ∧ Status i x 0 s (dis (if ty.getLsbD 1 then s4 else s4.dequeue f fe))) ∧
      (∀ n, NoLinkIdFor s pref n → Status i x n s (dis s3))
    (s.funnel f = some fe → fe.queue.head? = some m → (s.byteAt pb).toNat = f → 1 < f →
      Status (.rcv x y z t v) x 28 s (dis s3) ∧ takes (.rcvLink x y z t v)) ∧
    (bestCandidate (s.candidates (BitVec.ofNat 16 (beNat (readBytes s.mem pb 2)))) =
        some { funnel := f, entry := fe, message := m } →
      Status (.rcvChan x y z t v) x 28 s (dis s3) ∧ takes (.rcvLinkOnChan x y z t v))

/-- A receive that finds no message: with Synchronous the process waits, and nothing else changes, the pc included; without
it the status is 14 on a funnel, 29 on channels, and with Dismiss the local priority is set to 15 through the set local
priority function; funnel 1 is always found empty (R53, R579, R620 to R624, D43). RCV and RCV.LINK on a funnel that does not exist are
status 1, and nothing else changes, whatever the type byte (R587, R621, R623). -/
def Obligations.ReceivesOfNothing : Prop :=
  (∀ (x y z t v : Reg) (s : State),
    let pb := lo32 (s.reg y)
    s.allowedRange .read pb 1 = true → s.byteAt pb = 0 ∨ s.funnel (s.byteAt pb).toNat = none →
    Status (.rcv x y z t v) x 1 s s ∧ Status (.rcvLink x y z t v) x 1 s s) ∧
  ∀ (x y z t v : Reg) (s : State) (ty : Byte),
    let pb := lo32 (s.reg y)
    let t' := if ty.getLsbD 2 then s.setLocalPriority 15 else s
    s.allowedRange .read pb 3 = true → s.byteAt (pb + 2) = ty →
    (∀ f fe, s.funnel f = some fe → (s.byteAt pb).toNat = f → 0 < f → (f = 1 ∨ fe.queue = []) →
      (ty.getLsbD 0 = true → exec (.rcv x y z t v) s = .next { s with blocked := true } ∧
        exec (.rcvLink x y z t v) s = .next { s with blocked := true }) ∧
      (ty.getLsbD 0 = false → Status (.rcv x y z t v) x 14 s t' ∧ Status (.rcvLink x y z t v) x 14 s t')) ∧
    (bestCandidate (s.candidates (BitVec.ofNat 16 (beNat (readBytes s.mem pb 2)))) = none →
      (ty.getLsbD 0 = true → exec (.rcvChan x y z t v) s = .next { s with blocked := true } ∧
        exec (.rcvLinkOnChan x y z t v) s = .next { s with blocked := true }) ∧
      (ty.getLsbD 0 = false → Status (.rcvChan x y z t v) x 29 s t' ∧ Status (.rcvLinkOnChan x y z t v) x 29 s t'))

/-- The funnel a channel receive takes from (R622, D55): of the funnels in the order in which they became active, but
funnel 1, on a selected channel and holding a message, one of the highest priority channel, and the first such; and where there
is such a funnel one is found. With the invariant of the active funnels (StepKeepsInvariant) there is none only where no funnel
but funnel 1 has a message on the selected channels. That funnel 1, which every receive on it finds empty (R53), is empty to a
channel receive too is the model's reading (notes/assumptions/39.md). -/
def Obligations.ChannelReceiveChooses : Prop :=
  ∀ (s : State) (mask : BitVec 16),
    (∀ f e, s.activeOk ∨ f ∈ s.funnels.active → s.funnel f = some e → 1 < f → f ≤ 255 → e.queue ≠ [] →
      chanBit mask e.channel = true → ∃ c, bestCandidate (s.candidates mask) = some c) ∧
    ∀ c : Candidate, bestCandidate (s.candidates mask) = some c →
      c.funnel ≠ 1 ∧ c.funnel ∈ s.funnels.active ∧ s.funnel c.funnel = some c.entry ∧
      c.entry.queue.head? = some c.message ∧ chanBit mask c.entry.channel = true ∧
      ∀ pre f post e, s.funnels.active = pre ++ f :: post → s.funnel f = some e → 1 < f → f ≤ 255 → e.queue ≠ [] →
        chanBit mask e.channel = true →
        c.entry.channel ≤ e.channel ∧ (c.entry.channel = e.channel → c.funnel = f ∨ c.funnel ∈ pre)

/-- READ.FTE and READ.LTE complete with status 0: two words, the layout of a defined entry, the header for 0, or bit 0 zero for
an undefined entry on an allocated page, go to Rz, then to Rt, then the status to Rx. The statuses for an ID that cannot be: 1
and 50 for READ.FTE, 43 and 41 for READ.LTE, Rz and Rt then unchanged (R46, R47, R51, R52, R650, R651). To Process stands in
bits 24 to 39 (90_conflicts.md C21). The order of the writes, status 0 for an undefined entry, next funnel 0 for a funnel without
messages, the count modulo 2^16, 0 as the free ID of an empty free list, and Rz and Rt unchanged with another status are the
model's choice (notes/assumptions/30.md), and so is what a free list holds (notes/assumptions/28.md). That 41 is the status of
an unallocated page is R651's. -/
def Obligations.TableEntriesRead : Prop :=
  ∀ (x y z t v : Reg) (s : State),
    let gives := fun (i : Instr) (P : Word → Word → Prop) =>
      ∃ w0 w1 : Word, Status i x 0 s ((s.setReg z w0).setReg t w1) ∧ P w0 w1
    (∀ f, (s.reg y).toNat = f → 0 < f → f ≤ 127 ∨ (f ≤ 255 ∧ s.funnels.page2 = true) →
      (∀ e, s.funnel f = some e → gives (.readFte x y z t v) fun w0 w1 =>
        w0.getMsbD 0 = true ∧ w0.extractLsb' 56 4 = BitVec.ofNat 4 e.channel.val ∧
        w0.extractLsb' 32 16 = BitVec.ofNat 16 e.queue.length ∧ w0.extractLsb' 0 32 = e.vector ∧
        (e.queue = [] → w0.extractLsb' 48 8 = 0 ∧ w1 = 0) ∧
        (e.queue ≠ [] → w1.extractLsb' 32 32 ≠ 0 ∧ w1.extractLsb' 0 32 ≠ 0)) ∧
      (s.funnel f = none → gives (.readFte x y z t v) fun w0 _ => w0.getMsbD 0 = false)) ∧
    (255 < (s.reg y).toNat → Status (.readFte x y z t v) x 1 s s) ∧
    (127 < (s.reg y).toNat → (s.reg y).toNat ≤ 255 → s.funnels.page2 = false →
      Status (.readFte x y z t v) x 50 s s) ∧
    (∀ id, (s.reg y).toNat = id → 0 < id → id ≤ s.links.limit → id ≤ 65535 →
      (∀ e, s.link id = some e → gives (.readLte x y z t v) fun w0 w1 =>
        w0.getMsbD 0 = true ∧ w0.extractLsb' 48 8 = e.toFunnel ∧ w0.extractLsb' 40 8 = e.rights ∧
        w0.extractLsb' 24 16 = e.toProcess ∧ w0.extractLsb' 0 22 = e.versionId ∧ w1 = e.linkCode ++ e.linkGrail) ∧
      (s.link id = none → (id / 128 = 0 ∨ id / 128 ∈ s.links.pages → gives (.readLte x y z t v) fun w0 _ =>
          w0.getMsbD 0 = false) ∧
        (id / 128 ≠ 0 → id / 128 ∉ s.links.pages → Status (.readLte x y z t v) x 41 s s))) ∧
    (s.links.limit < (s.reg y).toNat ∨ 65535 < (s.reg y).toNat → Status (.readLte x y z t v) x 43 s s) ∧
    ((s.reg y).toNat = 0 →
      (gives (.readFte x y z t v) fun w0 w1 => w0.getMsbD 0 = false ∧
        w0.extractLsb' 40 8 = BitVec.ofNat 8 s.funnels.maxCreated ∧
        w0.extractLsb' 8 8 = BitVec.ofNat 8 (s.funnels.nextFree.getD 0) ∧
        w0.extractLsb' 0 8 = BitVec.ofNat 8 (s.funnels.prevFree.getD 0) ∧ w1.getMsbD 0 = s.funnels.allocatablePages) ∧
      (gives (.readLte x y z t v) fun w0 w1 => w0.getMsbD 0 = false ∧
        w0.extractLsb' 32 16 = BitVec.ofNat 16 s.links.maxCreated ∧
        w0.extractLsb' 16 16 = BitVec.ofNat 16 (s.links.nextFree.getD 0) ∧
        w0.extractLsb' 0 16 = BitVec.ofNat 16 (s.links.prevFree.getD 0) ∧ w1.getMsbD 0 = s.links.allocatablePages ∧
        w1.extractLsb' 40 16 = s.links.allocatablePageCount))

/-! ### General -/

/-- NOP: one byte, 50, and nothing but the pc changes (R680). -/
def Obligations.NopOnlyAdvances : Prop :=
  ∀ (p : Config.Params) (s : State), encode p .nop = [0x50] ∧ Goes .nop s s (s.pc + 1)

/-- READ.STAT, WRITE.STAT, READ.CPU.TIMER and READ.REAL.TIMER complete: two bytes with the parameter's nibble; the register
takes the whole of the PSW, the timer or the clock; the PSW takes the whole register (R674, R677 to R679). READ.PME, by the
decision D52, and where they are implemented READ.MACH.ID and MODIFY.PME, complete: bits 60 to 63 of the map entry; the
identification code; the clear mask, then the set mask, on the four bits (R673, R675, R676, D14). MEMORY.MAN, where it is
implemented: the request goes to the Memory Manager; an asynchronous one completes, CLEANSE making the range's allocated
pages read as zero, TOUCH and FORCE changing nothing; a synchronous one waits, the pc at the instruction, until the process
is restarted, and then completes (R579, R671). Which operations are synchronous, the range in whole pages whatever their
rights, not wrapped, the number of bytes without a sign, and that CLEANSE leaves bits 60 to 63 of the map entries, are the
model's choice, as is that another code does nothing
(notes/assumptions/31.md). -/
def Obligations.StatusAndSystemInstructions : Prop :=
  (∀ (p : Config.Params) (x : Reg) (s : State),
     (encode p (.readStat x) = [0x60, byteOf p.opc.readStat x] ∧ Done (.readStat x) s (s.setReg x s.psw)) ∧
     (encode p (.writeStat x) = [0x60, byteOf p.opc.writeStat x] ∧ Done (.writeStat x) s { s with psw := s.reg x }) ∧
     (encode p (.readCpuTimer x) = [0x60, byteOf p.opc.readCpuTimer x] ∧
       Done (.readCpuTimer x) s (s.setReg x s.cpuTimer)) ∧
     (encode p (.readRealTimer x) = [0x60, byteOf p.opc.readRealTimer x] ∧
       Done (.readRealTimer x) s (s.setReg x s.clock))) ∧
  (∀ (x y z : Reg) (s : State),
     (∀ p, s.pageAt (lo32 (s.reg x)) = some p → ∃ v : Word, Done (.readPme x) s (s.setReg x v) ∧
       v.getMsbD 60 = p.maintenance ∧ v.getMsbD 61 = p.readTrace ∧ v.getMsbD 62 = p.writeTrace ∧
       v.getMsbD 63 = p.executeTrace) ∧
     (s.params.impl603 = true → Done (.readMachId x) s (s.setReg x s.machId)) ∧
     (s.params.impl700 = true →
       let asks := { s with outputs := s.outputs ++ [.memoryManager (s.reg x) (lo32 (s.reg y)) (s.reg z)] }
       let sync := (s.reg x = s.params.mmCleanse ∧ s.params.mmCleanseSync = true) ∨
         (s.reg x = s.params.mmForce ∧ s.reg x ≠ s.params.mmCleanse ∧ s.params.mmForceSync = true)
       let named := s.reg x = s.params.mmTouch ∨ s.reg x = s.params.mmForce ∨ s.reg x = s.params.mmCleanse
       let ends := fun u : State => ∃ t, Done (.memoryMan x y z) s t ∧ t = { u with mem := t.mem } ∧ ∀ a : Addr,
         t.byteAt a = if s.reg x = s.params.mmCleanse ∧ (s.pageAt a).isSome ∧
           (lo32 (s.reg y)).toNat / 2048 ≤ a.toNat / 2048 ∧
           a.toNat / 2048 * 2048 < (lo32 (s.reg y)).toNat + (s.reg z).toNat then 0 else s.byteAt a
       (¬ named → Done (.memoryMan x y z) s s) ∧
       (named → ¬ sync → ends asks) ∧
       (sync → s.manager = .idle →
         exec (.memoryMan x y z) s = .next { asks with blocked := true, manager := .waiting }) ∧
       (sync → s.manager = .waiting → exec (.memoryMan x y z) s = .next { s with blocked := true }) ∧
       (sync → s.manager = .restarted → ends { s with manager := .idle })) ∧
     (∀ p, s.params.impl701 = true → s.pageAt (lo32 (s.reg z)) = some p → ∃ (t : State) (q : Page),
       Done (.modifyPme x y z) s t ∧ t = { s with pages := t.pages } ∧ t.pageAt (lo32 (s.reg z)) = some q ∧
       q.r = p.r ∧ q.w = p.w ∧ q.x = p.x ∧
       (q.maintenance = ((p.maintenance && !(s.reg x).getMsbD 60) || (s.reg y).getMsbD 60)) ∧
       (q.readTrace = ((p.readTrace && !(s.reg x).getMsbD 61) || (s.reg y).getMsbD 61)) ∧
       (q.writeTrace = ((p.writeTrace && !(s.reg x).getMsbD 62) || (s.reg y).getMsbD 62)) ∧
       (q.executeTrace = ((p.executeTrace && !(s.reg x).getMsbD 63) || (s.reg y).getMsbD 63)) ∧
       ∀ n, n ≠ pageNo (lo32 (s.reg z)) → Assoc.get t.pages n = Assoc.get s.pages n))
end

