-- ==== Sys2Proof/Laws/Memory.lean ====
section
/-! SUPPORT. Sparse data, and memory: what a read gives after a write, and that every operation keeps the
canonical form (20_memory.md R80, R86, R101). -/

namespace Sys2Proof.Machine

open Sys2Proof

/-! ### Sparse data -/

namespace Assoc

variable {α : Type}

@[simp] theorem get_nil (n : Nat) : get ([] : List (Nat × α)) n = none := rfl

theorem get_set (l : List (Nat × α)) (n : Nat) (v : α) (k : Nat) :
    get (set l n v) k = if k = n then some v else get l k := by
  induction l with
  | nil =>
    by_cases h : k = n
    · simp [set, get, h]
    · simp [set, get, h, Ne.symm h]
  | cons a t ih =>
    obtain ⟨q, b⟩ := a
    by_cases h1 : n < q
    · simp only [set, if_pos h1]
      by_cases h : k = n
      · simp [get, h]
      · simp [get, h, Ne.symm h]
    · by_cases h2 : n = q
      · subst h2
        by_cases h : k = n
        · simp [set, get, h]
        · simp [set, get, h, Ne.symm h]
      · simp only [set, if_neg h1, if_neg h2, get, ih]
        by_cases h : k = n
        · subst h; simp [Ne.symm h2]
        · simp [h]

theorem get_erase_ne (l : List (Nat × α)) {n k : Nat} (h : k ≠ n) : get (erase l n) k = get l k := by
  induction l with
  | nil => rfl
  | cons a t ih =>
    obtain ⟨q, b⟩ := a
    simp only [erase]
    split_ifs with h1
    · subst h1; simp [get, Ne.symm h]
    · simp [get, ih]

theorem sortedFrom_mono {l : List (Nat × α)} {m n : Nat} (h : m ≤ n) (hl : sortedFrom n l = true) :
    sortedFrom m l = true := by
  cases l with
  | nil => rfl
  | cons a t =>
    obtain ⟨q, b⟩ := a
    simp only [sortedFrom, Bool.and_eq_true, decide_eq_true_eq] at *
    exact ⟨by omega, hl.2⟩

theorem get_below {l : List (Nat × α)} {n k : Nat} (hl : sortedFrom n l = true) (h : k < n) : get l k = none := by
  induction l generalizing n with
  | nil => rfl
  | cons a t ih =>
    obtain ⟨q, b⟩ := a
    simp only [sortedFrom, Bool.and_eq_true, decide_eq_true_eq] at hl
    simp only [get, show q ≠ k by omega, if_false]
    exact ih hl.2 (by omega)

theorem sortedFrom_set {l : List (Nat × α)} {m n : Nat} (v : α) (hm : m ≤ n) (hl : sortedFrom m l = true) :
    sortedFrom m (set l n v) = true := by
  induction l generalizing m with
  | nil => simp [set, sortedFrom, hm]
  | cons a t ih =>
    obtain ⟨q, b⟩ := a
    simp only [sortedFrom, Bool.and_eq_true, decide_eq_true_eq] at hl
    simp only [set]
    split_ifs with h1 h2
    · simp only [sortedFrom, Bool.and_eq_true, decide_eq_true_eq]
      exact ⟨hm, by omega, hl.2⟩
    · subst h2
      simp only [sortedFrom, Bool.and_eq_true, decide_eq_true_eq]
      exact ⟨hm, hl.2⟩
    · simp only [sortedFrom, Bool.and_eq_true, decide_eq_true_eq]
      exact ⟨hl.1, ih (by omega) hl.2⟩

theorem sorted_set {l : List (Nat × α)} (n : Nat) (v : α) (hl : sorted l = true) : sorted (set l n v) = true :=
  sortedFrom_set v (Nat.zero_le n) hl

theorem sortedFrom_filter (f : Nat × α → Bool) {l : List (Nat × α)} {m : Nat} (hl : sortedFrom m l = true) :
    sortedFrom m (l.filter f) = true := by
  induction l generalizing m with
  | nil => rfl
  | cons a t ih =>
    obtain ⟨q, b⟩ := a
    simp only [sortedFrom, Bool.and_eq_true, decide_eq_true_eq] at hl
    rw [List.filter_cons]
    split_ifs
    · simp only [sortedFrom, Bool.and_eq_true, decide_eq_true_eq]
      exact ⟨hl.1, ih hl.2⟩
    · exact ih (sortedFrom_mono (by omega) hl.2)

theorem sorted_filter (f : Nat × α → Bool) {l : List (Nat × α)} (hl : sorted l = true) :
    sorted (l.filter f) = true := sortedFrom_filter f hl

theorem sortedFrom_erase {l : List (Nat × α)} {m : Nat} (n : Nat) (hl : sortedFrom m l = true) :
    sortedFrom m (erase l n) = true := by
  induction l generalizing m with
  | nil => rfl
  | cons a t ih =>
    obtain ⟨q, b⟩ := a
    simp only [sortedFrom, Bool.and_eq_true, decide_eq_true_eq] at hl
    simp only [erase]
    split_ifs with h
    · exact sortedFrom_mono (by omega) hl.2
    · simp only [sortedFrom, Bool.and_eq_true, decide_eq_true_eq]
      exact ⟨hl.1, ih hl.2⟩

theorem sorted_erase {l : List (Nat × α)} (n : Nat) (hl : sorted l = true) : sorted (erase l n) = true :=
  sortedFrom_erase n hl

theorem get_erase_same {l : List (Nat × α)} {m : Nat} (n : Nat) (hl : sortedFrom m l = true) :
    get (erase l n) n = none := by
  induction l generalizing m with
  | nil => rfl
  | cons a t ih =>
    obtain ⟨q, b⟩ := a
    simp only [sortedFrom, Bool.and_eq_true, decide_eq_true_eq] at hl
    simp only [erase]
    split_ifs with h
    · exact get_below hl.2 (by omega)
    · simp [get, h, ih hl.2]

theorem mem_of_get {l : List (Nat × α)} {n : Nat} {v : α} (h : get l n = some v) : (n, v) ∈ l := by
  induction l with
  | nil => simp at h
  | cons a t ih =>
    obtain ⟨q, b⟩ := a
    simp only [get] at h
    split_ifs at h with h1
    · subst h1; simp_all
    · exact List.mem_cons_of_mem _ (ih h)

/-- An entry of an ordered table is the value under its key. -/
theorem get_of_mem {l : List (Nat × α)} {m n : Nat} {v : α} (hl : sortedFrom m l = true) (h : (n, v) ∈ l) :
    get l n = some v := by
  induction l generalizing m with
  | nil => cases h
  | cons c t ih =>
    obtain ⟨k, a⟩ := c
    simp only [sortedFrom, Bool.and_eq_true, decide_eq_true_eq] at hl
    rcases List.mem_cons.mp h with h | h
    · cases h; simp [get]
    · have h1 := ih hl.2 h
      have : k ≠ n := by
        rintro rfl
        rw [get_below hl.2 (Nat.lt_succ_self k)] at h1
        cases h1
      simp [get, this, h1]

theorem mem_set {l : List (Nat × α)} {n : Nat} {v : α} {c : Nat × α} (h : c ∈ set l n v) : c = (n, v) ∨ c ∈ l := by
  induction l with
  | nil => simp [set] at h; exact .inl h
  | cons a t ih =>
    obtain ⟨q, b⟩ := a
    simp only [set] at h
    split_ifs at h with h1 h2
    · simpa using h
    · rcases List.mem_cons.1 h with h | h
      · exact .inl h
      · exact .inr (List.mem_cons_of_mem _ h)
    · rcases List.mem_cons.1 h with h | h
      · exact .inr (h ▸ List.mem_cons_self ..)
      · exact (ih h).imp_right (List.mem_cons_of_mem _)

theorem mem_erase {l : List (Nat × α)} {n : Nat} {c : Nat × α} (h : c ∈ erase l n) : c ∈ l := by
  induction l with
  | nil => exact h
  | cons a t ih =>
    obtain ⟨q, b⟩ := a
    simp only [erase] at h
    split_ifs at h with h1
    · exact List.mem_cons_of_mem _ h
    · rcases List.mem_cons.1 h with h | h
      · exact h ▸ List.mem_cons_self ..
      · exact List.mem_cons_of_mem _ (ih h)

end Assoc

/-! ### The canonical form -/

theorem Memory.wf_iff (m : List Host.Cell) :
    Memory.wf m = true ↔ Assoc.sorted m = true ∧ ∀ c ∈ m, c.1 < 2 ^ 32 ∧ c.2 ≠ 0 := by
  simp [Memory.wf, List.all_eq_true]

theorem Memory.wf_nil : Memory.wf [] = true := rfl

theorem Memory.wf_writeCell {m : List Host.Cell} {n : Nat} (b : Byte) (hn : n < 2 ^ 32)
    (h : Memory.wf m = true) : Memory.wf (writeCell m n b) = true := by
  rw [Memory.wf_iff] at *
  unfold writeCell
  split_ifs with hb
  · exact ⟨Assoc.sorted_erase n h.1, fun c hc => h.2 c (Assoc.mem_erase hc)⟩
  · refine ⟨Assoc.sorted_set n b h.1, fun c hc => ?_⟩
    rcases Assoc.mem_set hc with rfl | hc
    · exact ⟨hn, hb⟩
    · exact h.2 c hc

theorem Memory.wf_writeBytes {m : List Host.Cell} (a : Addr) (bs : List Byte) (h : Memory.wf m = true) :
    Memory.wf (writeBytes m a bs) = true := by
  induction bs generalizing m a with
  | nil => exact h
  | cons b bs ih => exact ih _ (Memory.wf_writeCell b a.isLt h)

theorem Memory.wf_filter (f : Host.Cell → Bool) {m : List Host.Cell} (h : Memory.wf m = true) :
    Memory.wf (m.filter f) = true := by
  rw [Memory.wf_iff] at *
  exact ⟨Assoc.sorted_filter f h.1, fun c hc => h.2 c (List.mem_filter.1 hc).1⟩

theorem Memory.wf_zeroPage (p : Nat) {m : List Host.Cell} (h : Memory.wf m = true) :
    Memory.wf (zeroPage m p) = true := Memory.wf_filter _ h

theorem Memory.wf_scrambleBytes (s : State) (a : Addr) (off n : Nat) {m : List Host.Cell}
    (h : Memory.wf m = true) : Memory.wf (scrambleBytes s m a off n) = true := by
  induction n generalizing m a off with
  | zero => exact h
  | succ n ih =>
    refine ih _ _ ?_
    split_ifs
    · exact Memory.wf_writeCell _ a.isLt h
    · exact h

theorem State.memOk_reset : Memory.wf State.reset.mem = true := rfl

/-! ### A read after a write -/

theorem readCell_writeCell_ne (m : List Host.Cell) {n k : Nat} (b : Byte) (h : k ≠ n) :
    readCell (writeCell m n b) k = readCell m k := by
  unfold readCell writeCell
  split_ifs
  · rw [Assoc.get_erase_ne m h]
  · rw [Assoc.get_set, if_neg h]

theorem readCell_writeCell_same {m : List Host.Cell} (n : Nat) (b : Byte) (h : Memory.wf m = true) :
    readCell (writeCell m n b) n = b := by
  unfold readCell writeCell
  split_ifs with hb
  · rw [Assoc.get_erase_same n ((Memory.wf_iff m).1 h).1, hb]; rfl
  · rw [Assoc.get_set, if_pos rfl]; rfl

/-- A byte none of the written addresses of a range is stays as it was. -/
theorem readCell_writeBytes_ne (m : List Host.Cell) (a : Addr) (bs : List Byte) (k : Nat)
    (h : ∀ j, j < bs.length → (a + BitVec.ofNat 32 j).toNat ≠ k) :
    readCell (writeBytes m a bs) k = readCell m k := by
  induction bs generalizing m a with
  | nil => rfl
  | cons b bs ih =>
    have h0 : k ≠ a.toNat := fun e => h 0 (by simp) (by simpa using e.symm)
    rw [writeBytes, ih]
    · exact readCell_writeCell_ne m b h0
    · intro j hj
      have := h (j + 1) (by simpa using hj)
      rwa [show a + BitVec.ofNat 32 (j + 1) = a + 1 + BitVec.ofNat 32 j by
        rw [BitVec.add_assoc]; congr 1; apply BitVec.eq_of_toNat_eq; simp; omega] at this

/-- A written byte reads back, the range being shorter than the address space. -/
theorem readCell_writeBytes_get {m : List Host.Cell} (a : Addr) (bs : List Byte) (h : Memory.wf m = true)
    (hl : bs.length ≤ 2 ^ 32) (j : Nat) (hj : j < bs.length) :
    readCell (writeBytes m a bs) (a + BitVec.ofNat 32 j).toNat = bs[j] := by
  induction bs generalizing m a j with
  | nil => simp at hj
  | cons b bs ih =>
    have hw := Memory.wf_writeCell b a.isLt h
    have hstep : ∀ j, a + 1 + BitVec.ofNat 32 j = a + BitVec.ofNat 32 (j + 1) := fun j => by
      rw [BitVec.add_assoc]; congr 1; apply BitVec.eq_of_toNat_eq; simp; omega
    rw [writeBytes]
    cases j with
    | zero =>
      have hz : a + BitVec.ofNat 32 0 = a := by simp
      rw [hz, readCell_writeBytes_ne]
      · exact readCell_writeCell_same _ b h
      · intro j hj e
        rw [hstep, BitVec.toNat_add, BitVec.toNat_ofNat] at e
        simp only [List.length_cons] at hl
        have := a.isLt
        omega
    | succ j =>
      rw [← hstep]
      exact ih (a + 1) hw (by simp at hl; omega) j (by simpa using hj)

theorem readBytes_length (m : List Host.Cell) (a : Addr) (n : Nat) : (readBytes m a n).length = n := by
  induction n generalizing a with
  | zero => rfl
  | succ n ih => simp [readBytes, ih]

theorem beBytes_length (n v : Nat) : (beBytes n v).length = n := by
  induction n generalizing v with
  | zero => rfl
  | succ n ih => simp [beBytes, ih]

theorem beNat_beBytes (n v : Nat) : beNat (beBytes n v) = v % 256 ^ n := by
  induction n generalizing v with
  | zero => simp [beNat, beBytes, Nat.mod_one]
  | succ n ih =>
    simp only [beBytes, beNat, beBytes_length, ih, BitVec.toNat_ofNat]
    have e : v % 256 ^ (n + 1) = v % 256 ^ n + 256 ^ n * (v / 256 ^ n % 256) := by
      rw [Nat.pow_succ, Nat.mod_mul]
    rw [e, show (2 : Nat) ^ 8 = 256 by decide]
    ring

/-- What was written reads back as a whole. -/
theorem readBytes_writeBytes {m : List Host.Cell} (a : Addr) (bs : List Byte) (h : Memory.wf m = true)
    (hl : bs.length ≤ 2 ^ 32) : readBytes (writeBytes m a bs) a bs.length = bs := by
  have key : ∀ (m' : List Host.Cell) (b : Addr) (cs : List Byte),
      (∀ j (hj : j < cs.length), readCell m' (b + BitVec.ofNat 32 j).toNat = cs[j]) →
      readBytes m' b cs.length = cs := by
    intro m' b cs
    induction cs generalizing b with
    | nil => intro _; rfl
    | cons c cs ih =>
      intro hc
      have h0 := hc 0 (by simp)
      simp only [List.length_cons, readBytes]
      rw [ih]
      · simpa using h0
      · intro j hj
        have := hc (j + 1) (by simpa using hj)
        rw [show b + 1 + BitVec.ofNat 32 j = b + BitVec.ofNat 32 (j + 1) by
          rw [BitVec.add_assoc]; congr 1; apply BitVec.eq_of_toNat_eq; simp; omega]
        simpa using this
  exact key _ a bs fun j hj => readCell_writeBytes_get a bs h hl j hj

end Sys2Proof.Machine
end

