-- ==== Sys2Proof/Laws/State.lean ====
section
/-! SUPPORT. One lemma per field per update of the state, true by rfl. -/

namespace Sys2Proof.Machine

open Sys2Proof

variable (s : State)

/-! ### setReg -/

@[simp] theorem State.setReg_pc (r : Reg) (v : Word) : (s.setReg r v).pc = s.pc := rfl
@[simp] theorem State.setReg_psw (r : Reg) (v : Word) : (s.setReg r v).psw = s.psw := rfl
@[simp] theorem State.setReg_lp (r : Reg) (v : Word) : (s.setReg r v).lp = s.lp := rfl
@[simp] theorem State.setReg_chanMask (r : Reg) (v : Word) : (s.setReg r v).chanMask = s.chanMask := rfl
@[simp] theorem State.setReg_chanPrio (r : Reg) (v : Word) : (s.setReg r v).chanPrio = s.chanPrio := rfl
@[simp] theorem State.setReg_enabled (r : Reg) (v : Word) : (s.setReg r v).enabled = s.enabled := rfl
@[simp] theorem State.setReg_cpuTimer (r : Reg) (v : Word) : (s.setReg r v).cpuTimer = s.cpuTimer := rfl
@[simp] theorem State.setReg_clock (r : Reg) (v : Word) : (s.setReg r v).clock = s.clock := rfl
@[simp] theorem State.setReg_machId (r : Reg) (v : Word) : (s.setReg r v).machId = s.machId := rfl
@[simp] theorem State.setReg_processId (r : Reg) (v : Word) : (s.setReg r v).processId = s.processId := rfl
@[simp] theorem State.setReg_versionId (r : Reg) (v : Word) : (s.setReg r v).versionId = s.versionId := rfl
@[simp] theorem State.setReg_links (r : Reg) (v : Word) : (s.setReg r v).links = s.links := rfl
@[simp] theorem State.setReg_funnels (r : Reg) (v : Word) : (s.setReg r v).funnels = s.funnels := rfl
@[simp] theorem State.setReg_mem (r : Reg) (v : Word) : (s.setReg r v).mem = s.mem := rfl
@[simp] theorem State.setReg_pages (r : Reg) (v : Word) : (s.setReg r v).pages = s.pages := rfl
@[simp] theorem State.setReg_lastPc (r : Reg) (v : Word) : (s.setReg r v).lastPc = s.lastPc := rfl
@[simp] theorem State.setReg_blocked (r : Reg) (v : Word) : (s.setReg r v).blocked = s.blocked := rfl
@[simp] theorem State.setReg_manager (r : Reg) (v : Word) : (s.setReg r v).manager = s.manager := rfl
@[simp] theorem State.setReg_ended (r : Reg) (v : Word) : (s.setReg r v).ended = s.ended := rfl
@[simp] theorem State.setReg_params (r : Reg) (v : Word) : (s.setReg r v).params = s.params := rfl
@[simp] theorem State.setReg_arrivals (r : Reg) (v : Word) : (s.setReg r v).arrivals = s.arrivals := rfl
@[simp] theorem State.setReg_outputs (r : Reg) (v : Word) : (s.setReg r v).outputs = s.outputs := rfl
@[simp] theorem State.setReg_draws (r : Reg) (v : Word) : (s.setReg r v).draws = s.draws := rfl

/-! ### setPc -/

@[simp] theorem State.setPc_regs (a : Addr) : (s.setPc a).regs = s.regs := rfl
@[simp] theorem State.setPc_psw (a : Addr) : (s.setPc a).psw = s.psw := rfl
@[simp] theorem State.setPc_lp (a : Addr) : (s.setPc a).lp = s.lp := rfl
@[simp] theorem State.setPc_chanMask (a : Addr) : (s.setPc a).chanMask = s.chanMask := rfl
@[simp] theorem State.setPc_chanPrio (a : Addr) : (s.setPc a).chanPrio = s.chanPrio := rfl
@[simp] theorem State.setPc_enabled (a : Addr) : (s.setPc a).enabled = s.enabled := rfl
@[simp] theorem State.setPc_cpuTimer (a : Addr) : (s.setPc a).cpuTimer = s.cpuTimer := rfl
@[simp] theorem State.setPc_clock (a : Addr) : (s.setPc a).clock = s.clock := rfl
@[simp] theorem State.setPc_machId (a : Addr) : (s.setPc a).machId = s.machId := rfl
@[simp] theorem State.setPc_processId (a : Addr) : (s.setPc a).processId = s.processId := rfl
@[simp] theorem State.setPc_versionId (a : Addr) : (s.setPc a).versionId = s.versionId := rfl
@[simp] theorem State.setPc_links (a : Addr) : (s.setPc a).links = s.links := rfl
@[simp] theorem State.setPc_funnels (a : Addr) : (s.setPc a).funnels = s.funnels := rfl
@[simp] theorem State.setPc_mem (a : Addr) : (s.setPc a).mem = s.mem := rfl
@[simp] theorem State.setPc_pages (a : Addr) : (s.setPc a).pages = s.pages := rfl
@[simp] theorem State.setPc_lastPc (a : Addr) : (s.setPc a).lastPc = s.lastPc := rfl
@[simp] theorem State.setPc_blocked (a : Addr) : (s.setPc a).blocked = s.blocked := rfl
@[simp] theorem State.setPc_manager (a : Addr) : (s.setPc a).manager = s.manager := rfl
@[simp] theorem State.setPc_ended (a : Addr) : (s.setPc a).ended = s.ended := rfl
@[simp] theorem State.setPc_params (a : Addr) : (s.setPc a).params = s.params := rfl
@[simp] theorem State.setPc_arrivals (a : Addr) : (s.setPc a).arrivals = s.arrivals := rfl
@[simp] theorem State.setPc_outputs (a : Addr) : (s.setPc a).outputs = s.outputs := rfl
@[simp] theorem State.setPc_draws (a : Addr) : (s.setPc a).draws = s.draws := rfl

/-! ### poke -/

@[simp] theorem State.poke_regs (a : Addr) (bs : List Byte) : (s.poke a bs).regs = s.regs := rfl
@[simp] theorem State.poke_pc (a : Addr) (bs : List Byte) : (s.poke a bs).pc = s.pc := rfl
@[simp] theorem State.poke_psw (a : Addr) (bs : List Byte) : (s.poke a bs).psw = s.psw := rfl
@[simp] theorem State.poke_lp (a : Addr) (bs : List Byte) : (s.poke a bs).lp = s.lp := rfl
@[simp] theorem State.poke_chanMask (a : Addr) (bs : List Byte) : (s.poke a bs).chanMask = s.chanMask := rfl
@[simp] theorem State.poke_chanPrio (a : Addr) (bs : List Byte) : (s.poke a bs).chanPrio = s.chanPrio := rfl
@[simp] theorem State.poke_enabled (a : Addr) (bs : List Byte) : (s.poke a bs).enabled = s.enabled := rfl
@[simp] theorem State.poke_cpuTimer (a : Addr) (bs : List Byte) : (s.poke a bs).cpuTimer = s.cpuTimer := rfl
@[simp] theorem State.poke_clock (a : Addr) (bs : List Byte) : (s.poke a bs).clock = s.clock := rfl
@[simp] theorem State.poke_machId (a : Addr) (bs : List Byte) : (s.poke a bs).machId = s.machId := rfl
@[simp] theorem State.poke_processId (a : Addr) (bs : List Byte) : (s.poke a bs).processId = s.processId := rfl
@[simp] theorem State.poke_versionId (a : Addr) (bs : List Byte) : (s.poke a bs).versionId = s.versionId := rfl
@[simp] theorem State.poke_links (a : Addr) (bs : List Byte) : (s.poke a bs).links = s.links := rfl
@[simp] theorem State.poke_funnels (a : Addr) (bs : List Byte) : (s.poke a bs).funnels = s.funnels := rfl
@[simp] theorem State.poke_pages (a : Addr) (bs : List Byte) : (s.poke a bs).pages = s.pages := rfl
@[simp] theorem State.poke_lastPc (a : Addr) (bs : List Byte) : (s.poke a bs).lastPc = s.lastPc := rfl
@[simp] theorem State.poke_blocked (a : Addr) (bs : List Byte) : (s.poke a bs).blocked = s.blocked := rfl
@[simp] theorem State.poke_manager (a : Addr) (bs : List Byte) : (s.poke a bs).manager = s.manager := rfl
@[simp] theorem State.poke_ended (a : Addr) (bs : List Byte) : (s.poke a bs).ended = s.ended := rfl
@[simp] theorem State.poke_params (a : Addr) (bs : List Byte) : (s.poke a bs).params = s.params := rfl
@[simp] theorem State.poke_arrivals (a : Addr) (bs : List Byte) : (s.poke a bs).arrivals = s.arrivals := rfl
@[simp] theorem State.poke_outputs (a : Addr) (bs : List Byte) : (s.poke a bs).outputs = s.outputs := rfl
@[simp] theorem State.poke_draws (a : Addr) (bs : List Byte) : (s.poke a bs).draws = s.draws := rfl

/-! ### setPswBit -/

@[simp] theorem State.setPswBit_regs (i : Nat) (b : Bool) : (s.setPswBit i b).regs = s.regs := rfl
@[simp] theorem State.setPswBit_pc (i : Nat) (b : Bool) : (s.setPswBit i b).pc = s.pc := rfl
@[simp] theorem State.setPswBit_lp (i : Nat) (b : Bool) : (s.setPswBit i b).lp = s.lp := rfl
@[simp] theorem State.setPswBit_chanMask (i : Nat) (b : Bool) : (s.setPswBit i b).chanMask = s.chanMask := rfl
@[simp] theorem State.setPswBit_chanPrio (i : Nat) (b : Bool) : (s.setPswBit i b).chanPrio = s.chanPrio := rfl
@[simp] theorem State.setPswBit_enabled (i : Nat) (b : Bool) : (s.setPswBit i b).enabled = s.enabled := rfl
@[simp] theorem State.setPswBit_cpuTimer (i : Nat) (b : Bool) : (s.setPswBit i b).cpuTimer = s.cpuTimer := rfl
@[simp] theorem State.setPswBit_clock (i : Nat) (b : Bool) : (s.setPswBit i b).clock = s.clock := rfl
@[simp] theorem State.setPswBit_machId (i : Nat) (b : Bool) : (s.setPswBit i b).machId = s.machId := rfl
@[simp] theorem State.setPswBit_processId (i : Nat) (b : Bool) : (s.setPswBit i b).processId = s.processId := rfl
@[simp] theorem State.setPswBit_versionId (i : Nat) (b : Bool) : (s.setPswBit i b).versionId = s.versionId := rfl
@[simp] theorem State.setPswBit_links (i : Nat) (b : Bool) : (s.setPswBit i b).links = s.links := rfl
@[simp] theorem State.setPswBit_funnels (i : Nat) (b : Bool) : (s.setPswBit i b).funnels = s.funnels := rfl
@[simp] theorem State.setPswBit_mem (i : Nat) (b : Bool) : (s.setPswBit i b).mem = s.mem := rfl
@[simp] theorem State.setPswBit_pages (i : Nat) (b : Bool) : (s.setPswBit i b).pages = s.pages := rfl
@[simp] theorem State.setPswBit_lastPc (i : Nat) (b : Bool) : (s.setPswBit i b).lastPc = s.lastPc := rfl
@[simp] theorem State.setPswBit_blocked (i : Nat) (b : Bool) : (s.setPswBit i b).blocked = s.blocked := rfl
@[simp] theorem State.setPswBit_manager (i : Nat) (b : Bool) : (s.setPswBit i b).manager = s.manager := rfl
@[simp] theorem State.setPswBit_ended (i : Nat) (b : Bool) : (s.setPswBit i b).ended = s.ended := rfl
@[simp] theorem State.setPswBit_params (i : Nat) (b : Bool) : (s.setPswBit i b).params = s.params := rfl
@[simp] theorem State.setPswBit_arrivals (i : Nat) (b : Bool) : (s.setPswBit i b).arrivals = s.arrivals := rfl
@[simp] theorem State.setPswBit_outputs (i : Nat) (b : Bool) : (s.setPswBit i b).outputs = s.outputs := rfl
@[simp] theorem State.setPswBit_draws (i : Nat) (b : Bool) : (s.setPswBit i b).draws = s.draws := rfl

/-! ### setCi -/

@[simp] theorem State.setCi_regs (b : Bool) : (s.setCi b).regs = s.regs := rfl
@[simp] theorem State.setCi_pc (b : Bool) : (s.setCi b).pc = s.pc := rfl
@[simp] theorem State.setCi_lp (b : Bool) : (s.setCi b).lp = s.lp := rfl
@[simp] theorem State.setCi_chanMask (b : Bool) : (s.setCi b).chanMask = s.chanMask := rfl
@[simp] theorem State.setCi_chanPrio (b : Bool) : (s.setCi b).chanPrio = s.chanPrio := rfl
@[simp] theorem State.setCi_enabled (b : Bool) : (s.setCi b).enabled = s.enabled := rfl
@[simp] theorem State.setCi_cpuTimer (b : Bool) : (s.setCi b).cpuTimer = s.cpuTimer := rfl
@[simp] theorem State.setCi_clock (b : Bool) : (s.setCi b).clock = s.clock := rfl
@[simp] theorem State.setCi_machId (b : Bool) : (s.setCi b).machId = s.machId := rfl
@[simp] theorem State.setCi_processId (b : Bool) : (s.setCi b).processId = s.processId := rfl
@[simp] theorem State.setCi_versionId (b : Bool) : (s.setCi b).versionId = s.versionId := rfl
@[simp] theorem State.setCi_links (b : Bool) : (s.setCi b).links = s.links := rfl
@[simp] theorem State.setCi_funnels (b : Bool) : (s.setCi b).funnels = s.funnels := rfl
@[simp] theorem State.setCi_mem (b : Bool) : (s.setCi b).mem = s.mem := rfl
@[simp] theorem State.setCi_pages (b : Bool) : (s.setCi b).pages = s.pages := rfl
@[simp] theorem State.setCi_lastPc (b : Bool) : (s.setCi b).lastPc = s.lastPc := rfl
@[simp] theorem State.setCi_blocked (b : Bool) : (s.setCi b).blocked = s.blocked := rfl
@[simp] theorem State.setCi_manager (b : Bool) : (s.setCi b).manager = s.manager := rfl
@[simp] theorem State.setCi_ended (b : Bool) : (s.setCi b).ended = s.ended := rfl
@[simp] theorem State.setCi_params (b : Bool) : (s.setCi b).params = s.params := rfl
@[simp] theorem State.setCi_arrivals (b : Bool) : (s.setCi b).arrivals = s.arrivals := rfl
@[simp] theorem State.setCi_outputs (b : Bool) : (s.setCi b).outputs = s.outputs := rfl
@[simp] theorem State.setCi_draws (b : Bool) : (s.setCi b).draws = s.draws := rfl

/-! ### setCd -/

@[simp] theorem State.setCd_regs (b : Bool) : (s.setCd b).regs = s.regs := rfl
@[simp] theorem State.setCd_pc (b : Bool) : (s.setCd b).pc = s.pc := rfl
@[simp] theorem State.setCd_lp (b : Bool) : (s.setCd b).lp = s.lp := rfl
@[simp] theorem State.setCd_chanMask (b : Bool) : (s.setCd b).chanMask = s.chanMask := rfl
@[simp] theorem State.setCd_chanPrio (b : Bool) : (s.setCd b).chanPrio = s.chanPrio := rfl
@[simp] theorem State.setCd_enabled (b : Bool) : (s.setCd b).enabled = s.enabled := rfl
@[simp] theorem State.setCd_cpuTimer (b : Bool) : (s.setCd b).cpuTimer = s.cpuTimer := rfl
@[simp] theorem State.setCd_clock (b : Bool) : (s.setCd b).clock = s.clock := rfl
@[simp] theorem State.setCd_machId (b : Bool) : (s.setCd b).machId = s.machId := rfl
@[simp] theorem State.setCd_processId (b : Bool) : (s.setCd b).processId = s.processId := rfl
@[simp] theorem State.setCd_versionId (b : Bool) : (s.setCd b).versionId = s.versionId := rfl
@[simp] theorem State.setCd_links (b : Bool) : (s.setCd b).links = s.links := rfl
@[simp] theorem State.setCd_funnels (b : Bool) : (s.setCd b).funnels = s.funnels := rfl
@[simp] theorem State.setCd_mem (b : Bool) : (s.setCd b).mem = s.mem := rfl
@[simp] theorem State.setCd_pages (b : Bool) : (s.setCd b).pages = s.pages := rfl
@[simp] theorem State.setCd_lastPc (b : Bool) : (s.setCd b).lastPc = s.lastPc := rfl
@[simp] theorem State.setCd_blocked (b : Bool) : (s.setCd b).blocked = s.blocked := rfl
@[simp] theorem State.setCd_manager (b : Bool) : (s.setCd b).manager = s.manager := rfl
@[simp] theorem State.setCd_ended (b : Bool) : (s.setCd b).ended = s.ended := rfl
@[simp] theorem State.setCd_params (b : Bool) : (s.setCd b).params = s.params := rfl
@[simp] theorem State.setCd_arrivals (b : Bool) : (s.setCd b).arrivals = s.arrivals := rfl
@[simp] theorem State.setCd_outputs (b : Bool) : (s.setCd b).outputs = s.outputs := rfl
@[simp] theorem State.setCd_draws (b : Bool) : (s.setCd b).draws = s.draws := rfl

/-! ### setSs -/

@[simp] theorem State.setSs_regs (b : Bool) : (s.setSs b).regs = s.regs := rfl
@[simp] theorem State.setSs_pc (b : Bool) : (s.setSs b).pc = s.pc := rfl
@[simp] theorem State.setSs_lp (b : Bool) : (s.setSs b).lp = s.lp := rfl
@[simp] theorem State.setSs_chanMask (b : Bool) : (s.setSs b).chanMask = s.chanMask := rfl
@[simp] theorem State.setSs_chanPrio (b : Bool) : (s.setSs b).chanPrio = s.chanPrio := rfl
@[simp] theorem State.setSs_enabled (b : Bool) : (s.setSs b).enabled = s.enabled := rfl
@[simp] theorem State.setSs_cpuTimer (b : Bool) : (s.setSs b).cpuTimer = s.cpuTimer := rfl
@[simp] theorem State.setSs_clock (b : Bool) : (s.setSs b).clock = s.clock := rfl
@[simp] theorem State.setSs_machId (b : Bool) : (s.setSs b).machId = s.machId := rfl
@[simp] theorem State.setSs_processId (b : Bool) : (s.setSs b).processId = s.processId := rfl
@[simp] theorem State.setSs_versionId (b : Bool) : (s.setSs b).versionId = s.versionId := rfl
@[simp] theorem State.setSs_links (b : Bool) : (s.setSs b).links = s.links := rfl
@[simp] theorem State.setSs_funnels (b : Bool) : (s.setSs b).funnels = s.funnels := rfl
@[simp] theorem State.setSs_mem (b : Bool) : (s.setSs b).mem = s.mem := rfl
@[simp] theorem State.setSs_pages (b : Bool) : (s.setSs b).pages = s.pages := rfl
@[simp] theorem State.setSs_lastPc (b : Bool) : (s.setSs b).lastPc = s.lastPc := rfl
@[simp] theorem State.setSs_blocked (b : Bool) : (s.setSs b).blocked = s.blocked := rfl
@[simp] theorem State.setSs_manager (b : Bool) : (s.setSs b).manager = s.manager := rfl
@[simp] theorem State.setSs_ended (b : Bool) : (s.setSs b).ended = s.ended := rfl
@[simp] theorem State.setSs_params (b : Bool) : (s.setSs b).params = s.params := rfl
@[simp] theorem State.setSs_arrivals (b : Bool) : (s.setSs b).arrivals = s.arrivals := rfl
@[simp] theorem State.setSs_outputs (b : Bool) : (s.setSs b).outputs = s.outputs := rfl
@[simp] theorem State.setSs_draws (b : Bool) : (s.setSs b).draws = s.draws := rfl

/-! ### setOccurred -/

@[simp] theorem State.setOccurred_regs (c : ExcCode) : (s.setOccurred c).regs = s.regs := rfl
@[simp] theorem State.setOccurred_pc (c : ExcCode) : (s.setOccurred c).pc = s.pc := rfl
@[simp] theorem State.setOccurred_lp (c : ExcCode) : (s.setOccurred c).lp = s.lp := rfl
@[simp] theorem State.setOccurred_chanMask (c : ExcCode) : (s.setOccurred c).chanMask = s.chanMask := rfl
@[simp] theorem State.setOccurred_chanPrio (c : ExcCode) : (s.setOccurred c).chanPrio = s.chanPrio := rfl
@[simp] theorem State.setOccurred_enabled (c : ExcCode) : (s.setOccurred c).enabled = s.enabled := rfl
@[simp] theorem State.setOccurred_cpuTimer (c : ExcCode) : (s.setOccurred c).cpuTimer = s.cpuTimer := rfl
@[simp] theorem State.setOccurred_clock (c : ExcCode) : (s.setOccurred c).clock = s.clock := rfl
@[simp] theorem State.setOccurred_machId (c : ExcCode) : (s.setOccurred c).machId = s.machId := rfl
@[simp] theorem State.setOccurred_processId (c : ExcCode) : (s.setOccurred c).processId = s.processId := rfl
@[simp] theorem State.setOccurred_versionId (c : ExcCode) : (s.setOccurred c).versionId = s.versionId := rfl
@[simp] theorem State.setOccurred_links (c : ExcCode) : (s.setOccurred c).links = s.links := rfl
@[simp] theorem State.setOccurred_funnels (c : ExcCode) : (s.setOccurred c).funnels = s.funnels := rfl
@[simp] theorem State.setOccurred_mem (c : ExcCode) : (s.setOccurred c).mem = s.mem := rfl
@[simp] theorem State.setOccurred_pages (c : ExcCode) : (s.setOccurred c).pages = s.pages := rfl
@[simp] theorem State.setOccurred_lastPc (c : ExcCode) : (s.setOccurred c).lastPc = s.lastPc := rfl
@[simp] theorem State.setOccurred_blocked (c : ExcCode) : (s.setOccurred c).blocked = s.blocked := rfl
@[simp] theorem State.setOccurred_manager (c : ExcCode) : (s.setOccurred c).manager = s.manager := rfl
@[simp] theorem State.setOccurred_ended (c : ExcCode) : (s.setOccurred c).ended = s.ended := rfl
@[simp] theorem State.setOccurred_params (c : ExcCode) : (s.setOccurred c).params = s.params := rfl
@[simp] theorem State.setOccurred_arrivals (c : ExcCode) : (s.setOccurred c).arrivals = s.arrivals := rfl
@[simp] theorem State.setOccurred_outputs (c : ExcCode) : (s.setOccurred c).outputs = s.outputs := rfl
@[simp] theorem State.setOccurred_draws (c : ExcCode) : (s.setOccurred c).draws = s.draws := rfl

/-! ### setLocalPriority -/

@[simp] theorem State.setLocalPriority_regs (p : Chan) : (s.setLocalPriority p).regs = s.regs := rfl
@[simp] theorem State.setLocalPriority_pc (p : Chan) : (s.setLocalPriority p).pc = s.pc := rfl
@[simp] theorem State.setLocalPriority_psw (p : Chan) : (s.setLocalPriority p).psw = s.psw := rfl
@[simp] theorem State.setLocalPriority_chanMask (p : Chan) : (s.setLocalPriority p).chanMask = s.chanMask := rfl
@[simp] theorem State.setLocalPriority_chanPrio (p : Chan) : (s.setLocalPriority p).chanPrio = s.chanPrio := rfl
@[simp] theorem State.setLocalPriority_enabled (p : Chan) : (s.setLocalPriority p).enabled = s.enabled := rfl
@[simp] theorem State.setLocalPriority_cpuTimer (p : Chan) : (s.setLocalPriority p).cpuTimer = s.cpuTimer := rfl
@[simp] theorem State.setLocalPriority_clock (p : Chan) : (s.setLocalPriority p).clock = s.clock := rfl
@[simp] theorem State.setLocalPriority_machId (p : Chan) : (s.setLocalPriority p).machId = s.machId := rfl
@[simp] theorem State.setLocalPriority_processId (p : Chan) : (s.setLocalPriority p).processId = s.processId := rfl
@[simp] theorem State.setLocalPriority_versionId (p : Chan) : (s.setLocalPriority p).versionId = s.versionId := rfl
@[simp] theorem State.setLocalPriority_links (p : Chan) : (s.setLocalPriority p).links = s.links := rfl
@[simp] theorem State.setLocalPriority_funnels (p : Chan) : (s.setLocalPriority p).funnels = s.funnels := rfl
@[simp] theorem State.setLocalPriority_mem (p : Chan) : (s.setLocalPriority p).mem = s.mem := rfl
@[simp] theorem State.setLocalPriority_pages (p : Chan) : (s.setLocalPriority p).pages = s.pages := rfl
@[simp] theorem State.setLocalPriority_lastPc (p : Chan) : (s.setLocalPriority p).lastPc = s.lastPc := rfl
@[simp] theorem State.setLocalPriority_blocked (p : Chan) : (s.setLocalPriority p).blocked = s.blocked := rfl
@[simp] theorem State.setLocalPriority_manager (p : Chan) : (s.setLocalPriority p).manager = s.manager := rfl
@[simp] theorem State.setLocalPriority_ended (p : Chan) : (s.setLocalPriority p).ended = s.ended := rfl
@[simp] theorem State.setLocalPriority_params (p : Chan) : (s.setLocalPriority p).params = s.params := rfl
@[simp] theorem State.setLocalPriority_arrivals (p : Chan) : (s.setLocalPriority p).arrivals = s.arrivals := rfl
@[simp] theorem State.setLocalPriority_outputs (p : Chan) : (s.setLocalPriority p).outputs = s.outputs := rfl
@[simp] theorem State.setLocalPriority_draws (p : Chan) : (s.setLocalPriority p).draws = s.draws := rfl

/-! ### setFunnel -/

@[simp] theorem State.setFunnel_regs (f : Nat) (e : Funnel) : (s.setFunnel f e).regs = s.regs := rfl
@[simp] theorem State.setFunnel_pc (f : Nat) (e : Funnel) : (s.setFunnel f e).pc = s.pc := rfl
@[simp] theorem State.setFunnel_psw (f : Nat) (e : Funnel) : (s.setFunnel f e).psw = s.psw := rfl
@[simp] theorem State.setFunnel_lp (f : Nat) (e : Funnel) : (s.setFunnel f e).lp = s.lp := rfl
@[simp] theorem State.setFunnel_chanMask (f : Nat) (e : Funnel) : (s.setFunnel f e).chanMask = s.chanMask := rfl
@[simp] theorem State.setFunnel_chanPrio (f : Nat) (e : Funnel) : (s.setFunnel f e).chanPrio = s.chanPrio := rfl
@[simp] theorem State.setFunnel_enabled (f : Nat) (e : Funnel) : (s.setFunnel f e).enabled = s.enabled := rfl
@[simp] theorem State.setFunnel_cpuTimer (f : Nat) (e : Funnel) : (s.setFunnel f e).cpuTimer = s.cpuTimer := rfl
@[simp] theorem State.setFunnel_clock (f : Nat) (e : Funnel) : (s.setFunnel f e).clock = s.clock := rfl
@[simp] theorem State.setFunnel_machId (f : Nat) (e : Funnel) : (s.setFunnel f e).machId = s.machId := rfl
@[simp] theorem State.setFunnel_processId (f : Nat) (e : Funnel) : (s.setFunnel f e).processId = s.processId := rfl
@[simp] theorem State.setFunnel_versionId (f : Nat) (e : Funnel) : (s.setFunnel f e).versionId = s.versionId := rfl
@[simp] theorem State.setFunnel_links (f : Nat) (e : Funnel) : (s.setFunnel f e).links = s.links := rfl
@[simp] theorem State.setFunnel_mem (f : Nat) (e : Funnel) : (s.setFunnel f e).mem = s.mem := rfl
@[simp] theorem State.setFunnel_pages (f : Nat) (e : Funnel) : (s.setFunnel f e).pages = s.pages := rfl
@[simp] theorem State.setFunnel_lastPc (f : Nat) (e : Funnel) : (s.setFunnel f e).lastPc = s.lastPc := rfl
@[simp] theorem State.setFunnel_blocked (f : Nat) (e : Funnel) : (s.setFunnel f e).blocked = s.blocked := rfl
@[simp] theorem State.setFunnel_manager (f : Nat) (e : Funnel) : (s.setFunnel f e).manager = s.manager := rfl
@[simp] theorem State.setFunnel_ended (f : Nat) (e : Funnel) : (s.setFunnel f e).ended = s.ended := rfl
@[simp] theorem State.setFunnel_params (f : Nat) (e : Funnel) : (s.setFunnel f e).params = s.params := rfl
@[simp] theorem State.setFunnel_arrivals (f : Nat) (e : Funnel) : (s.setFunnel f e).arrivals = s.arrivals := rfl
@[simp] theorem State.setFunnel_outputs (f : Nat) (e : Funnel) : (s.setFunnel f e).outputs = s.outputs := rfl
@[simp] theorem State.setFunnel_draws (f : Nat) (e : Funnel) : (s.setFunnel f e).draws = s.draws := rfl

/-! ### enqueue -/

@[simp] theorem State.enqueue_regs (f : Nat) (e : Funnel) (m : Message) : (s.enqueue f e m).regs = s.regs := rfl
@[simp] theorem State.enqueue_pc (f : Nat) (e : Funnel) (m : Message) : (s.enqueue f e m).pc = s.pc := rfl
@[simp] theorem State.enqueue_psw (f : Nat) (e : Funnel) (m : Message) : (s.enqueue f e m).psw = s.psw := rfl
@[simp] theorem State.enqueue_lp (f : Nat) (e : Funnel) (m : Message) : (s.enqueue f e m).lp = s.lp := rfl
@[simp] theorem State.enqueue_chanMask (f : Nat) (e : Funnel) (m : Message) : (s.enqueue f e m).chanMask = s.chanMask := rfl
@[simp] theorem State.enqueue_chanPrio (f : Nat) (e : Funnel) (m : Message) : (s.enqueue f e m).chanPrio = s.chanPrio := rfl
@[simp] theorem State.enqueue_enabled (f : Nat) (e : Funnel) (m : Message) : (s.enqueue f e m).enabled = s.enabled := rfl
@[simp] theorem State.enqueue_cpuTimer (f : Nat) (e : Funnel) (m : Message) : (s.enqueue f e m).cpuTimer = s.cpuTimer := rfl
@[simp] theorem State.enqueue_clock (f : Nat) (e : Funnel) (m : Message) : (s.enqueue f e m).clock = s.clock := rfl
@[simp] theorem State.enqueue_machId (f : Nat) (e : Funnel) (m : Message) : (s.enqueue f e m).machId = s.machId := rfl
@[simp] theorem State.enqueue_processId (f : Nat) (e : Funnel) (m : Message) : (s.enqueue f e m).processId = s.processId := rfl
@[simp] theorem State.enqueue_versionId (f : Nat) (e : Funnel) (m : Message) : (s.enqueue f e m).versionId = s.versionId := rfl
@[simp] theorem State.enqueue_links (f : Nat) (e : Funnel) (m : Message) : (s.enqueue f e m).links = s.links := rfl
@[simp] theorem State.enqueue_mem (f : Nat) (e : Funnel) (m : Message) : (s.enqueue f e m).mem = s.mem := rfl
@[simp] theorem State.enqueue_pages (f : Nat) (e : Funnel) (m : Message) : (s.enqueue f e m).pages = s.pages := rfl
@[simp] theorem State.enqueue_lastPc (f : Nat) (e : Funnel) (m : Message) : (s.enqueue f e m).lastPc = s.lastPc := rfl
@[simp] theorem State.enqueue_blocked (f : Nat) (e : Funnel) (m : Message) : (s.enqueue f e m).blocked = s.blocked := rfl
@[simp] theorem State.enqueue_manager (f : Nat) (e : Funnel) (m : Message) : (s.enqueue f e m).manager = s.manager := rfl
@[simp] theorem State.enqueue_ended (f : Nat) (e : Funnel) (m : Message) : (s.enqueue f e m).ended = s.ended := rfl
@[simp] theorem State.enqueue_params (f : Nat) (e : Funnel) (m : Message) : (s.enqueue f e m).params = s.params := rfl
@[simp] theorem State.enqueue_arrivals (f : Nat) (e : Funnel) (m : Message) : (s.enqueue f e m).arrivals = s.arrivals := rfl
@[simp] theorem State.enqueue_outputs (f : Nat) (e : Funnel) (m : Message) : (s.enqueue f e m).outputs = s.outputs := rfl
@[simp] theorem State.enqueue_draws (f : Nat) (e : Funnel) (m : Message) : (s.enqueue f e m).draws = s.draws := rfl

/-! ### dequeue -/

@[simp] theorem State.dequeue_regs (f : Nat) (e : Funnel) : (s.dequeue f e).regs = s.regs := rfl
@[simp] theorem State.dequeue_pc (f : Nat) (e : Funnel) : (s.dequeue f e).pc = s.pc := rfl
@[simp] theorem State.dequeue_psw (f : Nat) (e : Funnel) : (s.dequeue f e).psw = s.psw := rfl
@[simp] theorem State.dequeue_lp (f : Nat) (e : Funnel) : (s.dequeue f e).lp = s.lp := rfl
@[simp] theorem State.dequeue_chanMask (f : Nat) (e : Funnel) : (s.dequeue f e).chanMask = s.chanMask := rfl
@[simp] theorem State.dequeue_chanPrio (f : Nat) (e : Funnel) : (s.dequeue f e).chanPrio = s.chanPrio := rfl
@[simp] theorem State.dequeue_enabled (f : Nat) (e : Funnel) : (s.dequeue f e).enabled = s.enabled := rfl
@[simp] theorem State.dequeue_cpuTimer (f : Nat) (e : Funnel) : (s.dequeue f e).cpuTimer = s.cpuTimer := rfl
@[simp] theorem State.dequeue_clock (f : Nat) (e : Funnel) : (s.dequeue f e).clock = s.clock := rfl
@[simp] theorem State.dequeue_machId (f : Nat) (e : Funnel) : (s.dequeue f e).machId = s.machId := rfl
@[simp] theorem State.dequeue_processId (f : Nat) (e : Funnel) : (s.dequeue f e).processId = s.processId := rfl
@[simp] theorem State.dequeue_versionId (f : Nat) (e : Funnel) : (s.dequeue f e).versionId = s.versionId := rfl
@[simp] theorem State.dequeue_links (f : Nat) (e : Funnel) : (s.dequeue f e).links = s.links := rfl
@[simp] theorem State.dequeue_mem (f : Nat) (e : Funnel) : (s.dequeue f e).mem = s.mem := rfl
@[simp] theorem State.dequeue_pages (f : Nat) (e : Funnel) : (s.dequeue f e).pages = s.pages := rfl
@[simp] theorem State.dequeue_lastPc (f : Nat) (e : Funnel) : (s.dequeue f e).lastPc = s.lastPc := rfl
@[simp] theorem State.dequeue_blocked (f : Nat) (e : Funnel) : (s.dequeue f e).blocked = s.blocked := rfl
@[simp] theorem State.dequeue_manager (f : Nat) (e : Funnel) : (s.dequeue f e).manager = s.manager := rfl
@[simp] theorem State.dequeue_ended (f : Nat) (e : Funnel) : (s.dequeue f e).ended = s.ended := rfl
@[simp] theorem State.dequeue_params (f : Nat) (e : Funnel) : (s.dequeue f e).params = s.params := rfl
@[simp] theorem State.dequeue_arrivals (f : Nat) (e : Funnel) : (s.dequeue f e).arrivals = s.arrivals := rfl
@[simp] theorem State.dequeue_outputs (f : Nat) (e : Funnel) : (s.dequeue f e).outputs = s.outputs := rfl
@[simp] theorem State.dequeue_draws (f : Nat) (e : Funnel) : (s.dequeue f e).draws = s.draws := rfl

/-! ### putLink -/

@[simp] theorem State.putLink_regs (n : Nat) (e : Lte) : (s.putLink n e).regs = s.regs := rfl
@[simp] theorem State.putLink_pc (n : Nat) (e : Lte) : (s.putLink n e).pc = s.pc := rfl
@[simp] theorem State.putLink_psw (n : Nat) (e : Lte) : (s.putLink n e).psw = s.psw := rfl
@[simp] theorem State.putLink_lp (n : Nat) (e : Lte) : (s.putLink n e).lp = s.lp := rfl
@[simp] theorem State.putLink_chanMask (n : Nat) (e : Lte) : (s.putLink n e).chanMask = s.chanMask := rfl
@[simp] theorem State.putLink_chanPrio (n : Nat) (e : Lte) : (s.putLink n e).chanPrio = s.chanPrio := rfl
@[simp] theorem State.putLink_enabled (n : Nat) (e : Lte) : (s.putLink n e).enabled = s.enabled := rfl
@[simp] theorem State.putLink_cpuTimer (n : Nat) (e : Lte) : (s.putLink n e).cpuTimer = s.cpuTimer := rfl
@[simp] theorem State.putLink_clock (n : Nat) (e : Lte) : (s.putLink n e).clock = s.clock := rfl
@[simp] theorem State.putLink_machId (n : Nat) (e : Lte) : (s.putLink n e).machId = s.machId := rfl
@[simp] theorem State.putLink_processId (n : Nat) (e : Lte) : (s.putLink n e).processId = s.processId := rfl
@[simp] theorem State.putLink_versionId (n : Nat) (e : Lte) : (s.putLink n e).versionId = s.versionId := rfl
@[simp] theorem State.putLink_funnels (n : Nat) (e : Lte) : (s.putLink n e).funnels = s.funnels := rfl
@[simp] theorem State.putLink_mem (n : Nat) (e : Lte) : (s.putLink n e).mem = s.mem := rfl
@[simp] theorem State.putLink_pages (n : Nat) (e : Lte) : (s.putLink n e).pages = s.pages := rfl
@[simp] theorem State.putLink_lastPc (n : Nat) (e : Lte) : (s.putLink n e).lastPc = s.lastPc := rfl
@[simp] theorem State.putLink_blocked (n : Nat) (e : Lte) : (s.putLink n e).blocked = s.blocked := rfl
@[simp] theorem State.putLink_manager (n : Nat) (e : Lte) : (s.putLink n e).manager = s.manager := rfl
@[simp] theorem State.putLink_ended (n : Nat) (e : Lte) : (s.putLink n e).ended = s.ended := rfl
@[simp] theorem State.putLink_params (n : Nat) (e : Lte) : (s.putLink n e).params = s.params := rfl
@[simp] theorem State.putLink_arrivals (n : Nat) (e : Lte) : (s.putLink n e).arrivals = s.arrivals := rfl
@[simp] theorem State.putLink_outputs (n : Nat) (e : Lte) : (s.putLink n e).outputs = s.outputs := rfl
@[simp] theorem State.putLink_draws (n : Nat) (e : Lte) : (s.putLink n e).draws = s.draws := rfl

/-! ### dropLink -/

@[simp] theorem State.dropLink_regs (n : Nat) : (s.dropLink n).regs = s.regs := rfl
@[simp] theorem State.dropLink_pc (n : Nat) : (s.dropLink n).pc = s.pc := rfl
@[simp] theorem State.dropLink_psw (n : Nat) : (s.dropLink n).psw = s.psw := rfl
@[simp] theorem State.dropLink_lp (n : Nat) : (s.dropLink n).lp = s.lp := rfl
@[simp] theorem State.dropLink_chanMask (n : Nat) : (s.dropLink n).chanMask = s.chanMask := rfl
@[simp] theorem State.dropLink_chanPrio (n : Nat) : (s.dropLink n).chanPrio = s.chanPrio := rfl
@[simp] theorem State.dropLink_enabled (n : Nat) : (s.dropLink n).enabled = s.enabled := rfl
@[simp] theorem State.dropLink_cpuTimer (n : Nat) : (s.dropLink n).cpuTimer = s.cpuTimer := rfl
@[simp] theorem State.dropLink_clock (n : Nat) : (s.dropLink n).clock = s.clock := rfl
@[simp] theorem State.dropLink_machId (n : Nat) : (s.dropLink n).machId = s.machId := rfl
@[simp] theorem State.dropLink_processId (n : Nat) : (s.dropLink n).processId = s.processId := rfl
@[simp] theorem State.dropLink_versionId (n : Nat) : (s.dropLink n).versionId = s.versionId := rfl
@[simp] theorem State.dropLink_funnels (n : Nat) : (s.dropLink n).funnels = s.funnels := rfl
@[simp] theorem State.dropLink_mem (n : Nat) : (s.dropLink n).mem = s.mem := rfl
@[simp] theorem State.dropLink_pages (n : Nat) : (s.dropLink n).pages = s.pages := rfl
@[simp] theorem State.dropLink_lastPc (n : Nat) : (s.dropLink n).lastPc = s.lastPc := rfl
@[simp] theorem State.dropLink_blocked (n : Nat) : (s.dropLink n).blocked = s.blocked := rfl
@[simp] theorem State.dropLink_manager (n : Nat) : (s.dropLink n).manager = s.manager := rfl
@[simp] theorem State.dropLink_ended (n : Nat) : (s.dropLink n).ended = s.ended := rfl
@[simp] theorem State.dropLink_params (n : Nat) : (s.dropLink n).params = s.params := rfl
@[simp] theorem State.dropLink_arrivals (n : Nat) : (s.dropLink n).arrivals = s.arrivals := rfl
@[simp] theorem State.dropLink_outputs (n : Nat) : (s.dropLink n).outputs = s.outputs := rfl
@[simp] theorem State.dropLink_draws (n : Nat) : (s.dropLink n).draws = s.draws := rfl

/-! ### putFunnel -/

@[simp] theorem State.putFunnel_regs (f : Nat) (e : Funnel) : (s.putFunnel f e).regs = s.regs := rfl
@[simp] theorem State.putFunnel_pc (f : Nat) (e : Funnel) : (s.putFunnel f e).pc = s.pc := rfl
@[simp] theorem State.putFunnel_psw (f : Nat) (e : Funnel) : (s.putFunnel f e).psw = s.psw := rfl
@[simp] theorem State.putFunnel_lp (f : Nat) (e : Funnel) : (s.putFunnel f e).lp = s.lp := rfl
@[simp] theorem State.putFunnel_chanMask (f : Nat) (e : Funnel) : (s.putFunnel f e).chanMask = s.chanMask := rfl
@[simp] theorem State.putFunnel_chanPrio (f : Nat) (e : Funnel) : (s.putFunnel f e).chanPrio = s.chanPrio := rfl
@[simp] theorem State.putFunnel_cpuTimer (f : Nat) (e : Funnel) : (s.putFunnel f e).cpuTimer = s.cpuTimer := rfl
@[simp] theorem State.putFunnel_clock (f : Nat) (e : Funnel) : (s.putFunnel f e).clock = s.clock := rfl
@[simp] theorem State.putFunnel_machId (f : Nat) (e : Funnel) : (s.putFunnel f e).machId = s.machId := rfl
@[simp] theorem State.putFunnel_processId (f : Nat) (e : Funnel) : (s.putFunnel f e).processId = s.processId := rfl
@[simp] theorem State.putFunnel_versionId (f : Nat) (e : Funnel) : (s.putFunnel f e).versionId = s.versionId := rfl
@[simp] theorem State.putFunnel_links (f : Nat) (e : Funnel) : (s.putFunnel f e).links = s.links := rfl
@[simp] theorem State.putFunnel_mem (f : Nat) (e : Funnel) : (s.putFunnel f e).mem = s.mem := rfl
@[simp] theorem State.putFunnel_pages (f : Nat) (e : Funnel) : (s.putFunnel f e).pages = s.pages := rfl
@[simp] theorem State.putFunnel_lastPc (f : Nat) (e : Funnel) : (s.putFunnel f e).lastPc = s.lastPc := rfl
@[simp] theorem State.putFunnel_blocked (f : Nat) (e : Funnel) : (s.putFunnel f e).blocked = s.blocked := rfl
@[simp] theorem State.putFunnel_manager (f : Nat) (e : Funnel) : (s.putFunnel f e).manager = s.manager := rfl
@[simp] theorem State.putFunnel_ended (f : Nat) (e : Funnel) : (s.putFunnel f e).ended = s.ended := rfl
@[simp] theorem State.putFunnel_params (f : Nat) (e : Funnel) : (s.putFunnel f e).params = s.params := rfl
@[simp] theorem State.putFunnel_arrivals (f : Nat) (e : Funnel) : (s.putFunnel f e).arrivals = s.arrivals := rfl
@[simp] theorem State.putFunnel_outputs (f : Nat) (e : Funnel) : (s.putFunnel f e).outputs = s.outputs := rfl
@[simp] theorem State.putFunnel_draws (f : Nat) (e : Funnel) : (s.putFunnel f e).draws = s.draws := rfl

/-! ### dropFunnel -/

@[simp] theorem State.dropFunnel_regs (f : Nat) : (s.dropFunnel f).regs = s.regs := rfl
@[simp] theorem State.dropFunnel_pc (f : Nat) : (s.dropFunnel f).pc = s.pc := rfl
@[simp] theorem State.dropFunnel_psw (f : Nat) : (s.dropFunnel f).psw = s.psw := rfl
@[simp] theorem State.dropFunnel_lp (f : Nat) : (s.dropFunnel f).lp = s.lp := rfl
@[simp] theorem State.dropFunnel_chanMask (f : Nat) : (s.dropFunnel f).chanMask = s.chanMask := rfl
@[simp] theorem State.dropFunnel_chanPrio (f : Nat) : (s.dropFunnel f).chanPrio = s.chanPrio := rfl
@[simp] theorem State.dropFunnel_enabled (f : Nat) : (s.dropFunnel f).enabled = s.enabled := rfl
@[simp] theorem State.dropFunnel_cpuTimer (f : Nat) : (s.dropFunnel f).cpuTimer = s.cpuTimer := rfl
@[simp] theorem State.dropFunnel_clock (f : Nat) : (s.dropFunnel f).clock = s.clock := rfl
@[simp] theorem State.dropFunnel_machId (f : Nat) : (s.dropFunnel f).machId = s.machId := rfl
@[simp] theorem State.dropFunnel_processId (f : Nat) : (s.dropFunnel f).processId = s.processId := rfl
@[simp] theorem State.dropFunnel_versionId (f : Nat) : (s.dropFunnel f).versionId = s.versionId := rfl
@[simp] theorem State.dropFunnel_links (f : Nat) : (s.dropFunnel f).links = s.links := rfl
@[simp] theorem State.dropFunnel_mem (f : Nat) : (s.dropFunnel f).mem = s.mem := rfl
@[simp] theorem State.dropFunnel_pages (f : Nat) : (s.dropFunnel f).pages = s.pages := rfl
@[simp] theorem State.dropFunnel_lastPc (f : Nat) : (s.dropFunnel f).lastPc = s.lastPc := rfl
@[simp] theorem State.dropFunnel_blocked (f : Nat) : (s.dropFunnel f).blocked = s.blocked := rfl
@[simp] theorem State.dropFunnel_manager (f : Nat) : (s.dropFunnel f).manager = s.manager := rfl
@[simp] theorem State.dropFunnel_ended (f : Nat) : (s.dropFunnel f).ended = s.ended := rfl
@[simp] theorem State.dropFunnel_params (f : Nat) : (s.dropFunnel f).params = s.params := rfl
@[simp] theorem State.dropFunnel_arrivals (f : Nat) : (s.dropFunnel f).arrivals = s.arrivals := rfl
@[simp] theorem State.dropFunnel_outputs (f : Nat) : (s.dropFunnel f).outputs = s.outputs := rfl
@[simp] theorem State.dropFunnel_draws (f : Nat) : (s.dropFunnel f).draws = s.draws := rfl

/-! ### emit -/

@[simp] theorem State.emit_regs (e : OutEvent) : (s.emit e).regs = s.regs := rfl
@[simp] theorem State.emit_pc (e : OutEvent) : (s.emit e).pc = s.pc := rfl
@[simp] theorem State.emit_psw (e : OutEvent) : (s.emit e).psw = s.psw := rfl
@[simp] theorem State.emit_lp (e : OutEvent) : (s.emit e).lp = s.lp := rfl
@[simp] theorem State.emit_chanMask (e : OutEvent) : (s.emit e).chanMask = s.chanMask := rfl
@[simp] theorem State.emit_chanPrio (e : OutEvent) : (s.emit e).chanPrio = s.chanPrio := rfl
@[simp] theorem State.emit_enabled (e : OutEvent) : (s.emit e).enabled = s.enabled := rfl
@[simp] theorem State.emit_cpuTimer (e : OutEvent) : (s.emit e).cpuTimer = s.cpuTimer := rfl
@[simp] theorem State.emit_clock (e : OutEvent) : (s.emit e).clock = s.clock := rfl
@[simp] theorem State.emit_machId (e : OutEvent) : (s.emit e).machId = s.machId := rfl
@[simp] theorem State.emit_processId (e : OutEvent) : (s.emit e).processId = s.processId := rfl
@[simp] theorem State.emit_versionId (e : OutEvent) : (s.emit e).versionId = s.versionId := rfl
@[simp] theorem State.emit_links (e : OutEvent) : (s.emit e).links = s.links := rfl
@[simp] theorem State.emit_funnels (e : OutEvent) : (s.emit e).funnels = s.funnels := rfl
@[simp] theorem State.emit_mem (e : OutEvent) : (s.emit e).mem = s.mem := rfl
@[simp] theorem State.emit_pages (e : OutEvent) : (s.emit e).pages = s.pages := rfl
@[simp] theorem State.emit_lastPc (e : OutEvent) : (s.emit e).lastPc = s.lastPc := rfl
@[simp] theorem State.emit_blocked (e : OutEvent) : (s.emit e).blocked = s.blocked := rfl
@[simp] theorem State.emit_manager (e : OutEvent) : (s.emit e).manager = s.manager := rfl
@[simp] theorem State.emit_ended (e : OutEvent) : (s.emit e).ended = s.ended := rfl
@[simp] theorem State.emit_params (e : OutEvent) : (s.emit e).params = s.params := rfl
@[simp] theorem State.emit_arrivals (e : OutEvent) : (s.emit e).arrivals = s.arrivals := rfl
@[simp] theorem State.emit_draws (e : OutEvent) : (s.emit e).draws = s.draws := rfl

/-! ### cleanse -/

@[simp] theorem State.cleanse_regs (a n : Nat) : (s.cleanse a n).regs = s.regs := rfl
@[simp] theorem State.cleanse_pc (a n : Nat) : (s.cleanse a n).pc = s.pc := rfl
@[simp] theorem State.cleanse_psw (a n : Nat) : (s.cleanse a n).psw = s.psw := rfl
@[simp] theorem State.cleanse_lp (a n : Nat) : (s.cleanse a n).lp = s.lp := rfl
@[simp] theorem State.cleanse_chanMask (a n : Nat) : (s.cleanse a n).chanMask = s.chanMask := rfl
@[simp] theorem State.cleanse_chanPrio (a n : Nat) : (s.cleanse a n).chanPrio = s.chanPrio := rfl
@[simp] theorem State.cleanse_enabled (a n : Nat) : (s.cleanse a n).enabled = s.enabled := rfl
@[simp] theorem State.cleanse_cpuTimer (a n : Nat) : (s.cleanse a n).cpuTimer = s.cpuTimer := rfl
@[simp] theorem State.cleanse_clock (a n : Nat) : (s.cleanse a n).clock = s.clock := rfl
@[simp] theorem State.cleanse_machId (a n : Nat) : (s.cleanse a n).machId = s.machId := rfl
@[simp] theorem State.cleanse_processId (a n : Nat) : (s.cleanse a n).processId = s.processId := rfl
@[simp] theorem State.cleanse_versionId (a n : Nat) : (s.cleanse a n).versionId = s.versionId := rfl
@[simp] theorem State.cleanse_links (a n : Nat) : (s.cleanse a n).links = s.links := rfl
@[simp] theorem State.cleanse_funnels (a n : Nat) : (s.cleanse a n).funnels = s.funnels := rfl
@[simp] theorem State.cleanse_pages (a n : Nat) : (s.cleanse a n).pages = s.pages := rfl
@[simp] theorem State.cleanse_lastPc (a n : Nat) : (s.cleanse a n).lastPc = s.lastPc := rfl
@[simp] theorem State.cleanse_blocked (a n : Nat) : (s.cleanse a n).blocked = s.blocked := rfl
@[simp] theorem State.cleanse_manager (a n : Nat) : (s.cleanse a n).manager = s.manager := rfl
@[simp] theorem State.cleanse_ended (a n : Nat) : (s.cleanse a n).ended = s.ended := rfl
@[simp] theorem State.cleanse_params (a n : Nat) : (s.cleanse a n).params = s.params := rfl
@[simp] theorem State.cleanse_arrivals (a n : Nat) : (s.cleanse a n).arrivals = s.arrivals := rfl
@[simp] theorem State.cleanse_outputs (a n : Nat) : (s.cleanse a n).outputs = s.outputs := rfl
@[simp] theorem State.cleanse_draws (a n : Nat) : (s.cleanse a n).draws = s.draws := rfl

/-! ### tick -/

@[simp] theorem State.tick_regs : (s.tick ).regs = s.regs := rfl
@[simp] theorem State.tick_pc : (s.tick ).pc = s.pc := rfl
@[simp] theorem State.tick_psw : (s.tick ).psw = s.psw := rfl
@[simp] theorem State.tick_lp : (s.tick ).lp = s.lp := rfl
@[simp] theorem State.tick_chanMask : (s.tick ).chanMask = s.chanMask := rfl
@[simp] theorem State.tick_chanPrio : (s.tick ).chanPrio = s.chanPrio := rfl
@[simp] theorem State.tick_enabled : (s.tick ).enabled = s.enabled := rfl
@[simp] theorem State.tick_machId : (s.tick ).machId = s.machId := rfl
@[simp] theorem State.tick_processId : (s.tick ).processId = s.processId := rfl
@[simp] theorem State.tick_versionId : (s.tick ).versionId = s.versionId := rfl
@[simp] theorem State.tick_links : (s.tick ).links = s.links := rfl
@[simp] theorem State.tick_funnels : (s.tick ).funnels = s.funnels := rfl
@[simp] theorem State.tick_mem : (s.tick ).mem = s.mem := rfl
@[simp] theorem State.tick_pages : (s.tick ).pages = s.pages := rfl
@[simp] theorem State.tick_lastPc : (s.tick ).lastPc = s.lastPc := rfl
@[simp] theorem State.tick_blocked : (s.tick ).blocked = s.blocked := rfl
@[simp] theorem State.tick_manager : (s.tick ).manager = s.manager := rfl
@[simp] theorem State.tick_ended : (s.tick ).ended = s.ended := rfl
@[simp] theorem State.tick_params : (s.tick ).params = s.params := rfl
@[simp] theorem State.tick_arrivals : (s.tick ).arrivals = s.arrivals := rfl
@[simp] theorem State.tick_outputs : (s.tick ).outputs = s.outputs := rfl

/-! ### The changed field -/

@[simp] theorem State.setPc_pc (a : Addr) : (s.setPc a).pc = a := rfl
@[simp] theorem State.poke_mem (a : Addr) (bs : List Byte) : (s.poke a bs).mem = writeBytes s.mem a bs := rfl
@[simp] theorem State.setPswBit_psw (i : Nat) (b : Bool) : (s.setPswBit i b).psw = setWordBit s.psw i b := rfl
@[simp] theorem State.setCi_psw (b : Bool) : (s.setCi b).psw = setWordBit s.psw 9 b := rfl
@[simp] theorem State.setCd_psw (b : Bool) : (s.setCd b).psw = setWordBit s.psw 10 b := rfl
@[simp] theorem State.setSs_psw (b : Bool) : (s.setSs b).psw = setWordBit s.psw 12 b := rfl
@[simp] theorem State.setOccurred_psw (c : ExcCode) :
    (s.setOccurred c).psw = setWordBit s.psw c.occurredBit true := rfl
@[simp] theorem State.setLocalPriority_lp (p : Chan) : (s.setLocalPriority p).lp = min p s.hpac := rfl
@[simp] theorem State.emit_outputs (e : OutEvent) : (s.emit e).outputs = s.outputs ++ [e] := rfl

/-! ### Registers -/

/-- A register as the vector's element. -/
theorem State.reg_eq (r : Reg) : s.reg r = s.regs[r.toNat]'r.isLt := rfl

@[simp] theorem State.reg_setReg_same (r : Reg) (v : Word) : (s.setReg r v).reg r = v := by
  rw [State.reg_eq]; exact Vector.getElem_set_self r.isLt

theorem State.reg_setReg_ne {r q : Reg} (v : Word) (h : q ≠ r) : (s.setReg r v).reg q = s.reg q := by
  rw [State.reg_eq, State.reg_eq]
  exact Vector.getElem_set_ne r.isLt q.isLt fun e => h (BitVec.eq_of_toNat_eq e.symm)

theorem State.reg_setReg (r q : Reg) (v : Word) :
    (s.setReg r v).reg q = if q = r then v else s.reg q := by
  split
  · next h => subst h; simp
  · next h => exact s.reg_setReg_ne v h

@[simp] theorem State.reg_setPc (a : Addr) (q : Reg) : (s.setPc a).reg q = s.reg q := rfl
@[simp] theorem State.reg_poke (a : Addr) (bs : List Byte) (q : Reg) : (s.poke a bs).reg q = s.reg q := rfl
@[simp] theorem State.reg_setPswBit (i : Nat) (b : Bool) (q : Reg) : (s.setPswBit i b).reg q = s.reg q := rfl

/-! ### PSW bits -/

theorem wordBit_setWordBit (w : Word) (i j : Nat) (b : Bool) (hi : i < 64) (hj : j < 64) :
    wordBit (setWordBit w i b) j = if j = i then b else wordBit w j := by
  have hm : ∀ k, (bitMask i).getLsbD k = decide (k = 63 - i) := fun k => by
    rw [bitMask, BitVec.getLsbD_twoPow]
    by_cases h : k = 63 - i
    · subst h; simp; omega
    · simp [h, Ne.symm h]
  have hk : 64 - 1 - j = 63 - j := by omega
  have hl : 63 - j < 64 := by omega
  have e1 : (63 - j = 63 - i) ↔ j = i := by omega
  unfold wordBit setWordBit BitVec.getMsbD
  cases b
  · simp only [hk, hj, decide_true, Bool.true_and, Bool.false_eq_true, if_false, BitVec.getLsbD_and,
      BitVec.getLsbD_not, hl, hm, e1]
    by_cases h : j = i <;> simp [h]
  · simp only [hk, hj, decide_true, Bool.true_and, if_true, BitVec.getLsbD_or, hm, e1]
    by_cases h : j = i <;> simp [h]

theorem State.pswBit_setPswBit (i j : Nat) (b : Bool) (hi : i < 64) (hj : j < 64) :
    (s.setPswBit i b).pswBit j = if j = i then b else s.pswBit j :=
  wordBit_setWordBit s.psw i j b hi hj

end Sys2Proof.Machine
end

