-- ==== Sys2Proof/Laws/Ops.lean ====
section
/-! SUPPORT. For each shared operation, what it can do, so that no later proof unfolds it. -/

namespace Sys2Proof.Machine

open Sys2Proof

variable {s t : State} {i : Instr}

/-! ### Results -/

@[simp] theorem Res.bind_next (f : State → Res) : Res.bind (.next s) f = f s := rfl
@[simp] theorem Res.bind_fault (e : Fault) (f : State → Res) : Res.bind (.fault e) f = .fault e := rfl
@[simp] theorem Res.bind_refused (e : Refusal) (f : State → Res) : Res.bind (.refused e) f = .refused e := rfl

/-- A sequence that answers a next state went through a next state. -/
theorem Res.bind_eq_next {r : Res} {f : State → Res} (h : Res.bind r f = .next t) :
    ∃ u, r = .next u ∧ f u = .next t := by
  cases r with
  | next u => exact ⟨u, rfl, h⟩
  | fault e => cases h
  | refused e => cases h

/-! ### The ends of an instruction -/

theorem advance_eq : advance i s = .next (s.setPc (s.nextPc i)) := rfl
theorem finishReg_eq (r : Reg) (v : Word) : finishReg i r v s = .next ((s.setReg r v).setPc (s.nextPc i)) := rfl
theorem finishStatus_eq (x : Reg) (n : Nat) :
    finishStatus i x n s = .next ((s.setReg x (BitVec.ofNat 64 n)).setPc (s.nextPc i)) := rfl

/-! ### Operands -/

theorem withLast_some {e : Ext} {n : Nat} {o : GOp} {k : Word → Res} {b : Word} (h : s.lastVal e n o = some b) :
    withLast i e n o s k = k b := by simp [withLast, h]

theorem withLast_none {e : Ext} {n : Nat} {o : GOp} {k : Word → Res} (h : s.lastVal e n o = none) :
    withLast i e n o s k = accessViolation i s := by simp [withLast, h]

theorem State.store_of_allowed {a : Addr} {bs : List Byte} (h : s.allowedRange .write a bs.length = true) :
    s.store a bs = some (s.poke a bs) := by simp [State.store, h]

theorem State.store_of_denied {a : Addr} {bs : List Byte} (h : s.allowedRange .write a bs.length = false) :
    s.store a bs = none := by simp [State.store, h]

/-- A store that is made is the bytes put into memory, allowed on every byte. -/
theorem State.store_eq_some {a : Addr} {bs : List Byte} (h : s.store a bs = some t) :
    t = s.poke a bs ∧ s.allowedRange .write a bs.length = true := by
  unfold State.store at h
  split at h
  · exact ⟨(Option.some.inj h).symm, ‹_›⟩
  · cases h

theorem withStore_allowed {a : Addr} {bs : List Byte} {k : State → Res}
    (h : s.allowedRange .write a bs.length = true) : withStore i a bs s k = k (s.poke a bs) := by
  simp [withStore, State.store_of_allowed h]

theorem withStore_denied {a : Addr} {bs : List Byte} {k : State → Res}
    (h : s.allowedRange .write a bs.length = false) : withStore i a bs s k = accessViolation i s := by
  simp [withStore, State.store_of_denied h]

theorem State.load_of_allowed {a : Addr} {n : Nat} (h : s.allowedRange .read a n = true) :
    s.load a n = some (readBytes s.mem a n) := by simp [State.load, h]

theorem State.load_of_denied {a : Addr} {n : Nat} (h : s.allowedRange .read a n = false) : s.load a n = none := by
  simp [State.load, h]

theorem State.loadNat_of_allowed {a : Addr} {n : Nat} (h : s.allowedRange .read a n = true) :
    s.loadNat a n = some (beNat (readBytes s.mem a n)) := by simp [State.loadNat, State.load_of_allowed h]

theorem withField_allowed {a : Addr} {n : Nat} {k : Nat → Res} (h : s.allowedRange .read a n = true) :
    withField i a n s k = k (beNat (readBytes s.mem a n)) := by simp [withField, State.loadNat_of_allowed h]

@[simp] theorem lowBytes_length (n : Nat) (w : Word) : (lowBytes n w).length = n := by
  simp [lowBytes, beBytes_length]

@[simp] theorem wordBytes_length (w : Word) : (wordBytes w).length = 8 := by simp [wordBytes, beBytes_length]

/-- A word comes back from its eight bytes. -/
@[simp] theorem wordOf_wordBytes (w : Word) : wordOf (wordBytes w) = w := by
  apply BitVec.eq_of_toNat_eq
  have h := w.isLt
  simp only [wordOf, wordBytes, beNat_beBytes, BitVec.toNat_ofNat]
  omega

/-! ### Numeric strings (R121, R370, R371) -/

/-- The bytes of a register as its bit fields, byte 0 the most significant. -/
theorem wordBytes_eq (w : Word) : wordBytes w = (List.range 8).map fun k => w.extractLsb' (56 - 8 * k) 8 := by
  simp only [wordBytes, beBytes, List.range_succ, List.range_zero, List.nil_append, List.map_cons, List.map_nil,
    List.cons_append]
  simp [BitVec.extractLsb', Nat.shiftRight_eq_div_pow]

/-- A register is a numeric string if each byte is a digit. -/
theorem isNumeric_iff {w : Word} :
    isNumeric w = true ↔ ∀ k, k < 8 → isDigit (w.extractLsb' (56 - 8 * k) 8) = true := by
  simp [isNumeric, wordBytes_eq, List.all_map]

/-- The digit of a byte of the digit set. -/
theorem digit_of_isDigit {b : Byte} (h : isDigit b = true) : b.toNat % 16 = b.toNat - 0x30 ∧ b.toNat - 0x30 < 10 := by
  simp only [isDigit, Bool.or_eq_true, decide_eq_true_eq, Bool.and_eq_true] at h
  rcases h with rfl | ⟨h1, h2⟩
  · decide
  · omega

/-- Digits read as a number are their sum by place. -/
theorem foldl_digits (d : Nat → Nat) (m : Nat) : ((List.range m).map d).foldl (fun n d => 10 * n + d) 0 =
    ((List.range m).map fun k => d k * 10 ^ (m - 1 - k)).sum := by
  induction m with
  | zero => rfl
  | succ m ih =>
    have e : ((List.range m).map fun k => d k * 10 ^ (m - k)).sum =
        10 * ((List.range m).map fun k => d k * 10 ^ (m - 1 - k)).sum := by
      rw [← List.sum_map_mul_left]
      refine congrArg List.sum (List.map_congr_left fun k hk => ?_)
      rw [show m - k = m - 1 - k + 1 by have := List.mem_range.mp hk; omega, pow_succ]
      ring
    simp only [List.range_succ, List.map_append, List.map_cons, List.map_nil, List.foldl_append, List.foldl_cons,
      List.foldl_nil, List.sum_append, List.sum_cons, List.sum_nil, ih, Nat.add_sub_cancel, e, Nat.sub_self, pow_zero,
      Nat.mul_one, Nat.add_zero]

/-- The value of a numeric string, digit by digit. -/
theorem asciiVal_eq {w : Word} (h : isNumeric w = true) : asciiVal w =
    ((List.range 8).map fun k => ((w.extractLsb' (56 - 8 * k) 8).toNat - 0x30) * 10 ^ (7 - k)).sum := by
  rw [← foldl_digits _ 8, asciiVal, wordBytes_eq, List.foldl_map, List.foldl_map]
  refine List.foldl_ext _ _ _ fun n k hk => ?_
  rw [(digit_of_isDigit (isNumeric_iff.mp h k (List.mem_range.mp hk))).1]

/-- It has at most eight digits. -/
theorem asciiVal_lt {w : Word} (h : isNumeric w = true) : asciiVal w < 10 ^ 8 := by
  have bound : ∀ m ≤ 8, ((List.range m).map fun k => w.extractLsb' (56 - 8 * k) 8).foldl
      (fun n b => 10 * n + b.toNat % 16) 0 < 10 ^ m := by
    intro m
    induction m with
    | zero => simp
    | succ m ih =>
      intro hm
      have h1 := ih (by omega)
      have h2 := digit_of_isDigit (isNumeric_iff.mp h m hm)
      simp only [List.range_succ, List.map_append, List.map_cons, List.map_nil, List.foldl_append, List.foldl_cons,
        List.foldl_nil, pow_succ]
      omega
  rw [asciiVal, wordBytes_eq]
  exact bound 8 (le_refl 8)

/-! ### Access rights over a range -/

theorem State.allowedRange_succ (k : Access) (a : Addr) (n : Nat) :
    s.allowedRange k a (n + 1) = (s.allowed k a && s.allowedRange k (a + 1) n) := rfl

/-- Access rights depend on the page map alone. -/
theorem State.allowedRange_congr (h : t.pages = s.pages) (k : Access) (a : Addr) (n : Nat) :
    t.allowedRange k a n = s.allowedRange k a n := by
  induction n generalizing a with
  | zero => rfl
  | succ n ih => simp [State.allowedRange_succ, ih, State.allowed, State.pageAt, h]

/-- A range is allowed exactly where each of its bytes is. -/
theorem State.allowedRange_iff (k : Access) (a : Addr) (n : Nat) :
    s.allowedRange k a n = true ↔ ∀ j, j < n → s.allowed k (a + BitVec.ofNat 32 j) = true := by
  induction n generalizing a with
  | zero => simp [State.allowedRange]
  | succ n ih =>
    rw [State.allowedRange_succ, Bool.and_eq_true, ih]
    constructor
    · rintro ⟨h0, h⟩ j hj
      cases j with
      | zero => simpa using h0
      | succ j =>
        have := h j (by omega)
        rwa [show a + BitVec.ofNat 32 (j + 1) = a + 1 + BitVec.ofNat 32 j by
          rw [BitVec.add_assoc]; congr 1; rw [BitVec.add_comm]; simp [← BitVec.ofNat_add]]
    · intro h
      refine ⟨by simpa using h 0 (by omega), fun j hj => ?_⟩
      have := h (j + 1) (by omega)
      rwa [show a + BitVec.ofNat 32 (j + 1) = a + 1 + BitVec.ofNat 32 j by
        rw [BitVec.add_assoc]; congr 1; rw [BitVec.add_comm]; simp [← BitVec.ofNat_add]] at this

/-- Part of an allowed range is allowed. -/
theorem State.allowedRange_sub {k : Access} {a b : Addr} {n m j : Nat} (h : s.allowedRange k a n = true)
    (hb : b = a + BitVec.ofNat 32 j) (hm : j + m ≤ n) : s.allowedRange k b m = true := by
  rw [State.allowedRange_iff] at h ⊢
  intro l hl
  have := h (j + l) (by omega)
  rwa [hb, BitVec.add_assoc, ← BitVec.ofNat_add]

/-! ### Exceptions -/

theorem raiseAt_disabled {instr : List Byte} {f n : Addr} {e : Exc} (h : s.excEnabled e.code = false) :
    raiseAt instr f n e s = .next ((s.setOccurred e.code).setPc n) := by simp [raiseAt, h]

theorem raiseAt_enabled {instr : List Byte} {f n : Addr} {e : Exc} (h : s.excEnabled e.code = true) :
    raiseAt instr f n e s = sendException instr f e ((s.setOccurred e.code).setPc n) := by simp [raiseAt, h]

theorem raise_disabled {e : Exc} (h : s.excEnabled e.code = false) :
    raise i e s = .next ((s.setOccurred e.code).setPc (s.nextPc i)) := raiseAt_disabled h

theorem accessViolation_disabled (h : s.excEnabled .accessViolation = false) :
    accessViolation i s = .next ((s.setOccurred .accessViolation).setPc (s.nextPc i)) := raiseAt_disabled h

theorem illegal_disabled (h : s.excEnabled .illegal = false) :
    illegal i s = .next ((s.setOccurred .illegal).setPc (s.nextPc i)) := raiseAt_disabled h

/-! ### Delivery -/

theorem deliver_closed {f : Nat} {m : Message} (h : s.openFunnel f = none) : deliver f m s = .next s := by
  simp [deliver, h]

theorem deliver_open {f : Nat} {m : Message} {e : Funnel} (h : s.openFunnel f = some e) :
    deliver f m s = deliverTo f e m s := by simp [deliver, h]

/-- An open funnel is enabled and defined. -/
theorem State.openFunnel_some {f : Nat} {e : Funnel} (h : s.openFunnel f = some e) :
    s.funnelEnabled f = true ∧ s.funnel f = some e := by
  unfold State.openFunnel at h
  split at h
  · exact ⟨‹_›, h⟩
  · cases h

@[simp] theorem State.enqueue_funnel (f : Nat) (e : Funnel) (m : Message) (g : Nat) :
    (s.enqueue f e m).funnel g = if g = f then some { e with queue := e.queue ++ [m] } else s.funnel g := by
  simp [State.enqueue, State.funnel, Assoc.get_set]

@[simp] theorem State.dequeue_funnel (f : Nat) (e : Funnel) (g : Nat) :
    (s.dequeue f e).funnel g = if g = f then some { e with queue := e.queue.tail } else s.funnel g := by
  simp [State.dequeue, State.funnel, Assoc.get_set]

@[simp] theorem State.setFunnel_funnel (f : Nat) (e : Funnel) (g : Nat) :
    (s.setFunnel f e).funnel g = if g = f then some e else s.funnel g := by
  simp [State.setFunnel, State.funnel, Assoc.get_set]

/-! ### Local priority -/

/-- The number of `hpac` is at most the number of every active channel. -/
theorem highest_le {l : List Chan} {c : Chan} (h : c ∈ l) : highest l ≤ c := by
  induction l with
  | nil => cases h
  | cons d t ih =>
    rcases List.mem_cons.1 h with rfl | h
    · exact min_le_left _ _
    · exact le_trans (min_le_right _ _) (ih h)

/-- `hpac` is one of the active channels, or 15 if there is none. -/
theorem highest_mem (l : List Chan) : highest l ∈ l ∨ l = [] ∧ highest l = 15 := by
  induction l with
  | nil => exact .inr ⟨rfl, rfl⟩
  | cons d t ih =>
    left
    simp only [highest]
    rcases ih with h | ⟨rfl, h⟩
    · rcases min_choice d (highest t) with e | e
      · rw [e]; exact List.mem_cons_self
      · rw [e]; exact List.mem_cons_of_mem _ h
    · have : min d (highest []) = d := by
        apply min_eq_left
        show d ≤ (15 : Chan)
        exact Fin.le_last d
      rw [this]; exact List.mem_cons_self

/-- The active channels are those of the funnels with a message. -/
theorem mem_activeChannels {l : List (Nat × Funnel)} {c : Chan} :
    c ∈ activeChannels l ↔ ∃ f e, (f, e) ∈ l ∧ e.queue ≠ [] ∧ e.channel = c := by
  induction l with
  | nil => simp [activeChannels]
  | cons p t ih =>
    obtain ⟨f, e⟩ := p
    by_cases hq : e.queue = []
    · simp only [activeChannels, hq, List.isEmpty_nil, if_true, ih]
      constructor
      · rintro ⟨g, d, h, h'⟩
        exact ⟨g, d, List.mem_cons_of_mem _ h, h'⟩
      · rintro ⟨g, d, h, h1, h2⟩
        rcases List.mem_cons.1 h with h | h
        · cases h; exact absurd hq h1
        · exact ⟨g, d, h, h1, h2⟩
    · simp only [activeChannels, List.isEmpty_iff, hq, if_false, List.mem_cons, ih]
      constructor
      · rintro (rfl | ⟨g, d, h, h'⟩)
        · exact ⟨f, e, .inl rfl, hq, rfl⟩
        · exact ⟨g, d, .inr h, h'⟩
      · rintro ⟨g, d, h | h, h1, h2⟩
        · cases h; exact .inl h2.symm
        · exact .inr ⟨g, d, h, h1, h2⟩

/-! ### The link table -/

/-- A link that the lookup finds is a defined entry within the limit (R591). -/
theorem State.lookup_ok {id : Nat} {e : Lte} (h : s.lookup id = .ok e) :
    id ≠ 0 ∧ id ≤ s.links.limit ∧ id ≤ 65535 ∧ s.link id = some e := by
  unfold State.lookup at h
  split at h
  · cases h
  · split at h
    · cases h
    · split at h
      · split at h
        · cases h
        · cases h; exact ⟨by assumption, by omega, by omega, by assumption⟩
      · cases h

/-- A defined entry's page is allocated (R44). -/
theorem LinkTable.allocated_of_some {l : LinkTable} {id : Nat} {e : Lte} (h : Assoc.get l.entries id = some e) :
    l.allocated id = true := by simp [LinkTable.allocated, h]

/-- A defined link within the limit is found (R591). -/
theorem State.lookup_of_link {id : Nat} {e : Lte} (h0 : id ≠ 0) (h1 : id ≤ s.links.limit) (h2 : id ≤ 65535)
    (h : s.link id = some e) : s.lookup id = .ok e := by
  have ha : s.links.allocated id = true := LinkTable.allocated_of_some h
  unfold State.lookup
  rw [if_neg h0, if_neg (by omega), if_pos ha, h]

@[simp] theorem LinkTable.allocate_entries (l : LinkTable) (p : Nat) : (l.allocate p).entries = l.entries := by
  unfold LinkTable.allocate; split <;> rfl
@[simp] theorem LinkTable.allocate_limit (l : LinkTable) (p : Nat) : (l.allocate p).limit = l.limit := by
  unfold LinkTable.allocate; split <;> rfl

/-- An allocated page is allocated afterwards, and no other becomes so (R44). -/
theorem LinkTable.pageAllocated_allocate (l : LinkTable) (p q : Nat) :
    (l.allocate p).pageAllocated q = (l.pageAllocated q || decide (q = p)) := by
  unfold LinkTable.allocate
  split
  · rename_i h
    by_cases hq : q = p
    · subst hq; simp [h]
    · simp [hq]
  · by_cases hq : q = p
    · subst hq; simp [LinkTable.pageAllocated]
    · simp [LinkTable.pageAllocated, hq]

end Sys2Proof.Machine
end

