-- ==== Sys2Proof/Laws/Updates.lean ====
section
/-! SUPPORT. What an instruction can do to the state, said once: a finite sequence of a few kinds of update. -/

namespace Sys2Proof.Machine

open Sys2Proof

/-- The updates told apart: only certain instructions make those of the last three kinds. -/
inductive Kind | plain | psw | lp | mask
deriving DecidableEq, Repr

/-- What a changed entry of funnel `f` makes of the active funnels list `l`: where it listed `f` exactly if the old entry
had messages, the new list `l'` lists `f` exactly if the new entry has; nothing else on it changes, and no repeat comes. -/
def ListsActive (l : List Nat) (f : Nat) (e e' : Funnel) (l' : List Nat) : Prop :=
  l.Nodup → (f ∈ l ↔ e.queue ≠ []) → l'.Nodup ∧ (f ∈ l' ↔ e'.queue ≠ []) ∧ ∀ g, g ≠ f → (g ∈ l' ↔ g ∈ l)

/-- An entry changed but for its queue keeps the list. -/
theorem ListsActive.same {l : List Nat} {f : Nat} {e e' : Funnel} (h : e'.queue = e.queue) : ListsActive l f e e' l :=
  fun hn hf => ⟨hn, by rw [h]; exact hf, fun _ _ => Iff.rfl⟩

/-- A message more: `f` is on the list, at its end if it was not on it (R578). -/
theorem ListsActive.enqueue (l : List Nat) (f : Nat) (e : Funnel) (m : Message) :
    ListsActive l f e { e with queue := e.queue ++ [m] } (if e.queue.isEmpty then l ++ [f] else l) := by
  intro hn hf
  cases hq : e.queue with
  | nil =>
    have h : f ∉ l := fun h => hf.mp h hq
    refine ⟨?_, by simp, fun g hg => by simp [hg]⟩
    simp only [List.isEmpty_nil, if_true]
    exact List.Nodup.append hn (List.nodup_singleton f) (by simpa using h)
  | cons a q => exact ⟨by simpa using hn, by simpa [hq] using hf, fun g _ => by simp⟩

/-- The head taken off: `f` leaves the list where nothing is left (R54, R620). -/
theorem ListsActive.dequeue (l : List Nat) (f : Nat) (e : Funnel) :
    ListsActive l f e { e with queue := e.queue.tail } (if e.queue.tail.isEmpty then l.filter (· ≠ f) else l) := by
  intro hn hf
  cases hq : e.queue.tail with
  | nil =>
    refine ⟨?_, by simp, fun g hg => by simp [hg]⟩
    simpa using hn.filter _
  | cons a q =>
    refine ⟨by simpa using hn, ?_, fun g _ => by simp⟩
    have : e.queue ≠ [] := fun h => by simp [h] at hq
    simpa [this] using hf

/-- One update of a kind. -/
inductive Upd : Kind → State → State → Prop
  | regs (s : State) (v : Vector Word 16) : Upd .plain s { s with regs := v }
  | pc (s : State) (a : Addr) : Upd .plain s { s with pc := a }
  | ci (s : State) (b : Bool) : Upd .plain s (s.setCi b)
  | cd (s : State) (b : Bool) : Upd .plain s (s.setCd b)
  | ss (s : State) (b : Bool) : Upd .plain s (s.setSs b)
  | occurred (s : State) (c : ExcCode) : Upd .plain s (s.setOccurred c)
  | psw (s : State) (w : Word) : Upd .psw s { s with psw := w }
  | raise (s : State) (p : Chan) (h : p ≤ s.lp) : Upd .plain s { s with lp := p }
  | lp (s : State) (p : Chan) : Upd .lp s { s with lp := p }
  | mask (s : State) (m : BitVec 16) (h : chanBit s.chanMask 0 = true → chanBit m 0 = true) :
      Upd .mask s { s with chanMask := m }
  | enable (s : State) (f : Nat) : Upd .plain s { s with enabled := setFunnelBit s.enabled f true }
  | disable (s : State) (f : Nat) (h : f ≠ 1) : Upd .plain s { s with enabled := setFunnelBit s.enabled f false }
  | funnel (s : State) (f : Nat) (e e' : Funnel) (l : List Nat) (h : s.funnel f = some e)
      (hc : e'.channel = e.channel ∨ f ≠ 1 ∧ e'.channel ≠ 0) (ha : ListsActive s.funnels.active f e e' l) :
      Upd .plain s { s with funnels := { s.funnels with
        entries := Assoc.set s.funnels.entries f e', active := l } }
  | putFunnel (s : State) (f : Nat) (e : Funnel) (h : s.freeOk → s.funnel f = none) (hc : e.channel ≠ 0)
      (hq : e.queue = []) : Upd .plain s (s.putFunnel f e)
  | dropFunnel (s : State) (f : Nat) (e : Funnel) (h0 : f ≠ 0) (h : s.funnelEnabled f = false)
      (he : s.funnel f = some e) (hq : e.queue = []) : Upd .plain s (s.dropFunnel f)
  | putLink (s : State) (n : Nat) (e : Lte) : Upd .plain s (s.putLink n e)
  | dropLink (s : State) (n : Nat) (h0 : n ≠ 0) : Upd .plain s (s.dropLink n)
  | mem (s : State) (m : List Host.Cell) (h : Memory.wf s.mem = true → Memory.wf m = true) :
      Upd .plain s { s with mem := m }
  | pages (s : State) (p : List (Nat × Page)) (h : Assoc.sorted s.pages = true → Assoc.sorted p = true) :
      Upd .plain s { s with pages := p }
  | blocked (s : State) (b : Bool) (m : ManagerWait) : Upd .plain s { s with blocked := b, manager := m }
  | outputs (s : State) (l : List OutEvent) : Upd .plain s { s with outputs := l }

/-- An undefined funnel is not on the list. -/
theorem State.activeOk_of_none {s : State} (h : s.activeOk) {f : Nat} (hf : s.funnel f = none) : f ∉ s.funnels.active := by
  rw [h.2, hf]
  rintro ⟨e, he, -⟩
  cases he

/-- Every update keeps the active funnels list what it should be. -/
theorem Upd.keeps_active {k : Kind} {a b : State} (hu : Upd k a b) (h : a.activeOk) (ht : a.tablesOk) (hf : a.freeOk) :
    b.activeOk := by
  cases hu with
  | funnel _ f e e' l he hc ha =>
    obtain ⟨h1, h2, h3⟩ := ha h.1 (by rw [h.2, he]; simp)
    refine ⟨h1, fun g => ?_⟩
    simp only [State.funnel, Assoc.get_set] at h ⊢
    by_cases hg : g = f
    · subst hg; simpa using h2
    · simpa [hg, h3 g hg, State.funnel] using h.2 g
  | putFunnel _ f e hn hc hq =>
    refine ⟨h.1, fun g => ?_⟩
    simp only [State.funnel, State.putFunnel, Assoc.get_set]
    by_cases hg : g = f
    · subst hg
      simpa [hq] using State.activeOk_of_none h (hn hf)
    · simpa [hg, State.funnel] using h.2 g
  | dropFunnel _ f e h0 hen he hq =>
    refine ⟨h.1, fun g => ?_⟩
    simp only [State.funnel, State.dropFunnel]
    by_cases hg : g = f
    · subst hg
      rw [Assoc.get_erase_same g ht.2.1]
      have : g ∉ a.funnels.active := by rw [h.2, he]; simp [hq]
      simpa using this
    · rw [Assoc.get_erase_ne _ hg]
      exact h.2 g
  | _ => exact h

/-- A sequence of updates of kinds that `K` admits. -/
def Reach (K : Kind → Prop) (s t : State) : Prop := Relation.ReflTransGen (fun a b => ∃ k, K k ∧ Upd k a b) s t

/-- Every next state of an outcome is reached by updates that `K` admits. -/
def Leads (K : Kind → Prop) (s : State) (r : Res) : Prop := ∀ t, r = .next t → Reach K s t

variable {K : Kind → Prop} {s t u : State} {i : Instr}

theorem Reach.refl : Reach K s s := Relation.ReflTransGen.refl
theorem Reach.trans (h : Reach K s t) (h' : Reach K t u) : Reach K s u := Relation.ReflTransGen.trans h h'

/-- One more update. -/
theorem Reach.step {k : Kind} (h : Reach K s t) (hk : K k) (hu : Upd k t u) : Reach K s u :=
  Relation.ReflTransGen.tail h ⟨k, hk, hu⟩

/-- What every update keeps, every sequence of them keeps. -/
theorem Reach.keeps {P : State → Prop} (h : Reach K s t) (hp : ∀ k a b, K k → Upd k a b → P a → P b) (h0 : P s) :
    P t := by
  induction h with
  | refl => exact h0
  | tail _ hs ih =>
    obtain ⟨k, hk, hu⟩ := hs
    exact hp k _ _ hk hu ih

/-- A relation that holds across every update and composes holds across every sequence of them. -/
theorem Reach.rel {R : State → State → Prop} (h : Reach K s t) (h0 : ∀ a, R a a)
    (h2 : ∀ a b c, R a b → R b c → R a c) (hp : ∀ k a b, K k → Upd k a b → R a b) : R s t := by
  induction h with
  | refl => exact h0 _
  | tail _ hs ih =>
    obtain ⟨k, hk, hu⟩ := hs
    exact h2 _ _ _ ih (hp k _ _ hk hu)

/-! ### Outcomes -/

theorem Leads.next (h : Reach K s t) : Leads K s (.next t) := fun v hv => by cases hv; exact h
theorem Leads.fault (e : Fault) : Leads K s (.fault e) := fun v hv => by cases hv
theorem Leads.refused (e : Refusal) : Leads K s (.refused e) := fun v hv => by cases hv

theorem Leads.bind {r : Res} {f : State → Res} (h : Leads K s r) (hf : ∀ u, Reach K s u → Leads K s (f u)) :
    Leads K s (Res.bind r f) := by
  intro v hv
  obtain ⟨u, hu, hv⟩ := Res.bind_eq_next hv
  exact hf u (h u hu) v hv

theorem Leads.after {r : Res} (h : Reach K s t) (hr : Leads K t r) : Leads K s r :=
  fun v hv => h.trans (hr v hv)

/-- More kinds admit more. -/
theorem Reach.mono {K' : Kind → Prop} (h : ∀ k, K k → K' k) (hr : Reach K s t) : Reach K' s t := by
  induction hr with
  | refl => exact .refl
  | tail _ hs ih =>
    obtain ⟨k, hk, hu⟩ := hs
    exact Relation.ReflTransGen.tail ih ⟨k, h k hk, hu⟩

theorem Leads.mono {K' : Kind → Prop} {r : Res} (h : ∀ k, K k → K' k) (hr : Leads K s r) : Leads K' s r := by
  exact fun v hv => Reach.mono h (hr v hv)

/-! ### Updates by the named operations -/

section
variable (hK : K .plain)
include hK

theorem Reach.setReg (r : Reg) (v : Word) (h : Reach K s t) : Reach K s (t.setReg r v) := h.step hK (.regs _ _)
theorem Reach.setPc (a : Addr) (h : Reach K s t) : Reach K s (t.setPc a) := h.step hK (.pc _ _)
theorem Reach.setCi (b : Bool) (h : Reach K s t) : Reach K s (t.setCi b) := h.step hK (.ci _ _)
theorem Reach.setCd (b : Bool) (h : Reach K s t) : Reach K s (t.setCd b) := h.step hK (.cd _ _)
theorem Reach.setSs (b : Bool) (h : Reach K s t) : Reach K s (t.setSs b) := h.step hK (.ss _ _)
theorem Reach.setOccurred (c : ExcCode) (h : Reach K s t) : Reach K s (t.setOccurred c) :=
  h.step hK (.occurred _ _)
theorem Reach.poke (a : Addr) (bs : List Byte) (h : Reach K s t) : Reach K s (t.poke a bs) :=
  h.step hK (.mem _ _ fun w => Memory.wf_writeBytes a bs w)
theorem Reach.emit (e : OutEvent) (h : Reach K s t) : Reach K s (t.emit e) := h.step hK (.outputs _ _)
theorem Reach.notify (e : Lte) (ty : BitVec 8) (d : List Byte) (h : Reach K s t) : Reach K s (t.notify e ty d) :=
  Reach.emit hK _ h

theorem Reach.dequeue (f : Nat) (e : Funnel) (h : Reach K s t) (hf : t.funnel f = some e) :
    Reach K s (t.dequeue f e) := h.step hK (.funnel _ _ _ _ _ hf (.inl rfl) (.dequeue _ _ _))

theorem Reach.enqueue (f : Nat) (e : Funnel) (m : Message) (h : Reach K s t) (hf : t.funnel f = some e) :
    Reach K s (t.enqueue f e m) := h.step hK (.funnel _ _ _ _ _ hf (.inl rfl) (.enqueue _ _ _ _))

theorem Reach.setPair (r : Reg) (v w : Word) (h : Reach K s t) : Reach K s (t.setPair r v w) :=
  Reach.setReg hK _ _ (Reach.setReg hK _ _ h)

theorem Reach.writeDatum (f : Fmt) (r : Reg) (b : FBits) (h : Reach K s t) : Reach K s (writeDatum f r b t) := by
  cases f
  · exact Reach.setReg hK _ _ h
  · exact Reach.setReg hK _ _ h
  · exact Reach.setReg hK _ _ (Reach.setReg hK _ _ h)

theorem Reach.setOccurredIf (c : ExcCode) (b : Bool) (h : Reach K s t) : Reach K s (t.setOccurredIf c b) := by
  unfold State.setOccurredIf
  split
  · exact Reach.setOccurred hK _ h
  · exact h

theorem Reach.setAllOccurred (l : List ExcCode) (h : Reach K s t) : Reach K s (t.setAllOccurred l) := by
  induction l generalizing t with
  | nil => exact h
  | cons c l ih => exact ih (Reach.setOccurred hK c h)

theorem Reach.anyFpBits (h : Reach K s t) : Reach K s t.anyFpBits :=
  Reach.setOccurredIf hK _ _ (Reach.setOccurredIf hK _ _ (Reach.setOccurredIf hK _ _
    (Reach.setOccurredIf hK _ _ (Reach.setOccurredIf hK _ _ h))))

theorem Reach.anyRemRegs (f : Fmt) (x z : Reg) (h : Reach K s t) : Reach K s (t.anyRemRegs f x z) :=
  Reach.writeDatum hK _ _ _ (Reach.setReg hK _ _ h)

theorem Reach.putCarry (c : Option Bool) (h : Reach K s t) : Reach K s (t.putCarry c) := by
  cases c
  · exact h
  · exact Reach.setCi hK _ h

/-! ### The shared operations -/

theorem Leads.advance (h : Reach K s t) : Leads K s (advance i t) := .next (Reach.setPc hK _ h)
theorem Leads.finishReg (r : Reg) (v : Word) (h : Reach K s t) : Leads K s (finishReg i r v t) :=
  Leads.advance hK (Reach.setReg hK _ _ h)
theorem Leads.finishStatus (x : Reg) (n : Nat) (h : Reach K s t) : Leads K s (finishStatus i x n t) :=
  Leads.finishReg hK _ _ h
theorem Leads.jump (a : Addr) (h : Reach K s t) : Leads K s (jump a t) := .next (Reach.setPc hK _ h)

theorem Leads.store {a : Addr} {bs : List Byte} (h : Reach K s t) (hs : t.store a bs = some u) : Reach K s u := by
  obtain ⟨rfl, -⟩ := State.store_eq_some hs
  exact Reach.poke hK _ _ h

theorem Leads.interruptEntry (f : Nat) (v : Addr) (p : Chan) (h : Reach K s t) :
    Leads K s (interruptEntry f v p t) := by
  unfold Machine.interruptEntry
  simp only
  split
  · exact Leads.fault _
  · rename_i s1 hs
    have h1 := Leads.store hK h hs
    have h2 := Reach.setReg hK 2 (BitVec.ofNat 64 f) (Reach.setReg hK 1 (zext32 (lo32 (t.reg sp) - 144))
      (Reach.setReg hK 0 (zext32 (lo32 (t.reg sp) - 144 + 136))
        (Reach.setReg hK 15 (zext32 (lo32 (t.reg sp) - 144)) h1)))
    exact .next ((h2.step hK (.pc _ v)).step hK (.blocked _ false .idle))

theorem Leads.deliver (f : Nat) (m : Message) (h : Reach K s t) : Leads K s (deliver f m t) := by
  unfold Machine.deliver
  split
  · rename_i e he
    obtain ⟨-, hf⟩ := State.openFunnel_some he
    have h1 := (Reach.enqueue hK f e m h hf).step hK (.raise _ (min t.lp e.channel) (min_le_left _ _))
    unfold deliverTo
    simp only
    split
    · exact Leads.interruptEntry hK _ _ _ h1
    · exact .next h1
  · exact .next h

theorem Leads.raiseAt (instr : List Byte) (f n : Addr) (e : Exc) (h : Reach K s t) :
    Leads K s (raiseAt instr f n e t) := by
  have h1 : Reach K s ((t.setOccurred e.code).setPc n) := Reach.setPc hK _ (Reach.setOccurred hK _ h)
  unfold Machine.raiseAt
  simp only
  split
  · unfold sendException
    split
    · exact .next h1
    · exact Leads.deliver hK _ _ h1
  · exact .next h1

theorem Leads.raise (e : Exc) (h : Reach K s t) : Leads K s (raise i e t) := Leads.raiseAt hK _ _ _ _ h
theorem Leads.accessViolation (h : Reach K s t) : Leads K s (accessViolation i t) := Leads.raiseAt hK _ _ _ _ h
theorem Leads.illegal (h : Reach K s t) : Leads K s (illegal i t) := Leads.raise hK _ h

theorem Leads.withLast {e : Ext} {n : Nat} {o : GOp} {k : Word → Res} (h : Reach K s t) (hk : ∀ b, Leads K s (k b)) :
    Leads K s (withLast i e n o t k) := by
  unfold Machine.withLast
  split
  · exact Leads.accessViolation hK h
  · exact hk _

theorem Leads.withStore {a : Addr} {bs : List Byte} {k : State → Res} (h : Reach K s t)
    (hk : ∀ u, Reach K s u → (t.store a bs = some u) → Leads K s (k u)) : Leads K s (withStore i a bs t k) := by
  unfold Machine.withStore
  split
  · exact Leads.accessViolation hK h
  · exact hk _ (Leads.store hK h ‹_›) ‹_›

theorem Leads.withField {a : Addr} {n : Nat} {k : Nat → Res} (h : Reach K s t) (hk : ∀ b, Leads K s (k b)) :
    Leads K s (withField i a n t k) := by
  unfold Machine.withField
  split
  · exact Leads.accessViolation hK h
  · exact hk _

theorem Leads.withFunnel {x : Reg} {f : Nat} {k : Funnel → Res} (h : Reach K s t)
    (hk : ∀ e, f ≠ 0 → t.funnel f = some e → Leads K s (k e)) : Leads K s (withFunnel i x f t k) := by
  unfold Machine.withFunnel
  split
  · exact Leads.finishStatus hK _ _ h
  · rename_i e he
    unfold State.funnelOf at he
    split at he
    · cases he
    · exact hk e (by omega) he

theorem Leads.withLink {x : Reg} {off id : Nat} {k : Lte → Res} (h : Reach K s t)
    (hk : ∀ e, id ≠ 0 → t.link id = some e → Leads K s (k e)) : Leads K s (withLink i x off id t k) := by
  unfold Machine.withLink
  split
  · exact Leads.finishStatus hK _ _ h
  · obtain ⟨h0, -, -, he⟩ := State.lookup_ok ‹_›
    exact hk _ h0 he

theorem Leads.withHead {x : Reg} {f : Nat} {k : Funnel → Message → Res} (h : Reach K s t)
    (hk : ∀ e m, t.funnel f = some e → Leads K s (k e m)) : Leads K s (withHead i x f t k) := by
  unfold Machine.withHead
  refine Leads.withFunnel hK h fun e _ he => ?_
  split
  · exact Leads.finishStatus hK _ _ h
  · exact hk _ _ he

theorem Leads.withData {x y z r v : Reg} {n : Int} {k : List Byte → Res} (h : Reach K s t)
    (hk : ∀ d, Leads K s (k d)) : Leads K s (withData i x y z r v n t k) := by
  unfold Machine.withData
  split
  · exact Leads.finishStatus hK _ _ h
  · split
    · exact Leads.finishStatus hK _ _ h
    · split
      · exact hk _
      · exact Leads.accessViolation hK h

theorem Leads.withPage {a : Addr} {k : Page → Res} (h : Reach K s t) (hk : ∀ p, Leads K s (k p)) :
    Leads K s (withPage i a t k) := by
  unfold Machine.withPage
  split
  · exact Leads.accessViolation hK h
  · exact hk _

theorem Leads.ifImplemented {b : Bool} {k : Res} (h : Reach K s t) (hk : Leads K s k) :
    Leads K s (ifImplemented b i t k) := by
  unfold Machine.ifImplemented
  split
  · exact hk
  · exact Leads.illegal hK h

theorem Leads.sendMessage {x : Reg} {l : List Nat} {e : Lte} {m : Message} {ok : State → State} {n : Nat}
    (h : Reach K s t) (hok : ∀ u, Reach K s u → u.funnels = t.funnels → Reach K s (ok u)) :
    Leads K s (sendMessage i x l e m ok n t) := by
  unfold Machine.sendMessage
  split
  · split
    · exact Leads.bind (Leads.finishStatus hK _ _ (hok _ h rfl)) fun u hu => Leads.deliver hK _ _ hu
    · exact Leads.finishStatus hK _ _ h
  · split
    · exact Leads.finishStatus hK _ _ (hok _ (Reach.emit hK _ h) rfl)
    · exact Leads.finishStatus hK _ _ (Reach.emit hK _ h)

/-! ### The shared forms of the instructions -/

theorem Leads.loadOp (e : Ext) (n : Nat) (o : GOp) : Leads K s (loadOp i e n o s) :=
  Leads.withLast hK .refl fun _ => Leads.finishReg hK _ _ .refl

theorem Leads.storeOp (n : Nat) (o : GOp) : Leads K s (storeOp i n o s) :=
  Leads.withStore hK .refl fun _ hu _ => Leads.advance hK hu

theorem Leads.storeChecked (n : Nat) (o : GOp) : Leads K s (storeChecked i n o s) :=
  Leads.withStore hK .refl fun _ hu _ => by
    split
    · exact Leads.advance hK hu
    · exact Leads.raise hK _ hu

theorem Leads.storeLast (n : Nat) (o : GOp) (v : Word) : Leads K s (storeLast i n o v s) := by
  unfold Machine.storeLast
  split
  · exact Leads.finishReg hK _ _ .refl
  · exact Leads.illegal hK .refl
  · exact Leads.withStore hK .refl fun _ hu _ => Leads.advance hK hu

theorem Leads.extractOp (f : Word → Nat → Nat → Word) (x z : Reg) (a : FieldApp) :
    Leads K s (extractOp i f x z a s) := by
  unfold Machine.extractOp
  split
  · exact Leads.finishReg hK _ _ .refl
  · exact Leads.refused _

theorem Leads.exchangeOp (f : Word → Word → Word) (x z : Reg) : Leads K s (exchangeOp i f x z s) := by
  unfold Machine.exchangeOp
  simp only
  split
  · split
    · exact Leads.accessViolation hK .refl
    · exact Leads.withStore hK .refl fun _ hu _ => Leads.finishReg hK _ _ hu
  · exact Leads.refused _

theorem Leads.stringViolation (a : Addr) (n : Nat) : Leads K s (stringViolation i a n s) :=
  Leads.accessViolation hK (Reach.refl.step hK (.mem _ _ fun w => Memory.wf_scrambleBytes _ _ _ _ w))

theorem Leads.finishInt (r : Reg) (out : IntOut) (h : Reach K s t) : Leads K s (finishInt i r out t) := by
  have h1 := Reach.putCarry hK out.carry (Reach.setReg hK r out.value h)
  unfold Machine.finishInt
  simp only
  split
  · exact Leads.raise hK _ h1
  · exact Leads.advance hK h1

theorem Leads.intOp (n : Nat) (f : Bool → Word → Word → IntOut) (o : GOp) : Leads K s (intOp i n f o s) :=
  Leads.withLast hK .refl fun _ => Leads.finishInt hK _ _ .refl

theorem Leads.divide (r : Reg) (f : Word → Word → IntOut) (a b : Word) : Leads K s (divide i r f a b s) := by
  unfold Machine.divide
  split
  · exact Leads.raise hK _ .refl
  · exact Leads.finishInt hK _ _ .refl

theorem Leads.divOp (n : Nat) (f : Word → Word → IntOut) (o : GOp) : Leads K s (divOp i n f o s) :=
  Leads.withLast hK .refl fun _ => Leads.divide hK _ _ _ _

theorem Leads.divrOp (n : Nat) (f : Word → Word → IntOut) (o : GOp) : Leads K s (divrOp i n f o s) :=
  Leads.withLast hK .refl fun _ => Leads.divide hK _ _ _ _

theorem Leads.wideMul (p : Int) (x : Reg) : Leads K s (wideMul i p x s) := by
  unfold Machine.wideMul
  split
  · exact Leads.advance hK (Reach.setPair hK _ _ _ .refl)
  · exact Leads.illegal hK .refl

theorem Leads.finishFloatAt {l : List Byte} {n : Addr} {w : FBits → State → State}
    (hw : ∀ b u, Reach K s u → Reach K s (w b u)) (out : FOut) (h : Reach K s t) :
    Leads K s (finishFloatAt l n w out t) := by
  unfold Machine.finishFloatAt
  split
  · exact .next (Reach.setPc hK _ (hw _ _ (Reach.anyFpBits hK h)))
  · exact .next (Reach.setPc hK _ (hw _ _ (Reach.setAllOccurred hK _ h)))
  · exact Leads.raiseAt hK _ _ _ _ (Reach.setAllOccurred hK _ h)

theorem Leads.finishFloatBy {w : FBits → State → State} (hw : ∀ b u, Reach K s u → Reach K s (w b u)) (out : FOut)
    (h : Reach K s t) : Leads K s (finishFloatBy i w out t) := Leads.finishFloatAt hK hw out h

theorem Leads.execFsqr (q : Fsqr) (l : List Byte) : Leads K s (execFsqr q l s) := by
  unfold Machine.execFsqr
  simp only
  split
  · exact Leads.raiseAt hK _ _ _ _ .refl
  · split
    · split
      · exact Leads.raiseAt hK _ _ _ _ .refl
      · exact Leads.finishFloatAt hK (fun _ _ hu => Reach.writeDatum hK _ _ _ hu) _ .refl
    · exact Leads.finishFloatAt hK (fun _ _ hu => Reach.writeDatum hK _ _ _ hu) _ .refl

theorem Leads.finishFloat (f : Fmt) (r : Reg) (out : FOut) (h : Reach K s t) : Leads K s (finishFloat i f r out t) :=
  Leads.finishFloatBy hK (fun _ _ hu => Reach.writeDatum hK _ _ _ hu) _ h

theorem Leads.floatOp (f : Fmt) (op : FEnv → Fmt → FBits → FBits → FOut) (o : GOp) :
    Leads K s (floatOp i f op o s) := Leads.withLast hK .refl fun _ => Leads.finishFloat hK _ _ _ .refl

theorem Leads.floatPairOp (op : FEnv → Fmt → FBits → FBits → FOut) (x y z : Reg) :
    Leads K s (floatPairOp i op x y z s) := by
  unfold Machine.floatPairOp
  split
  · exact Leads.finishFloat hK _ _ _ .refl
  · exact Leads.illegal hK .refl

theorem Leads.finishRem (f : Fmt) (x z : Reg) (out : RemOut) : Leads K s (finishRem i f x z out s) := by
  have hk : ∀ u, Reach K s u → Reach K s (if remOverlap f x z then u.anyRemRegs f x z else u) := by
    intro u hu
    split
    · exact Reach.anyRemRegs hK _ _ _ hu
    · exact hu
  unfold Machine.finishRem
  simp only
  split
  · exact Leads.advance hK (Reach.anyRemRegs hK _ _ _ (Reach.anyFpBits hK .refl))
  · exact Leads.advance hK (hk _ .refl)
  · exact Leads.finishFloatBy hK (fun _ _ hu => hk _ (Reach.writeDatum hK _ _ _ hu)) _ (hk _ .refl)
  · exact Leads.advance hK (hk _ (Reach.writeDatum hK _ _ _ (Reach.setReg hK _ _ .refl)))

theorem Leads.remOp (f : Fmt) (x y z : Reg) : Leads K s (remOp i f x y z s) := Leads.finishRem hK _ _ _ _

theorem Leads.convertOp (n : Nat) (f : Fmt) (op : FEnv → Word → FOut) (o : GOp) :
    Leads K s (convertOp i n f op o s) := by
  unfold Machine.convertOp
  split
  · exact Leads.illegal hK .refl
  · exact Leads.withLast hK .refl fun _ => Leads.finishFloat hK _ _ _ .refl

theorem Leads.floatToFloat (src dst : Fmt) (o : GOp) : Leads K s (floatToFloat i src dst o s) := by
  unfold Machine.floatToFloat
  exact Leads.convertOp hK _ _ _ _

theorem Leads.intToFloat (dst : Fmt) (o : GOp) : Leads K s (intToFloat i dst o s) := by
  unfold Machine.intToFloat
  exact Leads.convertOp hK _ _ _ _

theorem Leads.finpOp (f : Fmt) (o : GOp) : Leads K s (finpOp i f o s) := by
  unfold Machine.finpOp
  exact Leads.convertOp hK _ _ _ _

theorem Leads.finishToInt (r : Reg) (out : ToInt) : Leads K s (finishToInt i r out s) := by
  unfold Machine.finishToInt
  split
  · exact Leads.advance hK (Reach.setReg hK _ _ (Reach.anyFpBits hK .refl))
  · split
    · exact Leads.raise hK _ .refl
    · exact Leads.advance hK (Reach.setReg hK _ _ (Reach.setOccurred hK _ .refl))
  · simp only
    split
    · exact Leads.advance hK (Reach.setReg hK _ _ .refl)
    · exact Leads.raise hK _ (Reach.setReg hK _ _ .refl)

theorem Leads.toIntOp (f : Fmt) (o : GOp) : Leads K s (toIntOp i f o s) :=
  Leads.withLast hK .refl fun _ => Leads.finishToInt hK _ _

theorem Leads.pairToFloat (f : Fmt) (x z : Reg) : Leads K s (pairToFloat i f x z s) := by
  unfold Machine.pairToFloat
  split
  · exact Leads.finishFloat hK _ _ _ .refl
  · exact Leads.illegal hK .refl

theorem Leads.asciiUndefined (x : Reg) (h : Reach K s t) : Leads K s (asciiUndefined i x t) :=
  Leads.advance hK (Reach.setCd hK _ (Reach.setReg hK _ _ h))

theorem Leads.logicalOp (f : Word → Word → Word) (o : GOp) : Leads K s (logicalOp i f o s) :=
  Leads.withLast hK .refl fun _ => Leads.finishReg hK _ _ .refl

theorem Leads.monadicOp (f : Word → Word) (o : GOp) : Leads K s (monadicOp i f o s) :=
  Leads.withLast hK .refl fun _ => Leads.finishReg hK _ _ .refl

theorem Leads.shiftLoad (n k : Nat) (o : GOp) : Leads K s (shiftLoad i n k o s) :=
  Leads.withLast hK .refl fun _ => Leads.finishReg hK _ _ .refl

theorem Leads.branchAction (a : App) (b : Bool) (h : Reach K s t) : Leads K s (branchAction i a b t) := by
  unfold Machine.branchAction
  split
  · exact .next (Reach.setPc hK _ h)
  · exact Leads.advance hK h

theorem Leads.testAction (x : Reg) (a : App) (b : Bool) (h : Reach K s t) : Leads K s (testAction i x a b t) := by
  unfold Machine.testAction
  split
  · split
    · exact Leads.raise hK _ h
    · exact Leads.advance hK h
  · exact Leads.finishReg hK _ _ h

theorem Leads.compareBranch (e : Ext) (n : Nat) (o : GOp) (a : App) : Leads K s (compareBranch i e n o a s) :=
  Leads.withLast hK .refl fun _ => Leads.branchAction hK _ _ .refl

theorem Leads.compareTest (e : Ext) (n : Nat) (o : GOp) (a : App) : Leads K s (compareTest i e n o a s) :=
  Leads.withLast hK .refl fun _ => Leads.testAction hK _ _ _ .refl

theorem Leads.floatCompare (c : FCmp) (a : App) {act : Bool → State → Res}
    (ha : ∀ b u, Reach K s u → Leads K s (act b u)) : Leads K s (floatCompare i c a act s) := by
  unfold Machine.floatCompare
  split
  · exact ha _ _ (Reach.anyFpBits hK .refl)
  · exact ha _ _ .refl
  · split
    · exact Leads.raise hK _ .refl
    · split
      · exact ha _ _ (Reach.setOccurred hK _ .refl)
      · exact Leads.advance hK (Reach.setOccurred hK _ .refl)

theorem Leads.floatBranch (b : Bool) (f : Fmt) (o : GOp) (a : App) : Leads K s (floatBranch i b f o a s) :=
  Leads.withLast hK .refl fun _ => Leads.floatCompare hK _ _ fun _ _ hu => Leads.branchAction hK _ _ hu

theorem Leads.floatTest (b : Bool) (f : Fmt) (o : GOp) (a : App) : Leads K s (floatTest i b f o a s) :=
  Leads.withLast hK .refl fun _ => Leads.floatCompare hK _ _ fun _ _ hu => Leads.testAction hK _ _ _ hu

theorem Leads.floatPairCompare (b : Bool) (y z : Reg) (a : App) {act : Bool → State → Res}
    (ha : ∀ b u, Reach K s u → Leads K s (act b u)) : Leads K s (floatPairCompare i b y z a act s) := by
  unfold Machine.floatPairCompare
  split
  · exact Leads.floatCompare hK _ _ ha
  · exact Leads.illegal hK .refl

theorem Leads.condBranch (c : Cond) (x : Reg) (a : Addr) : Leads K s (condBranch i c x a s) := by
  unfold Machine.condBranch
  split
  · exact Leads.jump hK _ .refl
  · exact Leads.advance hK .refl

theorem Reach.leaveDebugger (b : Bool) (bs : List Byte) : Reach K s (s.leaveDebugger b bs) :=
  Reach.setPc hK _ (Reach.setSs hK _ (Reach.refl.step hK (.regs _ _)))

theorem Leads.returnFromDebugger (d : BitVec 8) : Leads K s (returnFromDebugger i d s) := by
  unfold Machine.returnFromDebugger
  split
  · split
    · exact Leads.accessViolation hK .refl
    · exact .next (Reach.leaveDebugger hK _ _)
  · exact Leads.refused _

theorem Reach.enterDebugger {r : BreakReason} {p d : Addr} (h : Reach K s t) (hu : enterDebugger r p d t = some u) :
    Reach K s u := by
  unfold Machine.enterDebugger at hu
  simp only [Option.map_eq_some_iff] at hu
  obtain ⟨s1, hs, rfl⟩ := hu
  exact Reach.setPc hK _ (Reach.setSs hK _ (Reach.setReg hK _ _ (Reach.setReg hK _ _ (Reach.setReg hK _ _
    (Reach.setReg hK _ _ (Reach.setReg hK _ _ (Reach.setReg hK _ _ (Leads.store hK h hs))))))))

theorem Leads.debuggerEntry {r : BreakReason} {p d : Addr} (h : Reach K s t) :
    Leads K s (debuggerEntry r p d t) := by
  unfold Machine.debuggerEntry
  split
  · exact Leads.fault _
  · exact .next (Reach.enterDebugger hK h ‹_›)

theorem Reach.placeLink {a : Addr} {l : Lte} {o : Received} (h : Reach K s t) (ho : t.placeLink a l = some o) :
    Reach K s o.state := by
  unfold State.placeLink at ho
  simp only [Option.bind_eq_some_iff] at ho
  obtain ⟨p, -, ho⟩ := ho
  split at ho
  · cases ho; exact h
  · simp only [Option.map_eq_some_iff] at ho
    obtain ⟨s1, hs, rfl⟩ := ho
    exact Leads.store hK (h.step hK (.putLink _ _ _)) hs

theorem Reach.receiveLink {r : Receive} {m : Message} {o : Received} (h : Reach K s t)
    (ho : t.receiveLink r m = some o) : Reach K s o.state := by
  unfold State.receiveLink at ho
  split at ho
  · cases ho; exact h
  · cases ho; exact h
  · cases ho; exact h
  · exact Reach.placeLink hK h ho

theorem Reach.copyMessage {r : Receive} {m : Message} (h : Reach K s t) (hu : t.copyMessage r m = some u) :
    Reach K s u := by
  unfold State.copyMessage at hu
  simp only [Option.bind_eq_some_iff] at hu
  obtain ⟨s1, h1, s2, h2, h3⟩ := hu
  exact Leads.store hK (Leads.store hK (Leads.store hK h h1) h2) h3

theorem Leads.shareLink {x y z r v : Reg} {can inform : Lte → Bool} {ty : BitVec 8} {af : Nat → State → State}
    (hd : ∀ n u, n ≠ 0 → Reach K s u → Reach K s (af n u)) : Leads K s (shareLink i x y z r v can inform ty af s) := by
  unfold Machine.shareLink
  simp only
  refine Leads.withField hK .refl fun id1 => Leads.withField hK .refl fun id2 => Leads.withData hK .refl fun d =>
    Leads.withLink hK .refl fun e1 _ _ => Leads.withLink hK .refl fun e2 h0 _ => ?_
  split
  · refine Leads.sendMessage hK .refl fun u hu _ => ?_
    split
    · exact Reach.notify hK _ _ _ (hd _ _ h0 hu)
    · exact hd _ _ h0 hu
  · exact Leads.finishStatus hK _ _ .refl

theorem Leads.forwardOn {x : Reg} {l' : List Nat} {f : Nat} {fe : Funnel} {m : Message} {e : Lte} {l : Option Lte} (h : Reach K s t)
    (hf : t.funnel f = some fe) : Leads K s (forwardOn i x l' f fe m e l t) :=
  Leads.sendMessage hK h fun u hu hf' => Reach.dequeue hK _ _ hu (by unfold State.funnel at hf ⊢; rw [hf']; exact hf)

end

/-! ### Receives -/

theorem Reach.dismiss (hl : K .lp) (ty : Byte) (h : Reach K s t) : Reach K s (t.dismiss ty) := by
  unfold State.dismiss
  split
  · exact h.step hl (.lp _ _)
  · exact h

theorem State.store_funnels {a : Addr} {bs : List Byte} (h : s.store a bs = some t) : t.funnels = s.funnels := by
  obtain ⟨rfl, -⟩ := State.store_eq_some h
  rfl

theorem State.copyMessage_funnels {r : Receive} {m : Message} (h : s.copyMessage r m = some t) :
    t.funnels = s.funnels := by
  unfold State.copyMessage at h
  simp only [Option.bind_eq_some_iff] at h
  obtain ⟨s1, h1, s2, h2, h3⟩ := h
  rw [State.store_funnels h3, State.store_funnels h2, State.store_funnels h1]

theorem State.placeLink_funnels {a : Addr} {l : Lte} {o : Received} (h : s.placeLink a l = some o) :
    o.state.funnels = s.funnels := by
  unfold State.placeLink at h
  simp only [Option.bind_eq_some_iff] at h
  obtain ⟨p, -, h⟩ := h
  split at h
  · cases h; rfl
  · simp only [Option.map_eq_some_iff] at h
    obtain ⟨s1, hs, rfl⟩ := h
    rw [State.store_funnels hs]; rfl

theorem State.receiveLink_funnels {r : Receive} {m : Message} {o : Received} (h : s.receiveLink r m = some o) :
    o.state.funnels = s.funnels := by
  unfold State.receiveLink at h
  split at h
  · cases h; rfl
  · cases h; rfl
  · cases h; rfl
  · exact State.placeLink_funnels h

theorem Leads.receiveMessage (hK : K .plain) (hl : K .lp) {r : Receive} {ty : Byte} {f : Nat} {e : Funnel}
    {m : Message} (hf : s.funnel f = some e) : Leads K s (receiveMessage i r ty f e m s) := by
  unfold Machine.receiveMessage
  split
  · exact Leads.finishStatus hK _ _ .refl
  · split
    · exact Leads.accessViolation hK .refl
    · rename_i o ho
      simp only [Option.bind_eq_some_iff] at ho
      obtain ⟨s1, h1, h2⟩ := ho
      have hr := Reach.receiveLink hK (Reach.copyMessage hK .refl h1) h2
      have hf' : o.state.funnel f = some e := by
        unfold State.funnel
        rw [State.receiveLink_funnels h2, State.copyMessage_funnels h1]
        exact hf
      refine Leads.finishStatus hK _ _ (Reach.dismiss hl _ ?_)
      split
      · exact hr
      · exact Reach.dequeue hK _ _ hr hf'

theorem Leads.receiveNothing (hK : K .plain) (hl : K .lp) {r : Receive} {ty : Byte} {n : Nat} :
    Leads K s (receiveNothing i r ty n s) := by
  unfold Machine.receiveNothing
  split
  · exact .next (Reach.refl.step hK (.blocked _ _ _))
  · exact Leads.finishStatus hK _ _ (Reach.dismiss hl _ .refl)

theorem Leads.receiveFunnel (hK : K .plain) (hl : K .lp) {r : Receive} : Leads K s (receiveFunnel i r s) := by
  unfold Machine.receiveFunnel
  simp only
  refine Leads.withField hK .refl fun f => Leads.withFunnel hK .refl fun e _ he => Leads.withField hK .refl fun ty => ?_
  split
  · exact Leads.receiveNothing hK hl
  · exact Leads.receiveMessage hK hl he

/-- What `bestCandidate` chooses is one of the candidates. -/
theorem bestCandidate_mem {l : List Candidate} {c : Candidate} (h : bestCandidate l = some c) : c ∈ l := by
  induction l generalizing c with
  | nil => cases h
  | cons d t ih =>
    unfold bestCandidate at h
    split at h
    · cases h; exact List.mem_cons_self
    · rename_i b hb
      split at h
      · cases h; exact List.mem_cons_of_mem _ (ih hb)
      · cases h; exact List.mem_cons_self

/-- A candidate is an active funnel other than funnel 1, on a selected channel, with its head message. -/
theorem State.mem_candidates {mask : BitVec 16} {c : Candidate} (h : c ∈ s.candidates mask) :
    c.funnel ∈ s.funnels.active ∧ s.funnel c.funnel = some c.entry ∧ c.funnel ≠ 0 ∧ c.funnel ≠ 1 ∧ c.funnel ≤ 255 ∧
      c.entry.queue.head? = some c.message ∧ chanBit mask c.entry.channel = true := by
  unfold State.candidates at h
  simp only [List.mem_filterMap] at h
  obtain ⟨f, hf, h⟩ := h
  split at h
  · cases h
  · rename_i e he
    split at h
    · rename_i hb
      simp only [Option.map_eq_some_iff] at h
      obtain ⟨m, hm, rfl⟩ := h
      unfold Funnel.receivable at hm
      unfold State.funnelOf at he
      split at hm
      · cases hm
      · split at he
        · cases he
        · exact ⟨hf, he, by simp only; omega, ‹_›, by simp only; omega, hm, hb⟩
    · cases h

theorem Leads.receiveChannel (hK : K .plain) (hl : K .lp) {r : Receive} : Leads K s (receiveChannel i r s) := by
  unfold Machine.receiveChannel
  simp only
  refine Leads.withField hK .refl fun mk => Leads.withField hK .refl fun ty => ?_
  split
  · exact Leads.receiveNothing hK hl
  · exact Leads.receiveMessage hK hl (State.mem_candidates (bestCandidate_mem ‹_›)).2.1

end Sys2Proof.Machine
end

