-- ==== Sys2Proof/Laws/Exec.lean ====
section
/-! SUPPORT. What every instruction can do: one case per constructor over the laws of the shared operations. -/

namespace Sys2Proof.Machine

open Sys2Proof

/-- The instructions that can lower the local priority (R36, R640). -/
def lowersPriority (i : Instr) : Prop :=
  (∃ x y z u v, i = .setLocalPri x y z u v) ∨ (∃ u b, i = .ixit u b) ∨ (∃ x y z u v, i = .rcv x y z u v) ∨
    (∃ x y z u v, i = .rcvChan x y z u v) ∨ (∃ x y z u v, i = .rcvLink x y z u v) ∨
    ∃ x y z u v, i = .rcvLinkOnChan x y z u v

/-- The instructions that change the channel mask (R642, R643). -/
def writesMask (i : Instr) : Prop := (∃ x y z, i = .disableChanInt x y z) ∨ ∃ x y z, i = .enableChanInt x y z

/-- The kinds of update an instruction can make. -/
def Admits (i : Instr) (k : Kind) : Prop :=
  k = .plain ∨ (k = .psw ∧ ∃ x, i = .writeStat x) ∨ (k = .lp ∧ lowersPriority i) ∨ k = .mask ∧ writesMask i

variable {K : Kind → Prop} {s : State}

/-! ### The ID of a new funnel -/

theorem firstFree_not {taken : Nat → Bool} {n k q : Nat} (h : firstFree taken n k = some q) : taken q = false := by
  induction k generalizing n with
  | zero => cases h
  | succ k ih =>
    unfold firstFree at h
    split at h
    · exact ih h
    · rename_i ht
      cases h; simpa using ht

/-- A new funnel's ID is that of no defined funnel. -/
theorem State.funnelSlot_ok {f q : Nat} (hf : s.freeOk) (h : s.funnelSlot f = .ok q) : s.funnel q = none := by
  unfold State.funnelSlot at h
  split at h
  · split at h
    · cases h
    · rename_i q' hq
      cases h
      unfold FunnelTable.nextFree at hq
      simp only [Option.or_eq_some_iff] at hq
      rcases hq with (hq | ⟨-, hq⟩) | ⟨-, hq⟩
      · exact (hf.2 q (.inl (List.mem_of_mem_head? hq))).2
      · have := firstFree_not hq
        unfold FunnelTable.taken at this
        simp only [Bool.or_eq_false_iff] at this
        simpa [State.funnel] using this.1.1
      · exact (hf.2 q (.inr (List.mem_of_mem_head? hq))).2
  · split at h
    · cases h
    · split at h
      · cases h
      · split at h
        · cases h
        · rename_i hn
          cases h
          simpa using hn

section
variable (hp : K .plain)
include hp

theorem Leads.execCopyb (x y z : Reg) : Leads K s (execCopyb x y z s) := by
  unfold Machine.execCopyb
  simp only
  split
  · split
    · exact Leads.stringViolation hp _ _
    · split
      · exact Leads.advance hp (Reach.setReg hp _ _ (Reach.setReg hp _ _ (Reach.setReg hp _ _
          (Reach.poke hp _ _ .refl))))
      · exact Leads.stringViolation hp _ _
  · exact Leads.refused _

theorem Leads.execCopybConst (x y z : Reg) : Leads K s (execCopybConst x y z s) := by
  unfold Machine.execCopybConst
  simp only
  split
  · exact Leads.advance hp (Reach.setReg hp _ _ (Reach.setReg hp _ _ (Reach.poke hp _ _ .refl)))
  · exact Leads.stringViolation hp _ _

theorem Leads.execAsciiSub (x y z t : Reg) (u : Nib) : Leads K s (execAsciiSub x y z t u s) := by
  unfold Machine.execAsciiSub
  simp only
  split
  · refine Leads.advance hp (Reach.setCd hp _ ?_)
    split
    · refine Reach.setReg hp _ _ ?_
      split <;> exact Reach.setReg hp _ _ (Reach.setReg hp _ _ .refl)
    · split <;> exact Reach.setReg hp _ _ (Reach.setReg hp _ _ .refl)
  · exact Leads.asciiUndefined hp _ (Reach.setReg hp _ _ .refl)

theorem Leads.execCmpbBr (x y z : Reg) (a : App) : Leads K s (execCmpbBr x y z a s) := by
  unfold Machine.execCmpbBr
  split
  · exact Leads.accessViolation hp .refl
  · exact Leads.branchAction hp _ _ (Reach.setReg hp _ _ (Reach.setReg hp _ _ (Reach.setReg hp _ _ .refl)))

theorem Leads.execCmpbBrConst (x y z : Reg) (a : App) : Leads K s (execCmpbBrConst x y z a s) := by
  unfold Machine.execCmpbBrConst
  split
  · exact Leads.accessViolation hp .refl
  · exact Leads.branchAction hp _ _ (Reach.setReg hp _ _ (Reach.setReg hp _ _ .refl))

theorem Leads.execCmpbTest (x y z : Reg) : Leads K s (execCmpbTest x y z s) := by
  unfold Machine.execCmpbTest
  split
  · exact Leads.accessViolation hp .refl
  · exact Leads.finishReg hp _ _ (Reach.setReg hp _ _ (Reach.setReg hp _ _ .refl))

theorem Leads.execExit (u : Nib) (b : BitVec 8) : Leads K s (execExit u b s) := by
  unfold Machine.execExit
  simp only
  split
  · exact Leads.accessViolation hp .refl
  · exact Leads.jump hp _ (Reach.setReg hp _ _ .refl)

theorem Leads.execBreakpoint : Leads K s (execBreakpoint s) := by
  unfold Machine.execBreakpoint
  split
  · exact Leads.accessViolation hp .refl
  · exact .next (Reach.enterDebugger hp (Reach.setPc hp _ .refl) ‹_›)

theorem Leads.execExchLinkForward (x y z : Reg) : Leads K s (execExchLinkForward x y z s) := by
  unfold Machine.execExchLinkForward
  simp only
  refine Leads.ifImplemented hp .refl (Leads.withField hp .refl fun f => Leads.withHead hp .refl fun fe m hf =>
    Leads.withField hp .refl fun id => Leads.withLink hp .refl fun e _ _ => ?_)
  split
  · split
    · exact Leads.forwardOn hp .refl hf
    · split
      · exact Leads.accessViolation hp .refl
      · rename_i o ho
        have ho' := Reach.placeLink hp (K := K) .refl ho
        split
        · exact Leads.finishStatus hp _ _ .refl
        · refine Leads.withField hp .refl fun id2 => Leads.withLink hp ho' fun e2 _ _ => ?_
          split
          · refine Leads.forwardOn hp ho' ?_
            unfold State.funnel
            rw [State.placeLink_funnels ho]
            exact hf
          · exact Leads.finishStatus hp _ _ ho'
  · exact Leads.finishStatus hp _ _ .refl

theorem Leads.execForwardMsg (x y z : Reg) : Leads K s (execForwardMsg x y z s) := by
  unfold Machine.execForwardMsg
  simp only
  refine Leads.ifImplemented hp .refl (Leads.withField hp .refl fun f => Leads.withField hp .refl fun id =>
    Leads.withHead hp .refl fun fe m hf => ?_)
  split
  · exact Leads.finishStatus hp _ _ .refl
  · refine Leads.withLink hp .refl fun e _ _ => ?_
    split
    · exact Leads.forwardOn hp .refl hf
    · exact Leads.finishStatus hp _ _ .refl

theorem Leads.execSendSmallMsg (x y z : Reg) : Leads K s (execSendSmallMsg x y z s) :=
  Leads.ifImplemented hp .refl (Leads.withLink hp .refl fun _ _ _ => Leads.sendMessage hp .refl fun _ hu _ => hu)

theorem Leads.execDelLink (x y z t v : Reg) : Leads K s (execDelLink x y z t v s) := by
  refine Leads.withField hp .refl fun id => Leads.withLink hp .refl fun e h0 _ => ?_
  have h : Reach K s (s.dropLink id) := Reach.refl.step hp (.dropLink _ _ h0)
  split
  · exact Leads.finishStatus hp _ _ (Reach.notify hp _ _ _ h)
  · exact Leads.finishStatus hp _ _ h

theorem Leads.execCreateLink (x y z : Reg) : Leads K s (execCreateLink x y z s) := by
  refine Leads.withField hp .refl fun f => Leads.withField hp .refl fun r => Leads.withField hp .refl fun p =>
    Leads.withFunnel hp .refl fun _ _ _ => ?_
  split
  · exact Leads.finishStatus hp _ _ .refl
  · split
    · exact Leads.finishStatus hp _ _ .refl
    · exact Leads.withField hp .refl fun _ => Leads.withField hp .refl fun _ =>
        Leads.withStore hp .refl fun _ hu _ => Leads.finishStatus hp _ _ (hu.step hp (.putLink _ _ _))

theorem Leads.execAttFunToChan (x y z : Reg) : Leads K s (execAttFunToChan x y z s) := by
  refine Leads.withFunnel hp .refl fun e _ he => ?_
  split
  · exact Leads.finishStatus hp _ _ .refl
  · split
    · exact Leads.finishStatus hp _ _ .refl
    · rename_i h1 h2
      refine Leads.finishStatus hp _ _ (Reach.refl.step hp (.funnel _ _ _ _ _ he (.inr ⟨by omega, ?_⟩) (.same rfl)))
      intro hc
      have := congrArg Fin.val hc
      simp only [lowChan, Fin.val_zero] at this
      omega

theorem Leads.execCreateFun (x y z : Reg) : Leads K s (execCreateFun x y z s) := by
  unfold Machine.execCreateFun
  simp only
  split
  · exact Leads.finishStatus hp _ _ .refl
  · refine Leads.finishStatus hp _ _ (Reach.setReg hp _ _ (Reach.refl.step hp (.putFunnel _ _ _ (fun hf => State.funnelSlot_ok hf ‹_›) ?_ rfl)))
    show (15 : Chan) ≠ 0
    decide

theorem Leads.execDelFun (x y z : Reg) : Leads K s (execDelFun x y z s) := by
  refine Leads.withFunnel hp .refl fun e h0 he => ?_
  split
  · exact Leads.finishStatus hp _ _ .refl
  · rename_i h
    split
    · exact Leads.finishStatus hp _ _ .refl
    · rename_i hq
      exact Leads.finishStatus hp _ _
        (Reach.refl.step hp (.dropFunnel _ _ e h0 (by simpa using h) he (by simpa using hq)))

theorem Leads.execDelMsg (x y z : Reg) : Leads K s (execDelMsg x y z s) := by
  refine Leads.withHead hp .refl fun e m he => ?_
  split
  · exact Leads.finishStatus hp _ _ .refl
  · exact Leads.finishStatus hp _ _ (Reach.dequeue hp _ _ .refl he)

theorem Leads.execEnableFun (x y z : Reg) : Leads K s (execEnableFun x y z s) := by
  refine Leads.withFunnel hp .refl fun e _ he => ?_
  split
  · exact Leads.finishStatus hp _ _ .refl
  · exact Leads.finishStatus hp _ _ (Reach.refl.step hp (.enable _ _))

theorem Leads.execDisableFun (x y z : Reg) : Leads K s (execDisableFun x y z s) := by
  refine Leads.withFunnel hp .refl fun e _ he => ?_
  split
  · exact Leads.finishStatus hp _ _ .refl
  · split
    · exact Leads.finishStatus hp _ _ (Reach.refl.step hp (.disable _ _ ‹_›))
    · exact Leads.finishStatus hp _ _ .refl

theorem Leads.execSetFunIntVector (x y z : Reg) : Leads K s (execSetFunIntVector x y z s) := by
  refine Leads.withFunnel hp .refl fun e _ he => ?_
  split
  · exact Leads.finishStatus hp _ _ .refl
  · exact Leads.finishStatus hp _ _ (Reach.setReg hp _ _ (Reach.refl.step hp (.funnel _ _ _ _ _ he (.inl rfl) (.same rfl))))

theorem Leads.execSendToHardware (x y z : Reg) : Leads K s (execSendToHardware x y z s) := by
  refine Leads.withLink hp .refl fun e _ _ => ?_
  split
  · exact Leads.finishStatus hp _ _ (Reach.emit hp _ .refl)
  · exact Leads.finishStatus hp _ _ .refl

theorem Leads.execSend (x y z t v : Reg) : Leads K s (execSend x y z t v s) :=
  Leads.withField hp .refl fun _ => Leads.withData hp .refl fun _ => Leads.withLink hp .refl fun _ _ _ =>
    Leads.sendMessage hp .refl fun _ hu _ => hu

theorem Leads.finishEntry {i : Instr} (x z t : Reg) (w0 w1 : Word) : Leads K s (finishEntry i x z t w0 w1 s) :=
  Leads.finishStatus hp _ _ (Reach.setReg hp _ _ (Reach.setReg hp _ _ .refl))

theorem Leads.execReadFte (x y z t v : Reg) : Leads K s (execReadFte x y z t v s) := by
  unfold Machine.execReadFte
  simp only
  split
  · exact Leads.finishStatus hp _ _ .refl
  · split
    · exact Leads.finishStatus hp _ _ .refl
    · exact Leads.finishEntry hp _ _ _ _ _

theorem Leads.execReadLte (x y z t v : Reg) : Leads K s (execReadLte x y z t v s) := by
  unfold Machine.execReadLte
  simp only
  split
  · exact Leads.finishStatus hp _ _ .refl
  · split
    · exact Leads.finishStatus hp _ _ .refl
    · exact Leads.finishEntry hp _ _ _ _ _

theorem Reach.memoryEffect {t : State} (a n : Nat) (op : MemoryOp) (h : Reach K s t) :
    Reach K s (t.memoryEffect a n op) := by
  cases op
  · exact h
  · exact h
  · exact h.step hp (.mem _ _ fun w => Memory.wf_filter _ w)

theorem Leads.execMemoryMan (x y z : Reg) : Leads K s (execMemoryMan x y z s) := by
  refine Leads.ifImplemented hp .refl ?_
  split
  · exact Leads.advance hp .refl
  · simp only
    split
    · split
      · exact .next ((Reach.emit hp _ .refl).step hp (.blocked _ _ _))
      · exact .next (Reach.refl.step hp (.blocked _ _ _))
      · exact Leads.advance hp (Reach.memoryEffect hp _ _ _ (Reach.refl.step hp (.blocked _ _ _)))
    · exact Leads.advance hp (Reach.memoryEffect hp _ _ _ (Reach.emit hp _ .refl))

theorem Leads.execModifyPme (x y z : Reg) : Leads K s (execModifyPme x y z s) :=
  Leads.ifImplemented hp .refl (Leads.withPage hp .refl fun _ =>
    Leads.advance hp (Reach.refl.step hp (.pages _ _ fun w => Assoc.sorted_set _ _ w)))

theorem Leads.execDisableChanInt (hm : K .mask) (x y z : Reg) : Leads K s (execDisableChanInt x y z s) := by
  unfold Machine.execDisableChanInt
  simp only
  split
  · exact Leads.finishStatus hp _ _ .refl
  · rename_i h
    refine Leads.finishStatus hp _ _ (Reach.setReg hp _ _ (Reach.refl.step hm (.mask _ _ ?_)))
    intro h'
    simp only [chanBit, Fin.val_zero] at h h' ⊢
    simp [BitVec.getMsbD_and, BitVec.getMsbD_not, h', Bool.eq_false_of_not_eq_true h]

theorem Leads.execEnableChanInt (hm : K .mask) (x y z : Reg) : Leads K s (execEnableChanInt x y z s) := by
  refine Leads.finishStatus hp _ _ (Reach.setReg hp _ _ (Reach.refl.step hm (.mask _ _ ?_)))
  intro h'
  simp only [chanBit, Fin.val_zero] at h' ⊢
  simp [BitVec.getMsbD_or, h']

theorem Leads.execIxit (hl : K .lp) (u : Nib) (b : BitVec 8) : Leads K s (execIxit u b s) := by
  unfold Machine.execIxit returnFromInterrupt
  split
  · exact Leads.accessViolation hp .refl
  · exact .next (Reach.setPc hp _ ((Reach.refl.step hp (.regs _ _)).step hl (.lp _ _)))

theorem Leads.execLd8 (o : GOp) : Leads K s (Machine.execLd8 o s) :=
  Leads.loadOp hp _ _ _

theorem Leads.execLd16 (o : GOp) : Leads K s (Machine.execLd16 o s) :=
  Leads.loadOp hp _ _ _

theorem Leads.execLd32 (o : GOp) : Leads K s (Machine.execLd32 o s) :=
  Leads.loadOp hp _ _ _

theorem Leads.execLd64 (o : GOp) : Leads K s (Machine.execLd64 o s) :=
  Leads.loadOp hp _ _ _

theorem Leads.execLdz8 (o : GOp) : Leads K s (Machine.execLdz8 o s) :=
  Leads.loadOp hp _ _ _

theorem Leads.execLdz16 (o : GOp) : Leads K s (Machine.execLdz16 o s) :=
  Leads.loadOp hp _ _ _

theorem Leads.execLdz24 (o : GOp) : Leads K s (Machine.execLdz24 o s) :=
  Leads.loadOp hp _ _ _

theorem Leads.execLdz32 (o : GOp) : Leads K s (Machine.execLdz32 o s) :=
  Leads.loadOp hp _ _ _

theorem Leads.execLdz40 (o : GOp) : Leads K s (Machine.execLdz40 o s) :=
  Leads.loadOp hp _ _ _

theorem Leads.execLdz48 (o : GOp) : Leads K s (Machine.execLdz48 o s) :=
  Leads.loadOp hp _ _ _

theorem Leads.execLdz56 (o : GOp) : Leads K s (Machine.execLdz56 o s) :=
  Leads.loadOp hp _ _ _

theorem Leads.execSt8 (o : GOp) : Leads K s (Machine.execSt8 o s) :=
  Leads.storeOp hp _ _

theorem Leads.execSt16 (o : GOp) : Leads K s (Machine.execSt16 o s) :=
  Leads.storeOp hp _ _

theorem Leads.execSt24 (o : GOp) : Leads K s (Machine.execSt24 o s) :=
  Leads.storeOp hp _ _

theorem Leads.execSt32 (o : GOp) : Leads K s (Machine.execSt32 o s) :=
  Leads.storeOp hp _ _

theorem Leads.execSt40 (o : GOp) : Leads K s (Machine.execSt40 o s) :=
  Leads.storeOp hp _ _

theorem Leads.execSt48 (o : GOp) : Leads K s (Machine.execSt48 o s) :=
  Leads.storeOp hp _ _

theorem Leads.execSt56 (o : GOp) : Leads K s (Machine.execSt56 o s) :=
  Leads.storeOp hp _ _

theorem Leads.execSt64 (o : GOp) : Leads K s (Machine.execSt64 o s) :=
  Leads.storeOp hp _ _

theorem Leads.execStv8 (o : GOp) : Leads K s (Machine.execStv8 o s) :=
  Leads.storeChecked hp _ _

theorem Leads.execStv16 (o : GOp) : Leads K s (Machine.execStv16 o s) :=
  Leads.storeChecked hp _ _

theorem Leads.execStv32 (o : GOp) : Leads K s (Machine.execStv32 o s) :=
  Leads.storeChecked hp _ _

theorem Leads.execSti8 (o : GOp) : Leads K s (Machine.execSti8 o s) :=
  Leads.storeLast hp _ _ _

theorem Leads.execSti16 (o : GOp) : Leads K s (Machine.execSti16 o s) :=
  Leads.storeLast hp _ _ _

theorem Leads.execSti32 (o : GOp) : Leads K s (Machine.execSti32 o s) :=
  Leads.storeLast hp _ _ _

theorem Leads.execSti64 (o : GOp) : Leads K s (Machine.execSti64 o s) :=
  Leads.storeLast hp _ _ _

theorem Leads.execStin8 (o : GOp) : Leads K s (Machine.execStin8 o s) :=
  Leads.storeLast hp _ _ _

theorem Leads.execStin16 (o : GOp) : Leads K s (Machine.execStin16 o s) :=
  Leads.storeLast hp _ _ _

theorem Leads.execStin32 (o : GOp) : Leads K s (Machine.execStin32 o s) :=
  Leads.storeLast hp _ _ _

theorem Leads.execStin64 (o : GOp) : Leads K s (Machine.execStin64 o s) :=
  Leads.storeLast hp _ _ _

theorem Leads.execExtract (x y z : Reg) (f : FieldApp) : Leads K s (Machine.execExtract x y z f s) :=
  Leads.extractOp hp _ _ _ _

theorem Leads.execExtractz (x y z : Reg) (f : FieldApp) : Leads K s (Machine.execExtractz x y z f s) :=
  Leads.extractOp hp _ _ _ _

theorem Leads.execInsert (x y z : Reg) (f : FieldApp) : Leads K s (Machine.execInsert x y z f s) := by
  unfold Machine.execInsert
  split
  · exact Leads.finishReg hp _ _ .refl
  · exact Leads.refused _

theorem Leads.execExch (x y z : Reg) : Leads K s (Machine.execExch x y z s) :=
  Leads.exchangeOp hp _ _ _

theorem Leads.execExchAnd (x y z : Reg) : Leads K s (Machine.execExchAnd x y z s) :=
  Leads.exchangeOp hp _ _ _

theorem Leads.execExchOr (x y z : Reg) : Leads K s (Machine.execExchOr x y z s) :=
  Leads.exchangeOp hp _ _ _

theorem Leads.execAdd16 (o : GOp) : Leads K s (Machine.execAdd16 o s) :=
  Leads.intOp hp _ _ _

theorem Leads.execAdd32 (o : GOp) : Leads K s (Machine.execAdd32 o s) :=
  Leads.intOp hp _ _ _

theorem Leads.execAdd64 (o : GOp) : Leads K s (Machine.execAdd64 o s) :=
  Leads.intOp hp _ _ _

theorem Leads.execAdduc64 (o : GOp) : Leads K s (Machine.execAdduc64 o s) :=
  Leads.intOp hp _ _ _

theorem Leads.execAddi64 (o : GOp) : Leads K s (Machine.execAddi64 o s) :=
  Leads.finishInt hp _ _ .refl

theorem Leads.execDiv16 (o : GOp) : Leads K s (Machine.execDiv16 o s) :=
  Leads.divOp hp _ _ _

theorem Leads.execDiv32 (o : GOp) : Leads K s (Machine.execDiv32 o s) :=
  Leads.divOp hp _ _ _

theorem Leads.execDiv64 (o : GOp) : Leads K s (Machine.execDiv64 o s) :=
  Leads.divOp hp _ _ _

theorem Leads.execDivr16 (o : GOp) : Leads K s (Machine.execDivr16 o s) :=
  Leads.divrOp hp _ _ _

theorem Leads.execDivr32 (o : GOp) : Leads K s (Machine.execDivr32 o s) :=
  Leads.divrOp hp _ _ _

theorem Leads.execDivr64 (o : GOp) : Leads K s (Machine.execDivr64 o s) :=
  Leads.divrOp hp _ _ _

theorem Leads.execRem16 (o : GOp) : Leads K s (Machine.execRem16 o s) :=
  Leads.divOp hp _ _ _

theorem Leads.execRem32 (o : GOp) : Leads K s (Machine.execRem32 o s) :=
  Leads.divOp hp _ _ _

theorem Leads.execRem64 (o : GOp) : Leads K s (Machine.execRem64 o s) :=
  Leads.divOp hp _ _ _

theorem Leads.execRemr16 (o : GOp) : Leads K s (Machine.execRemr16 o s) :=
  Leads.divrOp hp _ _ _

theorem Leads.execRemr32 (o : GOp) : Leads K s (Machine.execRemr32 o s) :=
  Leads.divrOp hp _ _ _

theorem Leads.execRemr64 (o : GOp) : Leads K s (Machine.execRemr64 o s) :=
  Leads.divrOp hp _ _ _

theorem Leads.execMul16 (o : GOp) : Leads K s (Machine.execMul16 o s) :=
  Leads.intOp hp _ _ _

theorem Leads.execMul32 (o : GOp) : Leads K s (Machine.execMul32 o s) :=
  Leads.intOp hp _ _ _

theorem Leads.execMul64 (o : GOp) : Leads K s (Machine.execMul64 o s) :=
  Leads.intOp hp _ _ _

theorem Leads.execMul128 (x y z : Reg) : Leads K s (Machine.execMul128 x y z s) :=
  Leads.wideMul hp _ _

theorem Leads.execMulu128 (x y z : Reg) : Leads K s (Machine.execMulu128 x y z s) :=
  Leads.wideMul hp _ _

theorem Leads.execNeg16 (o : GOp) : Leads K s (Machine.execNeg16 o s) :=
  Leads.intOp hp _ _ _

theorem Leads.execNeg32 (o : GOp) : Leads K s (Machine.execNeg32 o s) :=
  Leads.intOp hp _ _ _

theorem Leads.execNeg64 (o : GOp) : Leads K s (Machine.execNeg64 o s) :=
  Leads.intOp hp _ _ _

theorem Leads.execSub16 (o : GOp) : Leads K s (Machine.execSub16 o s) :=
  Leads.intOp hp _ _ _

theorem Leads.execSub32 (o : GOp) : Leads K s (Machine.execSub32 o s) :=
  Leads.intOp hp _ _ _

theorem Leads.execSub64 (o : GOp) : Leads K s (Machine.execSub64 o s) :=
  Leads.intOp hp _ _ _

theorem Leads.execSubr16 (o : GOp) : Leads K s (Machine.execSubr16 o s) :=
  Leads.intOp hp _ _ _

theorem Leads.execSubr32 (o : GOp) : Leads K s (Machine.execSubr32 o s) :=
  Leads.intOp hp _ _ _

theorem Leads.execSubr64 (o : GOp) : Leads K s (Machine.execSubr64 o s) :=
  Leads.intOp hp _ _ _

theorem Leads.execSubuc64 (o : GOp) : Leads K s (Machine.execSubuc64 o s) :=
  Leads.intOp hp _ _ _

theorem Leads.execSubucr64 (o : GOp) : Leads K s (Machine.execSubucr64 o s) :=
  Leads.intOp hp _ _ _

theorem Leads.execSubi64 (o : GOp) : Leads K s (Machine.execSubi64 o s) :=
  Leads.finishInt hp _ _ .refl

theorem Leads.execSla (o : GOp) : Leads K s (Machine.execSla o s) :=
  Leads.intOp hp _ _ _

theorem Leads.execSra (o : GOp) : Leads K s (Machine.execSra o s) :=
  Leads.intOp hp _ _ _

theorem Leads.execFadd32 (o : GOp) : Leads K s (Machine.execFadd32 o s) :=
  Leads.floatOp hp _ _ _

theorem Leads.execFadd64 (o : GOp) : Leads K s (Machine.execFadd64 o s) :=
  Leads.floatOp hp _ _ _

theorem Leads.execFadd80 (x y z : Reg) : Leads K s (Machine.execFadd80 x y z s) :=
  Leads.floatPairOp hp _ _ _ _

theorem Leads.execFsub32 (o : GOp) : Leads K s (Machine.execFsub32 o s) :=
  Leads.floatOp hp _ _ _

theorem Leads.execFsub64 (o : GOp) : Leads K s (Machine.execFsub64 o s) :=
  Leads.floatOp hp _ _ _

theorem Leads.execFsubr32 (o : GOp) : Leads K s (Machine.execFsubr32 o s) :=
  Leads.floatOp hp _ _ _

theorem Leads.execFsubr64 (o : GOp) : Leads K s (Machine.execFsubr64 o s) :=
  Leads.floatOp hp _ _ _

theorem Leads.execFsub80 (x y z : Reg) : Leads K s (Machine.execFsub80 x y z s) :=
  Leads.floatPairOp hp _ _ _ _

theorem Leads.execFmul32 (o : GOp) : Leads K s (Machine.execFmul32 o s) :=
  Leads.floatOp hp _ _ _

theorem Leads.execFmul64 (o : GOp) : Leads K s (Machine.execFmul64 o s) :=
  Leads.floatOp hp _ _ _

theorem Leads.execFmul80 (x y z : Reg) : Leads K s (Machine.execFmul80 x y z s) :=
  Leads.floatPairOp hp _ _ _ _

theorem Leads.execFdiv32 (o : GOp) : Leads K s (Machine.execFdiv32 o s) :=
  Leads.floatOp hp _ _ _

theorem Leads.execFdiv64 (o : GOp) : Leads K s (Machine.execFdiv64 o s) :=
  Leads.floatOp hp _ _ _

theorem Leads.execFdivr32 (o : GOp) : Leads K s (Machine.execFdivr32 o s) :=
  Leads.floatOp hp _ _ _

theorem Leads.execFdivr64 (o : GOp) : Leads K s (Machine.execFdivr64 o s) :=
  Leads.floatOp hp _ _ _

theorem Leads.execFdiv80 (x y z : Reg) : Leads K s (Machine.execFdiv80 x y z s) :=
  Leads.floatPairOp hp _ _ _ _

theorem Leads.execFrem32 (x y z : Reg) : Leads K s (Machine.execFrem32 x y z s) :=
  Leads.remOp hp _ _ _ _

theorem Leads.execFrem64 (x y z : Reg) : Leads K s (Machine.execFrem64 x y z s) :=
  Leads.remOp hp _ _ _ _

theorem Leads.execFrem80 (x y z : Reg) : Leads K s (Machine.execFrem80 x y z s) := by
  unfold Machine.execFrem80
  split
  · exact Leads.finishRem hp _ _ _ _
  · exact Leads.illegal hp .refl

theorem Leads.execAsciiAdd (x y z : Reg) : Leads K s (Machine.execAsciiAdd x y z s) := by
  unfold Machine.execAsciiAdd
  split
  · exact Leads.advance hp (Reach.setCd hp _ (Reach.setReg hp _ _ .refl))
  · exact Leads.asciiUndefined hp _ .refl

theorem Leads.execAsciiAddc (x y z : Reg) : Leads K s (Machine.execAsciiAddc x y z s) := by
  unfold Machine.execAsciiAddc
  split
  · exact Leads.advance hp (Reach.setCd hp _ (Reach.setReg hp _ _ .refl))
  · exact Leads.asciiUndefined hp _ .refl

theorem Leads.execAsciiSubc (x y z : Reg) : Leads K s (Machine.execAsciiSubc x y z s) := by
  unfold Machine.execAsciiSubc
  split
  · exact Leads.advance hp (Reach.setCd hp _ (Reach.setReg hp _ _ .refl))
  · exact Leads.asciiUndefined hp _ .refl

theorem Leads.execLogAnd (o : GOp) : Leads K s (Machine.execLogAnd o s) :=
  Leads.logicalOp hp _ _

theorem Leads.execLogOr (o : GOp) : Leads K s (Machine.execLogOr o s) :=
  Leads.logicalOp hp _ _

theorem Leads.execLogNot (o : GOp) : Leads K s (Machine.execLogNot o s) :=
  Leads.monadicOp hp _ _

theorem Leads.execLogXor (o : GOp) : Leads K s (Machine.execLogXor o s) :=
  Leads.logicalOp hp _ _

theorem Leads.execSetBit (x : Reg) (b : BitVec 8) : Leads K s (Machine.execSetBit x b s) :=
  Leads.finishReg hp _ _ .refl

theorem Leads.execClearBit (x : Reg) (b : BitVec 8) : Leads K s (Machine.execClearBit x b s) :=
  Leads.finishReg hp _ _ .refl

theorem Leads.execToggleBit (x : Reg) (b : BitVec 8) : Leads K s (Machine.execToggleBit x b s) :=
  Leads.finishReg hp _ _ .refl

theorem Leads.execFindFirst (o : GOp) : Leads K s (Machine.execFindFirst o s) :=
  Leads.monadicOp hp _ _

theorem Leads.execRol (o : GOp) : Leads K s (Machine.execRol o s) :=
  Leads.logicalOp hp _ _

theorem Leads.execRor (o : GOp) : Leads K s (Machine.execRor o s) :=
  Leads.logicalOp hp _ _

theorem Leads.execSll (o : GOp) : Leads K s (Machine.execSll o s) :=
  Leads.logicalOp hp _ _

theorem Leads.execSrl (o : GOp) : Leads K s (Machine.execSrl o s) :=
  Leads.logicalOp hp _ _

theorem Leads.execSll1w16 (o : GOp) : Leads K s (Machine.execSll1w16 o s) :=
  Leads.shiftLoad hp _ _ _

theorem Leads.execSll1w32 (o : GOp) : Leads K s (Machine.execSll1w32 o s) :=
  Leads.shiftLoad hp _ _ _

theorem Leads.execSll1w64 (o : GOp) : Leads K s (Machine.execSll1w64 o s) :=
  Leads.shiftLoad hp _ _ _

theorem Leads.execSll2w16 (o : GOp) : Leads K s (Machine.execSll2w16 o s) :=
  Leads.shiftLoad hp _ _ _

theorem Leads.execSll2w32 (o : GOp) : Leads K s (Machine.execSll2w32 o s) :=
  Leads.shiftLoad hp _ _ _

theorem Leads.execSll2w64 (o : GOp) : Leads K s (Machine.execSll2w64 o s) :=
  Leads.shiftLoad hp _ _ _

theorem Leads.execSll3w16 (o : GOp) : Leads K s (Machine.execSll3w16 o s) :=
  Leads.shiftLoad hp _ _ _

theorem Leads.execSll3w32 (o : GOp) : Leads K s (Machine.execSll3w32 o s) :=
  Leads.shiftLoad hp _ _ _

theorem Leads.execSll3w64 (o : GOp) : Leads K s (Machine.execSll3w64 o s) :=
  Leads.shiftLoad hp _ _ _

theorem Leads.execCmpBr8 (o : GOp) (a : App) : Leads K s (Machine.execCmpBr8 o a s) :=
  Leads.compareBranch hp _ _ _ _

theorem Leads.execCmpBr16 (o : GOp) (a : App) : Leads K s (Machine.execCmpBr16 o a s) :=
  Leads.compareBranch hp _ _ _ _

theorem Leads.execCmpBr32 (o : GOp) (a : App) : Leads K s (Machine.execCmpBr32 o a s) :=
  Leads.compareBranch hp _ _ _ _

theorem Leads.execCmpBr64 (o : GOp) (a : App) : Leads K s (Machine.execCmpBr64 o a s) :=
  Leads.compareBranch hp _ _ _ _

theorem Leads.execCmpuBr8 (o : GOp) (a : App) : Leads K s (Machine.execCmpuBr8 o a s) :=
  Leads.compareBranch hp _ _ _ _

theorem Leads.execCmpuBr16 (o : GOp) (a : App) : Leads K s (Machine.execCmpuBr16 o a s) :=
  Leads.compareBranch hp _ _ _ _

theorem Leads.execCmpuBr32 (o : GOp) (a : App) : Leads K s (Machine.execCmpuBr32 o a s) :=
  Leads.compareBranch hp _ _ _ _

theorem Leads.execCmpuBr64 (o : GOp) (a : App) : Leads K s (Machine.execCmpuBr64 o a s) :=
  Leads.compareBranch hp _ _ _ _

theorem Leads.execCmp8 (o : GOp) (a : App) : Leads K s (Machine.execCmp8 o a s) :=
  Leads.compareTest hp _ _ _ _

theorem Leads.execCmp16 (o : GOp) (a : App) : Leads K s (Machine.execCmp16 o a s) :=
  Leads.compareTest hp _ _ _ _

theorem Leads.execCmp32 (o : GOp) (a : App) : Leads K s (Machine.execCmp32 o a s) :=
  Leads.compareTest hp _ _ _ _

theorem Leads.execCmp64 (o : GOp) (a : App) : Leads K s (Machine.execCmp64 o a s) :=
  Leads.compareTest hp _ _ _ _

theorem Leads.execCmpu8 (o : GOp) (a : App) : Leads K s (Machine.execCmpu8 o a s) :=
  Leads.compareTest hp _ _ _ _

theorem Leads.execCmpu16 (o : GOp) (a : App) : Leads K s (Machine.execCmpu16 o a s) :=
  Leads.compareTest hp _ _ _ _

theorem Leads.execCmpu32 (o : GOp) (a : App) : Leads K s (Machine.execCmpu32 o a s) :=
  Leads.compareTest hp _ _ _ _

theorem Leads.execCmpu64 (o : GOp) (a : App) : Leads K s (Machine.execCmpu64 o a s) :=
  Leads.compareTest hp _ _ _ _

theorem Leads.execFcmpBr32 (o : GOp) (a : App) : Leads K s (Machine.execFcmpBr32 o a s) :=
  Leads.floatBranch hp _ _ _ _

theorem Leads.execFcmpBr64 (o : GOp) (a : App) : Leads K s (Machine.execFcmpBr64 o a s) :=
  Leads.floatBranch hp _ _ _ _

theorem Leads.execFcmpxBr32 (o : GOp) (a : App) : Leads K s (Machine.execFcmpxBr32 o a s) :=
  Leads.floatBranch hp _ _ _ _

theorem Leads.execFcmpxBr64 (o : GOp) (a : App) : Leads K s (Machine.execFcmpxBr64 o a s) :=
  Leads.floatBranch hp _ _ _ _

theorem Leads.execFcmp32 (o : GOp) (a : App) : Leads K s (Machine.execFcmp32 o a s) :=
  Leads.floatTest hp _ _ _ _

theorem Leads.execFcmp64 (o : GOp) (a : App) : Leads K s (Machine.execFcmp64 o a s) :=
  Leads.floatTest hp _ _ _ _

theorem Leads.execFcmpx32 (o : GOp) (a : App) : Leads K s (Machine.execFcmpx32 o a s) :=
  Leads.floatTest hp _ _ _ _

theorem Leads.execFcmpx64 (o : GOp) (a : App) : Leads K s (Machine.execFcmpx64 o a s) :=
  Leads.floatTest hp _ _ _ _

theorem Leads.execFcmp80 (x y z : Reg) (a : App) : Leads K s (Machine.execFcmp80 x y z a s) :=
  Leads.floatPairCompare hp _ _ _ _ fun _ _ hu => Leads.testAction hp _ _ _ hu

theorem Leads.execFcmpBr80 (x y z : Reg) (a : App) : Leads K s (Machine.execFcmpBr80 x y z a s) :=
  Leads.floatPairCompare hp _ _ _ _ fun _ _ hu => Leads.branchAction hp _ _ hu

theorem Leads.execFcmpx80 (x y z : Reg) (a : App) : Leads K s (Machine.execFcmpx80 x y z a s) :=
  Leads.floatPairCompare hp _ _ _ _ fun _ _ hu => Leads.testAction hp _ _ _ hu

theorem Leads.execFcmpxBr80 (x y z : Reg) (a : App) : Leads K s (Machine.execFcmpxBr80 x y z a s) :=
  Leads.floatPairCompare hp _ _ _ _ fun _ _ hu => Leads.branchAction hp _ _ hu

theorem Leads.execCvtDe (o : GOp) : Leads K s (Machine.execCvtDe o s) :=
  Leads.floatToFloat hp _ _ _

theorem Leads.execCvtDi (o : GOp) : Leads K s (Machine.execCvtDi o s) :=
  Leads.toIntOp hp _ _

theorem Leads.execCvtDs (o : GOp) : Leads K s (Machine.execCvtDs o s) :=
  Leads.floatToFloat hp _ _ _

theorem Leads.execCvtId (o : GOp) : Leads K s (Machine.execCvtId o s) :=
  Leads.intToFloat hp _ _

theorem Leads.execCvtIs (o : GOp) : Leads K s (Machine.execCvtIs o s) :=
  Leads.intToFloat hp _ _

theorem Leads.execCvtSd (o : GOp) : Leads K s (Machine.execCvtSd o s) :=
  Leads.floatToFloat hp _ _ _

theorem Leads.execCvtSi (o : GOp) : Leads K s (Machine.execCvtSi o s) :=
  Leads.toIntOp hp _ _

theorem Leads.execCvtSe (o : GOp) : Leads K s (Machine.execCvtSe o s) :=
  Leads.floatToFloat hp _ _ _

theorem Leads.execFinp32 (o : GOp) : Leads K s (Machine.execFinp32 o s) :=
  Leads.finpOp hp _ _

theorem Leads.execFinp64 (o : GOp) : Leads K s (Machine.execFinp64 o s) :=
  Leads.finpOp hp _ _

theorem Leads.execCvtAi (x y z : Reg) : Leads K s (Machine.execCvtAi x y z s) :=
  Leads.finishReg hp _ _ .refl

theorem Leads.execCvtIa (x y z : Reg) : Leads K s (Machine.execCvtIa x y z s) :=
  Leads.finishReg hp _ _ .refl

theorem Leads.execCvtIe (x y z : Reg) : Leads K s (Machine.execCvtIe x y z s) := by
  unfold Machine.execCvtIe
  split
  · exact Leads.finishFloat hp _ _ _ .refl
  · exact Leads.illegal hp .refl

theorem Leads.execCvtEi (x y z : Reg) : Leads K s (Machine.execCvtEi x y z s) := by
  unfold Machine.execCvtEi
  split
  · exact Leads.finishToInt hp _ _
  · exact Leads.illegal hp .refl

theorem Leads.execCvtEs (x y z : Reg) : Leads K s (Machine.execCvtEs x y z s) :=
  Leads.pairToFloat hp _ _ _

theorem Leads.execCvtEd (x y z : Reg) : Leads K s (Machine.execCvtEd x y z s) :=
  Leads.pairToFloat hp _ _ _

theorem Leads.execFinp80 (x y z : Reg) : Leads K s (Machine.execFinp80 x y z s) := by
  unfold Machine.execFinp80
  split
  · exact Leads.finishFloat hp _ _ _ .refl
  · exact Leads.illegal hp .refl

theorem Leads.execBrAbs (_u : BitVec 12) (d : BitVec 32) : Leads K s (Machine.execBrAbs _u d s) :=
  Leads.jump hp _ .refl

theorem Leads.execBrRel (_u : BitVec 12) (d : BitVec 32) : Leads K s (Machine.execBrRel _u d s) :=
  Leads.jump hp _ .refl

theorem Leads.execBrBackward (b : BitVec 8) : Leads K s (Machine.execBrBackward b s) :=
  Leads.jump hp _ .refl

theorem Leads.execBrForward (b : BitVec 8) : Leads K s (Machine.execBrForward b s) :=
  Leads.jump hp _ .refl

theorem Leads.execBrGtAbs (x : Reg) (u : BitVec 8) (d : BitVec 32) : Leads K s (Machine.execBrGtAbs x u d s) :=
  Leads.condBranch hp _ _ _

theorem Leads.execBrGtRel (x : Reg) (u : BitVec 8) (d : BitVec 32) : Leads K s (Machine.execBrGtRel x u d s) :=
  Leads.condBranch hp _ _ _

theorem Leads.execBrBGtShRel (x : Reg) (b : BitVec 8) : Leads K s (Machine.execBrBGtShRel x b s) :=
  Leads.condBranch hp _ _ _

theorem Leads.execBrFGtShRel (x : Reg) (b : BitVec 8) : Leads K s (Machine.execBrFGtShRel x b s) :=
  Leads.condBranch hp _ _ _

theorem Leads.execBrEqAbs (x : Reg) (u : BitVec 8) (d : BitVec 32) : Leads K s (Machine.execBrEqAbs x u d s) :=
  Leads.condBranch hp _ _ _

theorem Leads.execBrEqRel (x : Reg) (u : BitVec 8) (d : BitVec 32) : Leads K s (Machine.execBrEqRel x u d s) :=
  Leads.condBranch hp _ _ _

theorem Leads.execBrBEqShRel (x : Reg) (b : BitVec 8) : Leads K s (Machine.execBrBEqShRel x b s) :=
  Leads.condBranch hp _ _ _

theorem Leads.execBrFEqShRel (x : Reg) (b : BitVec 8) : Leads K s (Machine.execBrFEqShRel x b s) :=
  Leads.condBranch hp _ _ _

theorem Leads.execBrGeAbs (x : Reg) (u : BitVec 8) (d : BitVec 32) : Leads K s (Machine.execBrGeAbs x u d s) :=
  Leads.condBranch hp _ _ _

theorem Leads.execBrGeRel (x : Reg) (u : BitVec 8) (d : BitVec 32) : Leads K s (Machine.execBrGeRel x u d s) :=
  Leads.condBranch hp _ _ _

theorem Leads.execBrBGeShRel (x : Reg) (b : BitVec 8) : Leads K s (Machine.execBrBGeShRel x b s) :=
  Leads.condBranch hp _ _ _

theorem Leads.execBrFGeShRel (x : Reg) (b : BitVec 8) : Leads K s (Machine.execBrFGeShRel x b s) :=
  Leads.condBranch hp _ _ _

theorem Leads.execBrLtAbs (x : Reg) (u : BitVec 8) (d : BitVec 32) : Leads K s (Machine.execBrLtAbs x u d s) :=
  Leads.condBranch hp _ _ _

theorem Leads.execBrLtRel (x : Reg) (u : BitVec 8) (d : BitVec 32) : Leads K s (Machine.execBrLtRel x u d s) :=
  Leads.condBranch hp _ _ _

theorem Leads.execBrBLtShRel (x : Reg) (b : BitVec 8) : Leads K s (Machine.execBrBLtShRel x b s) :=
  Leads.condBranch hp _ _ _

theorem Leads.execBrFLtShRel (x : Reg) (b : BitVec 8) : Leads K s (Machine.execBrFLtShRel x b s) :=
  Leads.condBranch hp _ _ _

theorem Leads.execBrNeAbs (x : Reg) (u : BitVec 8) (d : BitVec 32) : Leads K s (Machine.execBrNeAbs x u d s) :=
  Leads.condBranch hp _ _ _

theorem Leads.execBrNeRel (x : Reg) (u : BitVec 8) (d : BitVec 32) : Leads K s (Machine.execBrNeRel x u d s) :=
  Leads.condBranch hp _ _ _

theorem Leads.execBrBNeShRel (x : Reg) (b : BitVec 8) : Leads K s (Machine.execBrBNeShRel x b s) :=
  Leads.condBranch hp _ _ _

theorem Leads.execBrFNeShRel (x : Reg) (b : BitVec 8) : Leads K s (Machine.execBrFNeShRel x b s) :=
  Leads.condBranch hp _ _ _

theorem Leads.execBrLeAbs (x : Reg) (u : BitVec 8) (d : BitVec 32) : Leads K s (Machine.execBrLeAbs x u d s) :=
  Leads.condBranch hp _ _ _

theorem Leads.execBrLeRel (x : Reg) (u : BitVec 8) (d : BitVec 32) : Leads K s (Machine.execBrLeRel x u d s) :=
  Leads.condBranch hp _ _ _

theorem Leads.execBrBLeShRel (x : Reg) (b : BitVec 8) : Leads K s (Machine.execBrBLeShRel x b s) :=
  Leads.condBranch hp _ _ _

theorem Leads.execBrFLeShRel (x : Reg) (b : BitVec 8) : Leads K s (Machine.execBrFLeShRel x b s) :=
  Leads.condBranch hp _ _ _

theorem Leads.execBrReg (x : Reg) : Leads K s (Machine.execBrReg x s) :=
  Leads.jump hp _ .refl

theorem Leads.execCall (u : BitVec 12) (d : BitVec 32) : Leads K s (Machine.execCall u d s) :=
  Leads.withStore hp .refl fun _ hu _ => Leads.jump hp _ hu

theorem Leads.execCallReg (x : Reg) (_u : BitVec 8) (d : BitVec 32) : Leads K s (Machine.execCallReg x _u d s) :=
  Leads.jump hp _ (Reach.setReg hp _ _ .refl)

theorem Leads.execBxit (u : Nib) (b : BitVec 8) : Leads K s (Machine.execBxit u b s) :=
  Leads.returnFromDebugger hp _

theorem Leads.execException (x y z : Reg) : Leads K s (Machine.execException x y z s) :=
  Leads.raise hp _ .refl

theorem Leads.execCopyLink (x y z t v : Reg) : Leads K s (Machine.execCopyLink x y z t v s) :=
  Leads.shareLink hp fun _ _ _ hu => hu

theorem Leads.execPassLink (x y z t v : Reg) : Leads K s (Machine.execPassLink x y z t v s) :=
  Leads.shareLink hp fun _ _ h0 hu => hu.step hp (.dropLink _ _ h0)

theorem Leads.execNop : Leads K s (Machine.execNop s) :=
  Leads.advance hp .refl

theorem Leads.execReadMachId (x : Reg) : Leads K s (Machine.execReadMachId x s) :=
  Leads.ifImplemented hp .refl (Leads.finishReg hp _ _ .refl)

theorem Leads.execReadCpuTimer (x : Reg) : Leads K s (Machine.execReadCpuTimer x s) :=
  Leads.finishReg hp _ _ .refl

theorem Leads.execReadPme (x : Reg) : Leads K s (Machine.execReadPme x s) :=
  Leads.withPage hp .refl fun _ => Leads.finishReg hp _ _ .refl

theorem Leads.execReadRealTimer (x : Reg) : Leads K s (Machine.execReadRealTimer x s) :=
  Leads.finishReg hp _ _ .refl

theorem Leads.execReadStat (x : Reg) : Leads K s (Machine.execReadStat x s) :=
  Leads.finishReg hp _ _ .refl

end

/-- Whatever an instruction does is a sequence of updates of the kinds it admits. -/
theorem exec_leads (i : Instr) : Leads (Admits i) s (exec i s) := by
  have hp : Admits i .plain := .inl rfl
  cases i with
  | ld8 o => exact Leads.execLd8 hp _
  | ld16 o => exact Leads.execLd16 hp _
  | ld32 o => exact Leads.execLd32 hp _
  | ld64 o => exact Leads.execLd64 hp _
  | ldz8 o => exact Leads.execLdz8 hp _
  | ldz16 o => exact Leads.execLdz16 hp _
  | ldz24 o => exact Leads.execLdz24 hp _
  | ldz32 o => exact Leads.execLdz32 hp _
  | ldz40 o => exact Leads.execLdz40 hp _
  | ldz48 o => exact Leads.execLdz48 hp _
  | ldz56 o => exact Leads.execLdz56 hp _
  | st8 o => exact Leads.execSt8 hp _
  | st16 o => exact Leads.execSt16 hp _
  | st24 o => exact Leads.execSt24 hp _
  | st32 o => exact Leads.execSt32 hp _
  | st40 o => exact Leads.execSt40 hp _
  | st48 o => exact Leads.execSt48 hp _
  | st56 o => exact Leads.execSt56 hp _
  | st64 o => exact Leads.execSt64 hp _
  | stv8 o => exact Leads.execStv8 hp _
  | stv16 o => exact Leads.execStv16 hp _
  | stv32 o => exact Leads.execStv32 hp _
  | sti8 o => exact Leads.execSti8 hp _
  | sti16 o => exact Leads.execSti16 hp _
  | sti32 o => exact Leads.execSti32 hp _
  | sti64 o => exact Leads.execSti64 hp _
  | stin8 o => exact Leads.execStin8 hp _
  | stin16 o => exact Leads.execStin16 hp _
  | stin32 o => exact Leads.execStin32 hp _
  | stin64 o => exact Leads.execStin64 hp _
  | extract x y z f => exact Leads.execExtract hp _ _ _ _
  | extractz x y z f => exact Leads.execExtractz hp _ _ _ _
  | insert x y z f => exact Leads.execInsert hp _ _ _ _
  | exch x y z => exact Leads.execExch hp _ _ _
  | exchAnd x y z => exact Leads.execExchAnd hp _ _ _
  | exchOr x y z => exact Leads.execExchOr hp _ _ _
  | copyb x y z => exact Leads.execCopyb hp x y z
  | copybConst x y z => exact Leads.execCopybConst hp x y z
  | add16 o => exact Leads.execAdd16 hp _
  | add32 o => exact Leads.execAdd32 hp _
  | add64 o => exact Leads.execAdd64 hp _
  | adduc64 o => exact Leads.execAdduc64 hp _
  | addi64 o => exact Leads.execAddi64 hp _
  | div16 o => exact Leads.execDiv16 hp _
  | div32 o => exact Leads.execDiv32 hp _
  | div64 o => exact Leads.execDiv64 hp _
  | divr16 o => exact Leads.execDivr16 hp _
  | divr32 o => exact Leads.execDivr32 hp _
  | divr64 o => exact Leads.execDivr64 hp _
  | rem16 o => exact Leads.execRem16 hp _
  | rem32 o => exact Leads.execRem32 hp _
  | rem64 o => exact Leads.execRem64 hp _
  | remr16 o => exact Leads.execRemr16 hp _
  | remr32 o => exact Leads.execRemr32 hp _
  | remr64 o => exact Leads.execRemr64 hp _
  | mul16 o => exact Leads.execMul16 hp _
  | mul32 o => exact Leads.execMul32 hp _
  | mul64 o => exact Leads.execMul64 hp _
  | mul128 x y z => exact Leads.execMul128 hp _ _ _
  | mulu128 x y z => exact Leads.execMulu128 hp _ _ _
  | neg16 o => exact Leads.execNeg16 hp _
  | neg32 o => exact Leads.execNeg32 hp _
  | neg64 o => exact Leads.execNeg64 hp _
  | sub16 o => exact Leads.execSub16 hp _
  | sub32 o => exact Leads.execSub32 hp _
  | sub64 o => exact Leads.execSub64 hp _
  | subr16 o => exact Leads.execSubr16 hp _
  | subr32 o => exact Leads.execSubr32 hp _
  | subr64 o => exact Leads.execSubr64 hp _
  | subuc64 o => exact Leads.execSubuc64 hp _
  | subucr64 o => exact Leads.execSubucr64 hp _
  | subi64 o => exact Leads.execSubi64 hp _
  | sla o => exact Leads.execSla hp _
  | sra o => exact Leads.execSra hp _
  | fadd32 o => exact Leads.execFadd32 hp _
  | fadd64 o => exact Leads.execFadd64 hp _
  | fadd80 x y z => exact Leads.execFadd80 hp _ _ _
  | fsub32 o => exact Leads.execFsub32 hp _
  | fsub64 o => exact Leads.execFsub64 hp _
  | fsubr32 o => exact Leads.execFsubr32 hp _
  | fsubr64 o => exact Leads.execFsubr64 hp _
  | fsub80 x y z => exact Leads.execFsub80 hp _ _ _
  | fmul32 o => exact Leads.execFmul32 hp _
  | fmul64 o => exact Leads.execFmul64 hp _
  | fmul80 x y z => exact Leads.execFmul80 hp _ _ _
  | fdiv32 o => exact Leads.execFdiv32 hp _
  | fdiv64 o => exact Leads.execFdiv64 hp _
  | fdivr32 o => exact Leads.execFdivr32 hp _
  | fdivr64 o => exact Leads.execFdivr64 hp _
  | fdiv80 x y z => exact Leads.execFdiv80 hp _ _ _
  | frem32 x y z => exact Leads.execFrem32 hp _ _ _
  | frem64 x y z => exact Leads.execFrem64 hp _ _ _
  | frem80 x y z => exact Leads.execFrem80 hp _ _ _
  | asciiAdd x y z => exact Leads.execAsciiAdd hp _ _ _
  | asciiAddc x y z => exact Leads.execAsciiAddc hp _ _ _
  | asciiSub x y z t u => exact Leads.execAsciiSub hp _ _ _ _ _
  | asciiSubc x y z => exact Leads.execAsciiSubc hp _ _ _
  | logAnd o => exact Leads.execLogAnd hp _
  | logOr o => exact Leads.execLogOr hp _
  | logNot o => exact Leads.execLogNot hp _
  | logXor o => exact Leads.execLogXor hp _
  | setBit x b => exact Leads.execSetBit hp _ _
  | clearBit x b => exact Leads.execClearBit hp _ _
  | toggleBit x b => exact Leads.execToggleBit hp _ _
  | findFirst o => exact Leads.execFindFirst hp _
  | rol o => exact Leads.execRol hp _
  | ror o => exact Leads.execRor hp _
  | sll o => exact Leads.execSll hp _
  | srl o => exact Leads.execSrl hp _
  | sll1w16 o => exact Leads.execSll1w16 hp _
  | sll1w32 o => exact Leads.execSll1w32 hp _
  | sll1w64 o => exact Leads.execSll1w64 hp _
  | sll2w16 o => exact Leads.execSll2w16 hp _
  | sll2w32 o => exact Leads.execSll2w32 hp _
  | sll2w64 o => exact Leads.execSll2w64 hp _
  | sll3w16 o => exact Leads.execSll3w16 hp _
  | sll3w32 o => exact Leads.execSll3w32 hp _
  | sll3w64 o => exact Leads.execSll3w64 hp _
  | cmpBr8 o a => exact Leads.execCmpBr8 hp _ _
  | cmpBr16 o a => exact Leads.execCmpBr16 hp _ _
  | cmpBr32 o a => exact Leads.execCmpBr32 hp _ _
  | cmpBr64 o a => exact Leads.execCmpBr64 hp _ _
  | cmpuBr8 o a => exact Leads.execCmpuBr8 hp _ _
  | cmpuBr16 o a => exact Leads.execCmpuBr16 hp _ _
  | cmpuBr32 o a => exact Leads.execCmpuBr32 hp _ _
  | cmpuBr64 o a => exact Leads.execCmpuBr64 hp _ _
  | cmp8 o a => exact Leads.execCmp8 hp _ _
  | cmp16 o a => exact Leads.execCmp16 hp _ _
  | cmp32 o a => exact Leads.execCmp32 hp _ _
  | cmp64 o a => exact Leads.execCmp64 hp _ _
  | cmpu8 o a => exact Leads.execCmpu8 hp _ _
  | cmpu16 o a => exact Leads.execCmpu16 hp _ _
  | cmpu32 o a => exact Leads.execCmpu32 hp _ _
  | cmpu64 o a => exact Leads.execCmpu64 hp _ _
  | fcmpBr32 o a => exact Leads.execFcmpBr32 hp _ _
  | fcmpBr64 o a => exact Leads.execFcmpBr64 hp _ _
  | fcmpxBr32 o a => exact Leads.execFcmpxBr32 hp _ _
  | fcmpxBr64 o a => exact Leads.execFcmpxBr64 hp _ _
  | fcmp32 o a => exact Leads.execFcmp32 hp _ _
  | fcmp64 o a => exact Leads.execFcmp64 hp _ _
  | fcmpx32 o a => exact Leads.execFcmpx32 hp _ _
  | fcmpx64 o a => exact Leads.execFcmpx64 hp _ _
  | fcmp80 x y z a => exact Leads.execFcmp80 hp _ _ _ _
  | fcmpBr80 x y z a => exact Leads.execFcmpBr80 hp _ _ _ _
  | fcmpx80 x y z a => exact Leads.execFcmpx80 hp _ _ _ _
  | fcmpxBr80 x y z a => exact Leads.execFcmpxBr80 hp _ _ _ _
  | cmpbBr x y z a => exact Leads.execCmpbBr hp _ _ _ _
  | cmpbBrConst x y z a => exact Leads.execCmpbBrConst hp _ _ _ _
  | cmpbTest x y z => exact Leads.execCmpbTest hp _ _ _
  | cvtDe o => exact Leads.execCvtDe hp _
  | cvtDi o => exact Leads.execCvtDi hp _
  | cvtDs o => exact Leads.execCvtDs hp _
  | cvtId o => exact Leads.execCvtId hp _
  | cvtIs o => exact Leads.execCvtIs hp _
  | cvtSd o => exact Leads.execCvtSd hp _
  | cvtSi o => exact Leads.execCvtSi hp _
  | cvtSe o => exact Leads.execCvtSe hp _
  | finp32 o => exact Leads.execFinp32 hp _
  | finp64 o => exact Leads.execFinp64 hp _
  | cvtAi x y z => exact Leads.execCvtAi hp _ _ _
  | cvtIa x y z => exact Leads.execCvtIa hp _ _ _
  | cvtIe x y z => exact Leads.execCvtIe hp _ _ _
  | cvtEi x y z => exact Leads.execCvtEi hp _ _ _
  | cvtEs x y z => exact Leads.execCvtEs hp _ _ _
  | cvtEd x y z => exact Leads.execCvtEd hp _ _ _
  | finp80 x y z => exact Leads.execFinp80 hp _ _ _
  | brAbs u d => exact Leads.execBrAbs hp u d
  | brRel u d => exact Leads.execBrRel hp u d
  | brBackward b => exact Leads.execBrBackward hp _
  | brForward b => exact Leads.execBrForward hp _
  | brGtAbs x u d => exact Leads.execBrGtAbs hp _ _ _
  | brGtRel x u d => exact Leads.execBrGtRel hp _ _ _
  | brBGtShRel x b => exact Leads.execBrBGtShRel hp _ _
  | brFGtShRel x b => exact Leads.execBrFGtShRel hp _ _
  | brEqAbs x u d => exact Leads.execBrEqAbs hp _ _ _
  | brEqRel x u d => exact Leads.execBrEqRel hp _ _ _
  | brBEqShRel x b => exact Leads.execBrBEqShRel hp _ _
  | brFEqShRel x b => exact Leads.execBrFEqShRel hp _ _
  | brGeAbs x u d => exact Leads.execBrGeAbs hp _ _ _
  | brGeRel x u d => exact Leads.execBrGeRel hp _ _ _
  | brBGeShRel x b => exact Leads.execBrBGeShRel hp _ _
  | brFGeShRel x b => exact Leads.execBrFGeShRel hp _ _
  | brLtAbs x u d => exact Leads.execBrLtAbs hp _ _ _
  | brLtRel x u d => exact Leads.execBrLtRel hp _ _ _
  | brBLtShRel x b => exact Leads.execBrBLtShRel hp _ _
  | brFLtShRel x b => exact Leads.execBrFLtShRel hp _ _
  | brNeAbs x u d => exact Leads.execBrNeAbs hp _ _ _
  | brNeRel x u d => exact Leads.execBrNeRel hp _ _ _
  | brBNeShRel x b => exact Leads.execBrBNeShRel hp _ _
  | brFNeShRel x b => exact Leads.execBrFNeShRel hp _ _
  | brLeAbs x u d => exact Leads.execBrLeAbs hp _ _ _
  | brLeRel x u d => exact Leads.execBrLeRel hp _ _ _
  | brBLeShRel x b => exact Leads.execBrBLeShRel hp _ _
  | brFLeShRel x b => exact Leads.execBrFLeShRel hp _ _
  | brReg x => exact Leads.execBrReg hp _
  | call u d => exact Leads.execCall hp _ _
  | callReg x u d => exact Leads.execCallReg hp x u d
  | exit u b => exact Leads.execExit hp _ _
  | ixit u b => exact Leads.execIxit hp (.inr (.inr (.inl ⟨rfl, by simp [lowersPriority]⟩))) _ _
  | bxit u b => exact Leads.execBxit hp _ _
  | breakpoint => exact Leads.execBreakpoint hp
  | exception x y z => exact Leads.execException hp _ _ _
  | exchLinkForward x y z => exact Leads.execExchLinkForward hp _ _ _
  | forwardMsg x y z => exact Leads.execForwardMsg hp _ _ _
  | sendSmallMsg x y z => exact Leads.execSendSmallMsg hp _ _ _
  | delLink x y z t v => exact Leads.execDelLink hp _ _ _ _ _
  | attFunToChan x y z => exact Leads.execAttFunToChan hp _ _ _
  | createFun x y z => exact Leads.execCreateFun hp _ _ _
  | createLink x y z => exact Leads.execCreateLink hp _ _ _
  | delFun x y z => exact Leads.execDelFun hp _ _ _
  | delMsg x y z => exact Leads.execDelMsg hp _ _ _
  | disableChanInt x y z => exact Leads.execDisableChanInt hp (.inr (.inr (.inr ⟨rfl, by simp [writesMask]⟩))) _ _ _
  | disableFun x y z => exact Leads.execDisableFun hp _ _ _
  | enableChanInt x y z => exact Leads.execEnableChanInt hp (.inr (.inr (.inr ⟨rfl, by simp [writesMask]⟩))) _ _ _
  | enableFun x y z => exact Leads.execEnableFun hp _ _ _
  | sendToHardware x y z => exact Leads.execSendToHardware hp _ _ _
  | setFunIntVector x y z => exact Leads.execSetFunIntVector hp _ _ _
  | copyLink x y z t v => exact Leads.execCopyLink hp _ _ _ _ _
  | passLink x y z t v => exact Leads.execPassLink hp _ _ _ _ _
  | rcv x y z t v => exact Leads.receiveFunnel hp (.inr (.inr (.inl ⟨rfl, by simp [lowersPriority]⟩)))
  | rcvChan x y z t v => exact Leads.receiveChannel hp (.inr (.inr (.inl ⟨rfl, by simp [lowersPriority]⟩)))
  | rcvLink x y z t v => exact Leads.receiveFunnel hp (.inr (.inr (.inl ⟨rfl, by simp [lowersPriority]⟩)))
  | rcvLinkOnChan x y z t v => exact Leads.receiveChannel hp (.inr (.inr (.inl ⟨rfl, by simp [lowersPriority]⟩)))
  | readFte x y z t v => exact Leads.execReadFte hp _ _ _ _ _
  | readLte x y z t v => exact Leads.execReadLte hp _ _ _ _ _
  | send x y z t v => exact Leads.execSend hp _ _ _ _ _
  | setLocalPri x y z t v => exact Leads.finishReg hp _ _ (Reach.refl.step (.inr (.inr (.inl ⟨rfl, by simp [lowersPriority]⟩))) (.lp _ _))
  | nop => exact Leads.execNop hp
  | readMachId x => exact Leads.execReadMachId hp _
  | memoryMan x y z => exact Leads.execMemoryMan hp _ _ _
  | modifyPme x y z => exact Leads.execModifyPme hp _ _ _
  | readCpuTimer x => exact Leads.execReadCpuTimer hp _
  | readPme x => exact Leads.execReadPme hp _
  | readRealTimer x => exact Leads.execReadRealTimer hp _
  | readStat x => exact Leads.execReadStat hp _
  | writeStat x => exact Leads.advance hp (Reach.refl.step (.inr (.inl ⟨rfl, x, rfl⟩)) (.psw _ _))

end Sys2Proof.Machine
end

