-- ==== Sys2Proof/Laws/Messages.lean ====
section
/-! SUPPORT. What the shared operations of the message system answer: the free lists, the ID of a new link, the way back of a
deleted ID, and a send turned away or carried out. -/

namespace Sys2Proof.Machine

open Sys2Proof

variable {s t : State} {i : Instr}

/-! ### Free lists (R44, R47, R49) -/

/-- The first number that is not taken: every one before it is. -/
theorem firstFree_eq_some {taken : Nat → Bool} {n k m : Nat} :
    firstFree taken n k = some m ↔ n ≤ m ∧ m < n + k ∧ taken m = false ∧ ∀ j, n ≤ j → j < m → taken j = true := by
  induction k generalizing n with
  | zero => simp [firstFree]; omega
  | succ k ih =>
    cases ht : taken n with
    | true =>
      simp only [firstFree, ht, if_true, ih]
      constructor
      · rintro ⟨h1, h2, h3, h4⟩
        refine ⟨by omega, by omega, h3, fun j hj hm => ?_⟩
        by_cases he : j = n
        · exact he ▸ ht
        · exact h4 j (by omega) hm
      · rintro ⟨h1, h2, h3, h4⟩
        have : m ≠ n := fun he => by simp [he, ht] at h3
        exact ⟨by omega, by omega, h3, fun j hj hm => h4 j (by omega) hm⟩
    | false =>
      simp only [firstFree, ht, Bool.false_eq_true, if_false, Option.some.injEq]
      constructor
      · rintro rfl
        exact ⟨by omega, by omega, ht, fun j _ _ => by omega⟩
      · rintro ⟨h1, -, -, h4⟩
        by_contra hne
        simpa [ht] using h4 n (by omega) (by omega)

/-- No number that is not taken: all are. -/
theorem firstFree_eq_none {taken : Nat → Bool} {n k : Nat} :
    firstFree taken n k = none ↔ ∀ j, n ≤ j → j < n + k → taken j = true := by
  induction k generalizing n with
  | zero => simp [firstFree]; omega
  | succ k ih =>
    cases ht : taken n with
    | true =>
      simp only [firstFree, ht, if_true, ih]
      refine ⟨fun h j hj hk => ?_, fun h j hj hk => h j (by omega) (by omega)⟩
      by_cases he : j = n
      · exact he ▸ ht
      · exact h j (by omega) (by omega)
    | false =>
      simp only [firstFree, ht, Bool.false_eq_true, if_false, reduceCtorEq, false_iff]
      exact fun h => by simpa [ht] using h n (by omega) (by omega)

/-- Without a head, neither listed part of the links' free list has an entry. -/
theorem LinkTable.lists_of_nextFree_none {l : LinkTable} (h : l.nextFree = none) : l.free = [] ∧ l.freeTail = [] := by
  unfold LinkTable.nextFree at h
  simp only [Option.or_eq_none_iff] at h
  exact ⟨List.head?_eq_none_iff.mp h.1.1, List.head?_eq_none_iff.mp h.2⟩

/-- A page is allocated if it is the first or listed (R44). -/
theorem LinkTable.pageAllocated_iff {l : LinkTable} {q : Nat} : l.pageAllocated q = true ↔ q = 0 ∨ q ∈ l.pages := by
  simp [LinkTable.pageAllocated]

/-- An ID without an entry is on an allocated page if its page is allocated (R44). -/
theorem State.allocated_iff {id : Nat} (h : s.link id = none) :
    s.links.allocated id = true ↔ id / 128 = 0 ∨ id / 128 ∈ s.links.pages := by
  rw [← LinkTable.pageAllocated_iff]
  unfold State.link at h
  simp [LinkTable.allocated, h, linksPerPage]

/-- The first ID of a page without entries or listed free IDs, if the limit allows one (R44). -/
theorem LinkTable.firstOn_empty {l : LinkTable} {q : Nat} (hq : 0 < q) (h : ∀ n, n / 128 = q → l.taken n = false) :
    l.firstOn q = if 128 * q ≤ l.limit then some (128 * q) else none := by
  have hlo : max 21 (q * linksPerPage) = 128 * q := by unfold linksPerPage; omega
  unfold LinkTable.firstOn
  simp only [hlo]
  split
  · rw [firstFree_eq_some]
    unfold linksPerPage
    exact ⟨le_refl _, by omega, h _ (by omega), fun j h1 h2 => by omega⟩
  · rw [firstFree_eq_none]
    unfold linksPerPage
    exact fun j h1 h2 => by omega

/-! ### The ID of a new link (R600, R623; notes/assumptions/28.md) -/

/-- With an ID on the free list, its head is the next ID. -/
theorem LinkTable.nextId_of_nextFree {l : LinkTable} {n : Nat} (h : l.nextFree = some n) : l.nextId = some n := by
  simp [LinkTable.nextId, h]

/-- With an empty free list the next ID is the first of the lowest page that can be allocated. -/
theorem State.nextId_of_page {q : Nat} (hf : s.links.nextFree = none) (hc : s.links.canAllocate = true)
    (hp : ∀ n e, s.link n = some e → s.links.pageAllocated (n / linksPerPage) = true) (hq0 : 0 < q) (hq : q < 512)
    (hn : q ∉ s.links.pages) (hl : ∀ k, 0 < k → k < q → k ∈ s.links.pages) (hi : 128 * q ≤ s.links.limit) :
    s.links.nextId = some (128 * q) := by
  obtain ⟨h1, h2⟩ := LinkTable.lists_of_nextFree_none hf
  have hfirst : firstFree s.links.pageAllocated 1 511 = some q := firstFree_eq_some.mpr
    ⟨by omega, by omega, by simp [LinkTable.pageAllocated, hn]; omega,
      fun j hj hm => LinkTable.pageAllocated_iff.mpr (.inr (hl j (by omega) hm))⟩
  have hempty : ∀ n, n / 128 = q → s.links.taken n = false := by
    intro n hnq
    cases he : Assoc.get s.links.entries n with
    | none => simp [LinkTable.taken, he, h1, h2]
    | some e =>
      have := LinkTable.pageAllocated_iff.mp (hp n e he)
      simp only [linksPerPage, hnq] at this
      rcases this with h | h
      · omega
      · exact absurd h hn
  simp [LinkTable.nextId, hf, hc, hfirst, LinkTable.firstOn_empty hq0 hempty, hi]

/-- With an empty free list, and no page to allocate below the limit, there is no next ID. -/
theorem LinkTable.nextId_eq_none {l : LinkTable} (hf : l.nextFree = none)
    (h : l.canAllocate = true → ∀ q, 0 < q → q < 512 → q ∉ l.pages → l.limit < 128 * q) : l.nextId = none := by
  unfold LinkTable.nextId
  rw [hf, Option.none_or]
  split
  · rename_i hc
    cases hp : firstFree l.pageAllocated 1 511 with
    | none => rfl
    | some q =>
      obtain ⟨h1, h2, h3, -⟩ := firstFree_eq_some.mp hp
      have hq : q ∉ l.pages := fun hm => by
        rw [LinkTable.pageAllocated_iff.mpr (.inr hm)] at h3
        cases h3
      have := h hc q (by omega) (by omega) hq
      unfold LinkTable.firstOn
      rw [Option.bind_some]
      refine firstFree_eq_none.mpr fun j hj hk => ?_
      simp only [linksPerPage] at hj hk
      omega
  · rfl

/-- The slot without a preference is the next ID, or the table is full. -/
theorem State.linkSlot_zero : s.linkSlot 0 = match s.links.nextId with
    | none => .error 11
    | some q => .ok q := by
  unfold State.linkSlot
  exact (if_pos rfl).trans (by cases s.links.nextId <;> rfl)

/-- An unused preferred ID within the limit, on a page that is or can be allocated, is the slot. -/
theorem State.linkSlot_preferred {p : Nat} (h0 : 0 < p) (hl : p ≤ s.links.limit) (hn : s.link p = none)
    (hp : p / 128 = 0 ∨ p / 128 ∈ s.links.pages ∨ s.links.canAllocate = true) : s.linkSlot p = .ok p := by
  have ha : (s.links.allocated p || s.links.canAllocate) = true := by
    rw [Bool.or_eq_true, State.allocated_iff hn]
    tauto
  unfold State.linkSlot
  rw [if_neg (by omega), if_neg (by omega), hn, if_neg (by simp), if_pos ha]

/-- The refusals of a preferred ID: 32, 12, 42. -/
theorem State.linkSlot_refused {p : Nat} (h0 : 0 < p) :
    (s.links.limit < p → s.linkSlot p = .error 32) ∧
    (p ≤ s.links.limit → s.link p ≠ none → s.linkSlot p = .error 12) ∧
    (p ≤ s.links.limit → s.link p = none → p / 128 ≠ 0 → p / 128 ∉ s.links.pages → s.links.canAllocate = false →
      s.linkSlot p = .error 42) := by
  unfold State.linkSlot
  rw [if_neg (by omega)]
  refine ⟨fun h => by rw [if_pos h], fun h hn => ?_, fun h hn h1 h2 hc => ?_⟩
  · rw [if_neg (by omega), if_pos (Option.isSome_iff_ne_none.mpr hn)]
  · have ha : (s.links.allocated p || s.links.canAllocate) = false := by
      rw [hc, Bool.or_false, ← Bool.not_eq_true, State.allocated_iff hn]
      tauto
    rw [if_neg (by omega), hn, if_neg (by simp), if_neg (by simp [ha])]

/-- A link after one is defined (R600, R623). -/
@[simp] theorem State.putLink_link (id : Nat) (e : Lte) (n : Nat) :
    (s.putLink id e).link n = if n = id then some e else s.link n := by
  simp [State.putLink, State.link, Assoc.get_set]

/-! ### A deleted ID (R605, R606, R615) -/

/-- A deleted link's ID is the head or the tail of the free list. -/
theorem State.dropLink_free (id : Nat) :
    ((s.dropLink id).links.nextFree = some id ∧ (s.dropLink id).links.free = id :: s.links.free ∧
      (s.dropLink id).links.freeTail = s.links.freeTail) ∨
    ((s.dropLink id).links.prevFree = some id ∧ (s.dropLink id).links.free = s.links.free ∧
      (s.dropLink id).links.freeTail = s.links.freeTail ++ [id]) := by
  cases h : s.anyBool .freePos
  · exact .inr (by simp [State.dropLink, h, LinkTable.prevFree])
  · exact .inl (by simp [State.dropLink, h, LinkTable.nextFree])

/-- A deleted funnel's ID is the head or the tail of the free list. -/
theorem State.dropFunnel_free (f : Nat) :
    ((s.dropFunnel f).funnels.nextFree = some f ∧ (s.dropFunnel f).funnels.free = f :: s.funnels.free ∧
      (s.dropFunnel f).funnels.freeTail = s.funnels.freeTail) ∨
    ((s.dropFunnel f).funnels.prevFree = some f ∧ (s.dropFunnel f).funnels.free = s.funnels.free ∧
      (s.dropFunnel f).funnels.freeTail = s.funnels.freeTail ++ [f]) := by
  cases h : s.anyBool .freePos
  · exact .inr (by simp [State.dropFunnel, h, FunnelTable.prevFree])
  · exact .inl (by simp [State.dropFunnel, h, FunnelTable.nextFree])

/-! ### Control information (R575, R576) -/

/-- The link code of the control information (R576). -/
@[simp] theorem mkRci_code (c : BitVec 16) (f t : BitVec 8) (p : BitVec 16) (n : Nat) :
    (mkRci c f t p n).extractLsb' 48 16 = c := by
  unfold mkRci; ext i hi
  simp only [BitVec.getElem_extractLsb', BitVec.getLsbD_append]
  rw [if_neg (by omega), if_neg (by omega), if_neg (by omega), if_neg (by omega), ← BitVec.getLsbD_eq_getElem]
  congr 1; omega

/-- Its funnel ID. -/
@[simp] theorem mkRci_funnel (c : BitVec 16) (f t : BitVec 8) (p : BitVec 16) (n : Nat) :
    (mkRci c f t p n).extractLsb' 40 8 = f := by
  unfold mkRci; ext i hi
  simp only [BitVec.getElem_extractLsb', BitVec.getLsbD_append]
  rw [if_neg (by omega), if_neg (by omega), if_neg (by omega), if_pos (by omega), ← BitVec.getLsbD_eq_getElem]
  congr 1; omega

/-- Its message type. -/
@[simp] theorem mkRci_type (c : BitVec 16) (f t : BitVec 8) (p : BitVec 16) (n : Nat) :
    (mkRci c f t p n).extractLsb' 32 8 = t := by
  unfold mkRci; ext i hi
  simp only [BitVec.getElem_extractLsb', BitVec.getLsbD_append]
  rw [if_neg (by omega), if_neg (by omega), if_pos (by omega), ← BitVec.getLsbD_eq_getElem]
  congr 1; omega

/-- Its sender. -/
@[simp] theorem mkRci_sender (c : BitVec 16) (f t : BitVec 8) (p : BitVec 16) (n : Nat) :
    (mkRci c f t p n).extractLsb' 16 16 = p := by
  unfold mkRci; ext i hi
  simp only [BitVec.getElem_extractLsb', BitVec.getLsbD_append]
  rw [if_neg (by omega), if_pos (by omega), ← BitVec.getLsbD_eq_getElem]
  congr 1; omega

/-- Its number of bytes. -/
@[simp] theorem mkRci_length (c : BitVec 16) (f t : BitVec 8) (p : BitVec 16) (n : Nat) :
    (mkRci c f t p n).extractLsb' 0 16 = BitVec.ofNat 16 n := by
  unfold mkRci; ext i hi
  simp only [BitVec.getElem_extractLsb', BitVec.getLsbD_append]
  rw [if_pos (by omega), ← BitVec.getLsbD_eq_getElem]
  congr 1; omega

/-- The Includes Link bit of a forwarded message is as the message holds one (R575). -/
theorem State.forwardType_link (m : Message) (link : Bool) :
    (s.forwardType m link).getLsbD 0 = link := by
  unfold State.forwardType
  cases link <;> split <;> simp

/-- The same, in its control information. -/
theorem State.forwarded_link (e : Lte) (m : Message) (l : Option Lte) :
    (s.forwarded e m l).rci.getLsbD 32 = l.isSome := by
  have h := congrArg (·.getLsbD 0)
    (mkRci_type e.linkCode e.toFunnel (s.forwardType m l.isSome) (s.forwardSender m) m.data.length)
  simp only [BitVec.getLsbD_extractLsb', State.forwardType_link] at h
  exact h

/-! ### Sending (R592, D57) -/

variable {x : Reg} {l : List Nat} {e : Lte} {m : Message} {ok : State → State} {n : Nat}

/-- An arbitrary member of a list that is not empty is one of its members. -/
theorem State.anyOf_mem {α : Type} (k : Slot) {l : List α} (d : α) (h : l ≠ []) : s.anyOf k l d ∈ l := by
  have hlt : Config.freePick s.draws k.num % l.length < l.length := Nat.mod_lt _ (List.length_pos_iff.mpr h)
  unfold State.anyOf
  rw [List.getD_eq_getElem _ _ hlt]
  exact List.getElem_mem hlt

/-- A send to this process whose status is not 0 leaves the status alone. -/
theorem sendMessage_refused (he : e.toProcess = s.processId) (h : s.sendStatus l e ≠ 0) :
    sendMessage i x l e m ok n s = finishStatus i x (s.sendStatus l e) s := by
  unfold sendMessage
  rw [if_pos (by simpa [State.owns] using he), if_neg h]

/-- A send to this process whose status is 0: the changes, the status, then the delivery. -/
theorem sendMessage_delivered (he : e.toProcess = s.processId) (h : s.sendStatus l e = 0) :
    sendMessage i x l e m ok n s = (finishStatus i x n (ok s)).bind (deliver e.toFunnel.toNat m) := by
  unfold sendMessage
  rw [if_pos (by simpa [State.owns] using he), if_pos h]

/-- A send to another process: the message leaves, and the changes are made where its status is 0. -/
theorem sendMessage_away (he : e.toProcess ≠ s.processId) :
    sendMessage i x l e m ok n s =
      if s.sendStatus l e = 0 then finishStatus i x n (ok (s.emit (.send e m)))
      else finishStatus i x (s.sendStatus l e) (s.emit (.send e m)) := by
  unfold sendMessage
  rw [if_neg (by simpa [State.owns] using he)]

/-- The statuses of a send to this process (R55, R592). -/
theorem State.sendStatus_own (he : e.toProcess = s.processId) :
    (e.versionId ≠ s.versionId → s.sendStatus l e = 36) ∧
    (e.versionId = s.versionId →
      (s.openFunnel e.toFunnel.toNat = none → s.sendStatus l e = 47) ∧
      (s.openFunnel e.toFunnel.toNat ≠ none →
        (s.poolFull = true → s.sendStatus l e = s.anyOf .sendStatus (shortages l) 39) ∧
        (s.poolFull = false → s.sendStatus l e = 0))) := by
  unfold State.sendStatus
  rw [if_pos (by simpa [State.owns] using he)]
  refine ⟨fun h => by rw [if_pos h], fun h => ⟨fun h1 => ?_, fun h1 => ?_⟩⟩
  · rw [if_neg (by simp [h]), h1]; rfl
  · have hn : (s.openFunnel e.toFunnel.toNat).isNone = false := by
      rw [Option.isNone_eq_false_iff]
      exact Option.isSome_iff_ne_none.mpr h1
    rw [if_neg (by simp [h]), hn]
    exact ⟨fun hp => by simp [hp], fun hp => by simp [hp]⟩

end Sys2Proof.Machine
end

