-- ==== Sys2Proof/Laws/PerInstr.lean ====
section
/-! SUPPORT. Laws made per instruction. LengthOk: the encoding has the length the first byte fixes (R147). -/

namespace Sys2Proof

open Config

/-! ### Nibbles and fields -/

@[simp] theorem hiNib_nibs (h l : Nib) : hiNib (nibs h l) = h := by
  apply BitVec.eq_of_toNat_eq
  have h1 := h.isLt
  have h2 := l.isLt
  simp only [hiNib, nibs, BitVec.extractLsb'_toNat, BitVec.toNat_append, Nat.shiftRight_eq_div_pow, Nat.shiftLeft_eq]
  rw [← Nat.mul_comm (2 ^ 4), ← Nat.two_pow_add_eq_or_of_lt h2]
  omega

@[simp] theorem loNib_nibs (h l : Nib) : loNib (nibs h l) = l := by
  apply BitVec.eq_of_toNat_eq
  have h1 := h.isLt
  have h2 := l.isLt
  simp only [loNib, nibs, BitVec.extractLsb'_toNat, BitVec.toNat_append, Nat.shiftRight_eq_div_pow, Nat.shiftLeft_eq]
  rw [← Nat.mul_comm (2 ^ 4), ← Nat.two_pow_add_eq_or_of_lt h2]
  omega

@[simp] theorem bytes12_length (h : Nib) (v : BitVec 12) : (bytes12 h v).length = 2 := rfl
@[simp] theorem bytes16_length (v : BitVec 16) : (bytes16 v).length = 2 := rfl
@[simp] theorem bytes32_length (v : BitVec 32) : (bytes32 v).length = 4 := rfl

theorem encodeOp_length (op : Byte) (sh : List (Nat × Nib)) (o : GOp) : (encodeOp op sh o).length = o.len := by
  cases o <;> rfl

theorem gen_length (op : Byte) (sh : List (Nat × Nib)) (o : GOp) : (Enc.gen op sh o none).toBytes.length = o.len :=
  encodeOp_length op sh o

theorem gen_app_length (op : Byte) (sh : List (Nat × Nib)) (o : GOp) (a : App) :
    (Enc.gen op sh o (some a)).toBytes.length = o.len + 2 := by
  simp [Enc.toBytes, encodeOp_length, App.bytes]

/-- The encoding of an instruction has the instruction's length, under any parameters. -/
def Laws.LengthOk.Statement (i : Instr) : Prop := ∀ p : Params, (encode p i).length = i.ilen

theorem Laws.LengthOk.ld8 (o : GOp) : Laws.LengthOk.Statement (.ld8 o) := fun _ => gen_length _ _ _
theorem Laws.LengthOk.ld16 (o : GOp) : Laws.LengthOk.Statement (.ld16 o) := fun _ => gen_length _ _ _
theorem Laws.LengthOk.ld32 (o : GOp) : Laws.LengthOk.Statement (.ld32 o) := fun _ => gen_length _ _ _
theorem Laws.LengthOk.ld64 (o : GOp) : Laws.LengthOk.Statement (.ld64 o) := fun _ => gen_length _ _ _
theorem Laws.LengthOk.ldz8 (o : GOp) : Laws.LengthOk.Statement (.ldz8 o) := fun _ => gen_length _ _ _
theorem Laws.LengthOk.ldz16 (o : GOp) : Laws.LengthOk.Statement (.ldz16 o) := fun _ => gen_length _ _ _
theorem Laws.LengthOk.ldz24 (o : GOp) : Laws.LengthOk.Statement (.ldz24 o) := fun _ => gen_length _ _ _
theorem Laws.LengthOk.ldz32 (o : GOp) : Laws.LengthOk.Statement (.ldz32 o) := fun _ => gen_length _ _ _
theorem Laws.LengthOk.ldz40 (o : GOp) : Laws.LengthOk.Statement (.ldz40 o) := fun _ => gen_length _ _ _
theorem Laws.LengthOk.ldz48 (o : GOp) : Laws.LengthOk.Statement (.ldz48 o) := fun _ => gen_length _ _ _
theorem Laws.LengthOk.ldz56 (o : GOp) : Laws.LengthOk.Statement (.ldz56 o) := fun _ => gen_length _ _ _
theorem Laws.LengthOk.st8 (o : GOp) : Laws.LengthOk.Statement (.st8 o) := fun _ => gen_length _ _ _
theorem Laws.LengthOk.st16 (o : GOp) : Laws.LengthOk.Statement (.st16 o) := fun _ => gen_length _ _ _
theorem Laws.LengthOk.st24 (o : GOp) : Laws.LengthOk.Statement (.st24 o) := fun _ => gen_length _ _ _
theorem Laws.LengthOk.st32 (o : GOp) : Laws.LengthOk.Statement (.st32 o) := fun _ => gen_length _ _ _
theorem Laws.LengthOk.st40 (o : GOp) : Laws.LengthOk.Statement (.st40 o) := fun _ => gen_length _ _ _
theorem Laws.LengthOk.st48 (o : GOp) : Laws.LengthOk.Statement (.st48 o) := fun _ => gen_length _ _ _
theorem Laws.LengthOk.st56 (o : GOp) : Laws.LengthOk.Statement (.st56 o) := fun _ => gen_length _ _ _
theorem Laws.LengthOk.st64 (o : GOp) : Laws.LengthOk.Statement (.st64 o) := fun _ => gen_length _ _ _
theorem Laws.LengthOk.stv8 (o : GOp) : Laws.LengthOk.Statement (.stv8 o) := fun _ => gen_length _ _ _
theorem Laws.LengthOk.stv16 (o : GOp) : Laws.LengthOk.Statement (.stv16 o) := fun _ => gen_length _ _ _
theorem Laws.LengthOk.stv32 (o : GOp) : Laws.LengthOk.Statement (.stv32 o) := fun _ => gen_length _ _ _
theorem Laws.LengthOk.sti8 (o : GOp) : Laws.LengthOk.Statement (.sti8 o) := fun _ => gen_length _ _ _
theorem Laws.LengthOk.sti16 (o : GOp) : Laws.LengthOk.Statement (.sti16 o) := fun _ => gen_length _ _ _
theorem Laws.LengthOk.sti32 (o : GOp) : Laws.LengthOk.Statement (.sti32 o) := fun _ => gen_length _ _ _
theorem Laws.LengthOk.sti64 (o : GOp) : Laws.LengthOk.Statement (.sti64 o) := fun _ => gen_length _ _ _
theorem Laws.LengthOk.stin8 (o : GOp) : Laws.LengthOk.Statement (.stin8 o) := fun _ => gen_length _ _ _
theorem Laws.LengthOk.stin16 (o : GOp) : Laws.LengthOk.Statement (.stin16 o) := fun _ => gen_length _ _ _
theorem Laws.LengthOk.stin32 (o : GOp) : Laws.LengthOk.Statement (.stin32 o) := fun _ => gen_length _ _ _
theorem Laws.LengthOk.stin64 (o : GOp) : Laws.LengthOk.Statement (.stin64 o) := fun _ => gen_length _ _ _
theorem Laws.LengthOk.extract (x : Reg) (y : Reg) (z : Reg) (f : FieldApp) : Laws.LengthOk.Statement (.extract x y z f) :=
  fun _ => rfl
theorem Laws.LengthOk.extractz (x : Reg) (y : Reg) (z : Reg) (f : FieldApp) : Laws.LengthOk.Statement (.extractz x y z f) :=
  fun _ => rfl
theorem Laws.LengthOk.insert (x : Reg) (y : Reg) (z : Reg) (f : FieldApp) : Laws.LengthOk.Statement (.insert x y z f) :=
  fun _ => rfl
theorem Laws.LengthOk.exch (x : Reg) (y : Reg) (z : Reg) : Laws.LengthOk.Statement (.exch x y z) := fun _ => rfl
theorem Laws.LengthOk.exchAnd (x : Reg) (y : Reg) (z : Reg) : Laws.LengthOk.Statement (.exchAnd x y z) :=
  fun _ => rfl
theorem Laws.LengthOk.exchOr (x : Reg) (y : Reg) (z : Reg) : Laws.LengthOk.Statement (.exchOr x y z) := fun _ => rfl
theorem Laws.LengthOk.copyb (x : Reg) (y : Reg) (z : Reg) : Laws.LengthOk.Statement (.copyb x y z) := fun _ => rfl
theorem Laws.LengthOk.copybConst (x : Reg) (y : Reg) (z : Reg) : Laws.LengthOk.Statement (.copybConst x y z) :=
  fun _ => rfl
theorem Laws.LengthOk.add16 (o : GOp) : Laws.LengthOk.Statement (.add16 o) := fun _ => gen_length _ _ _
theorem Laws.LengthOk.add32 (o : GOp) : Laws.LengthOk.Statement (.add32 o) := fun _ => gen_length _ _ _
theorem Laws.LengthOk.add64 (o : GOp) : Laws.LengthOk.Statement (.add64 o) := fun _ => gen_length _ _ _
theorem Laws.LengthOk.adduc64 (o : GOp) : Laws.LengthOk.Statement (.adduc64 o) := fun _ => gen_length _ _ _
theorem Laws.LengthOk.addi64 (o : GOp) : Laws.LengthOk.Statement (.addi64 o) := fun _ => gen_length _ _ _
theorem Laws.LengthOk.div16 (o : GOp) : Laws.LengthOk.Statement (.div16 o) := fun _ => gen_length _ _ _
theorem Laws.LengthOk.div32 (o : GOp) : Laws.LengthOk.Statement (.div32 o) := fun _ => gen_length _ _ _
theorem Laws.LengthOk.div64 (o : GOp) : Laws.LengthOk.Statement (.div64 o) := fun _ => gen_length _ _ _
theorem Laws.LengthOk.divr16 (o : GOp) : Laws.LengthOk.Statement (.divr16 o) := fun _ => gen_length _ _ _
theorem Laws.LengthOk.divr32 (o : GOp) : Laws.LengthOk.Statement (.divr32 o) := fun _ => gen_length _ _ _
theorem Laws.LengthOk.divr64 (o : GOp) : Laws.LengthOk.Statement (.divr64 o) := fun _ => gen_length _ _ _
theorem Laws.LengthOk.rem16 (o : GOp) : Laws.LengthOk.Statement (.rem16 o) := fun _ => gen_length _ _ _
theorem Laws.LengthOk.rem32 (o : GOp) : Laws.LengthOk.Statement (.rem32 o) := fun _ => gen_length _ _ _
theorem Laws.LengthOk.rem64 (o : GOp) : Laws.LengthOk.Statement (.rem64 o) := fun _ => gen_length _ _ _
theorem Laws.LengthOk.remr16 (o : GOp) : Laws.LengthOk.Statement (.remr16 o) := fun _ => gen_length _ _ _
theorem Laws.LengthOk.remr32 (o : GOp) : Laws.LengthOk.Statement (.remr32 o) := fun _ => gen_length _ _ _
theorem Laws.LengthOk.remr64 (o : GOp) : Laws.LengthOk.Statement (.remr64 o) := fun _ => gen_length _ _ _
theorem Laws.LengthOk.mul16 (o : GOp) : Laws.LengthOk.Statement (.mul16 o) := fun _ => gen_length _ _ _
theorem Laws.LengthOk.mul32 (o : GOp) : Laws.LengthOk.Statement (.mul32 o) := fun _ => gen_length _ _ _
theorem Laws.LengthOk.mul64 (o : GOp) : Laws.LengthOk.Statement (.mul64 o) := fun _ => gen_length _ _ _
theorem Laws.LengthOk.mul128 (x : Reg) (y : Reg) (z : Reg) : Laws.LengthOk.Statement (.mul128 x y z) := fun _ => rfl
theorem Laws.LengthOk.mulu128 (x : Reg) (y : Reg) (z : Reg) : Laws.LengthOk.Statement (.mulu128 x y z) :=
  fun _ => rfl
theorem Laws.LengthOk.neg16 (o : GOp) : Laws.LengthOk.Statement (.neg16 o) := fun _ => gen_length _ _ _
theorem Laws.LengthOk.neg32 (o : GOp) : Laws.LengthOk.Statement (.neg32 o) := fun _ => gen_length _ _ _
theorem Laws.LengthOk.neg64 (o : GOp) : Laws.LengthOk.Statement (.neg64 o) := fun _ => gen_length _ _ _
theorem Laws.LengthOk.sub16 (o : GOp) : Laws.LengthOk.Statement (.sub16 o) := fun _ => gen_length _ _ _
theorem Laws.LengthOk.sub32 (o : GOp) : Laws.LengthOk.Statement (.sub32 o) := fun _ => gen_length _ _ _
theorem Laws.LengthOk.sub64 (o : GOp) : Laws.LengthOk.Statement (.sub64 o) := fun _ => gen_length _ _ _
theorem Laws.LengthOk.subr16 (o : GOp) : Laws.LengthOk.Statement (.subr16 o) := fun _ => gen_length _ _ _
theorem Laws.LengthOk.subr32 (o : GOp) : Laws.LengthOk.Statement (.subr32 o) := fun _ => gen_length _ _ _
theorem Laws.LengthOk.subr64 (o : GOp) : Laws.LengthOk.Statement (.subr64 o) := fun _ => gen_length _ _ _
theorem Laws.LengthOk.subuc64 (o : GOp) : Laws.LengthOk.Statement (.subuc64 o) := fun _ => gen_length _ _ _
theorem Laws.LengthOk.subucr64 (o : GOp) : Laws.LengthOk.Statement (.subucr64 o) := fun _ => gen_length _ _ _
theorem Laws.LengthOk.subi64 (o : GOp) : Laws.LengthOk.Statement (.subi64 o) := fun _ => gen_length _ _ _
theorem Laws.LengthOk.sla (o : GOp) : Laws.LengthOk.Statement (.sla o) := fun _ => gen_length _ _ _
theorem Laws.LengthOk.sra (o : GOp) : Laws.LengthOk.Statement (.sra o) := fun _ => gen_length _ _ _
theorem Laws.LengthOk.fadd32 (o : GOp) : Laws.LengthOk.Statement (.fadd32 o) := fun _ => gen_length _ _ _
theorem Laws.LengthOk.fadd64 (o : GOp) : Laws.LengthOk.Statement (.fadd64 o) := fun _ => gen_length _ _ _
theorem Laws.LengthOk.fadd80 (x : Reg) (y : Reg) (z : Reg) : Laws.LengthOk.Statement (.fadd80 x y z) := fun _ => rfl
theorem Laws.LengthOk.fsub32 (o : GOp) : Laws.LengthOk.Statement (.fsub32 o) := fun _ => gen_length _ _ _
theorem Laws.LengthOk.fsub64 (o : GOp) : Laws.LengthOk.Statement (.fsub64 o) := fun _ => gen_length _ _ _
theorem Laws.LengthOk.fsubr32 (o : GOp) : Laws.LengthOk.Statement (.fsubr32 o) := fun _ => gen_length _ _ _
theorem Laws.LengthOk.fsubr64 (o : GOp) : Laws.LengthOk.Statement (.fsubr64 o) := fun _ => gen_length _ _ _
theorem Laws.LengthOk.fsub80 (x : Reg) (y : Reg) (z : Reg) : Laws.LengthOk.Statement (.fsub80 x y z) := fun _ => rfl
theorem Laws.LengthOk.fmul32 (o : GOp) : Laws.LengthOk.Statement (.fmul32 o) := fun _ => gen_length _ _ _
theorem Laws.LengthOk.fmul64 (o : GOp) : Laws.LengthOk.Statement (.fmul64 o) := fun _ => gen_length _ _ _
theorem Laws.LengthOk.fmul80 (x : Reg) (y : Reg) (z : Reg) : Laws.LengthOk.Statement (.fmul80 x y z) := fun _ => rfl
theorem Laws.LengthOk.fdiv32 (o : GOp) : Laws.LengthOk.Statement (.fdiv32 o) := fun _ => gen_length _ _ _
theorem Laws.LengthOk.fdiv64 (o : GOp) : Laws.LengthOk.Statement (.fdiv64 o) := fun _ => gen_length _ _ _
theorem Laws.LengthOk.fdivr32 (o : GOp) : Laws.LengthOk.Statement (.fdivr32 o) := fun _ => gen_length _ _ _
theorem Laws.LengthOk.fdivr64 (o : GOp) : Laws.LengthOk.Statement (.fdivr64 o) := fun _ => gen_length _ _ _
theorem Laws.LengthOk.fdiv80 (x : Reg) (y : Reg) (z : Reg) : Laws.LengthOk.Statement (.fdiv80 x y z) := fun _ => rfl
theorem Laws.LengthOk.frem32 (x : Reg) (y : Reg) (z : Reg) : Laws.LengthOk.Statement (.frem32 x y z) := fun _ => rfl
theorem Laws.LengthOk.frem64 (x : Reg) (y : Reg) (z : Reg) : Laws.LengthOk.Statement (.frem64 x y z) := fun _ => rfl
theorem Laws.LengthOk.frem80 (x : Reg) (y : Reg) (z : Reg) : Laws.LengthOk.Statement (.frem80 x y z) := fun _ => rfl
theorem Laws.LengthOk.asciiAdd (x : Reg) (y : Reg) (z : Reg) : Laws.LengthOk.Statement (.asciiAdd x y z) :=
  fun _ => rfl
theorem Laws.LengthOk.asciiAddc (x : Reg) (y : Reg) (z : Reg) : Laws.LengthOk.Statement (.asciiAddc x y z) :=
  fun _ => rfl
theorem Laws.LengthOk.asciiSub (x : Reg) (y : Reg) (z : Reg) (t : Reg) (u : Nib) : Laws.LengthOk.Statement (.asciiSub x y z t u) :=
  fun _ => rfl
theorem Laws.LengthOk.asciiSubc (x : Reg) (y : Reg) (z : Reg) : Laws.LengthOk.Statement (.asciiSubc x y z) :=
  fun _ => rfl
theorem Laws.LengthOk.logAnd (o : GOp) : Laws.LengthOk.Statement (.logAnd o) := fun _ => gen_length _ _ _
theorem Laws.LengthOk.logOr (o : GOp) : Laws.LengthOk.Statement (.logOr o) := fun _ => gen_length _ _ _
theorem Laws.LengthOk.logNot (o : GOp) : Laws.LengthOk.Statement (.logNot o) := fun _ => gen_length _ _ _
theorem Laws.LengthOk.logXor (o : GOp) : Laws.LengthOk.Statement (.logXor o) := fun _ => gen_length _ _ _
theorem Laws.LengthOk.setBit (x : Reg) (b : BitVec 8) : Laws.LengthOk.Statement (.setBit x b) := fun _ => rfl
theorem Laws.LengthOk.clearBit (x : Reg) (b : BitVec 8) : Laws.LengthOk.Statement (.clearBit x b) := fun _ => rfl
theorem Laws.LengthOk.toggleBit (x : Reg) (b : BitVec 8) : Laws.LengthOk.Statement (.toggleBit x b) := fun _ => rfl
theorem Laws.LengthOk.findFirst (o : GOp) : Laws.LengthOk.Statement (.findFirst o) := fun _ => gen_length _ _ _
theorem Laws.LengthOk.rol (o : GOp) : Laws.LengthOk.Statement (.rol o) := fun _ => gen_length _ _ _
theorem Laws.LengthOk.ror (o : GOp) : Laws.LengthOk.Statement (.ror o) := fun _ => gen_length _ _ _
theorem Laws.LengthOk.sll (o : GOp) : Laws.LengthOk.Statement (.sll o) := fun _ => gen_length _ _ _
theorem Laws.LengthOk.srl (o : GOp) : Laws.LengthOk.Statement (.srl o) := fun _ => gen_length _ _ _
theorem Laws.LengthOk.sll1w16 (o : GOp) : Laws.LengthOk.Statement (.sll1w16 o) := fun _ => gen_length _ _ _
theorem Laws.LengthOk.sll1w32 (o : GOp) : Laws.LengthOk.Statement (.sll1w32 o) := fun _ => gen_length _ _ _
theorem Laws.LengthOk.sll1w64 (o : GOp) : Laws.LengthOk.Statement (.sll1w64 o) := fun _ => gen_length _ _ _
theorem Laws.LengthOk.sll2w16 (o : GOp) : Laws.LengthOk.Statement (.sll2w16 o) := fun _ => gen_length _ _ _
theorem Laws.LengthOk.sll2w32 (o : GOp) : Laws.LengthOk.Statement (.sll2w32 o) := fun _ => gen_length _ _ _
theorem Laws.LengthOk.sll2w64 (o : GOp) : Laws.LengthOk.Statement (.sll2w64 o) := fun _ => gen_length _ _ _
theorem Laws.LengthOk.sll3w16 (o : GOp) : Laws.LengthOk.Statement (.sll3w16 o) := fun _ => gen_length _ _ _
theorem Laws.LengthOk.sll3w32 (o : GOp) : Laws.LengthOk.Statement (.sll3w32 o) := fun _ => gen_length _ _ _
theorem Laws.LengthOk.sll3w64 (o : GOp) : Laws.LengthOk.Statement (.sll3w64 o) := fun _ => gen_length _ _ _
theorem Laws.LengthOk.cmpBr8 (o : GOp) (a : App) : Laws.LengthOk.Statement (.cmpBr8 o a) :=
  fun _ => gen_app_length _ _ _ _
theorem Laws.LengthOk.cmpBr16 (o : GOp) (a : App) : Laws.LengthOk.Statement (.cmpBr16 o a) :=
  fun _ => gen_app_length _ _ _ _
theorem Laws.LengthOk.cmpBr32 (o : GOp) (a : App) : Laws.LengthOk.Statement (.cmpBr32 o a) :=
  fun _ => gen_app_length _ _ _ _
theorem Laws.LengthOk.cmpBr64 (o : GOp) (a : App) : Laws.LengthOk.Statement (.cmpBr64 o a) :=
  fun _ => gen_app_length _ _ _ _
theorem Laws.LengthOk.cmpuBr8 (o : GOp) (a : App) : Laws.LengthOk.Statement (.cmpuBr8 o a) :=
  fun _ => gen_app_length _ _ _ _
theorem Laws.LengthOk.cmpuBr16 (o : GOp) (a : App) : Laws.LengthOk.Statement (.cmpuBr16 o a) :=
  fun _ => gen_app_length _ _ _ _
theorem Laws.LengthOk.cmpuBr32 (o : GOp) (a : App) : Laws.LengthOk.Statement (.cmpuBr32 o a) :=
  fun _ => gen_app_length _ _ _ _
theorem Laws.LengthOk.cmpuBr64 (o : GOp) (a : App) : Laws.LengthOk.Statement (.cmpuBr64 o a) :=
  fun _ => gen_app_length _ _ _ _
theorem Laws.LengthOk.cmp8 (o : GOp) (a : App) : Laws.LengthOk.Statement (.cmp8 o a) :=
  fun _ => gen_app_length _ _ _ _
theorem Laws.LengthOk.cmp16 (o : GOp) (a : App) : Laws.LengthOk.Statement (.cmp16 o a) :=
  fun _ => gen_app_length _ _ _ _
theorem Laws.LengthOk.cmp32 (o : GOp) (a : App) : Laws.LengthOk.Statement (.cmp32 o a) :=
  fun _ => gen_app_length _ _ _ _
theorem Laws.LengthOk.cmp64 (o : GOp) (a : App) : Laws.LengthOk.Statement (.cmp64 o a) :=
  fun _ => gen_app_length _ _ _ _
theorem Laws.LengthOk.cmpu8 (o : GOp) (a : App) : Laws.LengthOk.Statement (.cmpu8 o a) :=
  fun _ => gen_app_length _ _ _ _
theorem Laws.LengthOk.cmpu16 (o : GOp) (a : App) : Laws.LengthOk.Statement (.cmpu16 o a) :=
  fun _ => gen_app_length _ _ _ _
theorem Laws.LengthOk.cmpu32 (o : GOp) (a : App) : Laws.LengthOk.Statement (.cmpu32 o a) :=
  fun _ => gen_app_length _ _ _ _
theorem Laws.LengthOk.cmpu64 (o : GOp) (a : App) : Laws.LengthOk.Statement (.cmpu64 o a) :=
  fun _ => gen_app_length _ _ _ _
theorem Laws.LengthOk.fcmpBr32 (o : GOp) (a : App) : Laws.LengthOk.Statement (.fcmpBr32 o a) :=
  fun _ => gen_app_length _ _ _ _
theorem Laws.LengthOk.fcmpBr64 (o : GOp) (a : App) : Laws.LengthOk.Statement (.fcmpBr64 o a) :=
  fun _ => gen_app_length _ _ _ _
theorem Laws.LengthOk.fcmpxBr32 (o : GOp) (a : App) : Laws.LengthOk.Statement (.fcmpxBr32 o a) :=
  fun _ => gen_app_length _ _ _ _
theorem Laws.LengthOk.fcmpxBr64 (o : GOp) (a : App) : Laws.LengthOk.Statement (.fcmpxBr64 o a) :=
  fun _ => gen_app_length _ _ _ _
theorem Laws.LengthOk.fcmp32 (o : GOp) (a : App) : Laws.LengthOk.Statement (.fcmp32 o a) :=
  fun _ => gen_app_length _ _ _ _
theorem Laws.LengthOk.fcmp64 (o : GOp) (a : App) : Laws.LengthOk.Statement (.fcmp64 o a) :=
  fun _ => gen_app_length _ _ _ _
theorem Laws.LengthOk.fcmpx32 (o : GOp) (a : App) : Laws.LengthOk.Statement (.fcmpx32 o a) :=
  fun _ => gen_app_length _ _ _ _
theorem Laws.LengthOk.fcmpx64 (o : GOp) (a : App) : Laws.LengthOk.Statement (.fcmpx64 o a) :=
  fun _ => gen_app_length _ _ _ _
theorem Laws.LengthOk.fcmp80 (x : Reg) (y : Reg) (z : Reg) (a : App) : Laws.LengthOk.Statement (.fcmp80 x y z a) :=
  fun _ => rfl
theorem Laws.LengthOk.fcmpBr80 (x : Reg) (y : Reg) (z : Reg) (a : App) : Laws.LengthOk.Statement (.fcmpBr80 x y z a) :=
  fun _ => rfl
theorem Laws.LengthOk.fcmpx80 (x : Reg) (y : Reg) (z : Reg) (a : App) : Laws.LengthOk.Statement (.fcmpx80 x y z a) :=
  fun _ => rfl
theorem Laws.LengthOk.fcmpxBr80 (x : Reg) (y : Reg) (z : Reg) (a : App) : Laws.LengthOk.Statement (.fcmpxBr80 x y z a) :=
  fun _ => rfl
theorem Laws.LengthOk.cmpbBr (x : Reg) (y : Reg) (z : Reg) (a : App) : Laws.LengthOk.Statement (.cmpbBr x y z a) :=
  fun _ => rfl
theorem Laws.LengthOk.cmpbBrConst (x : Reg) (y : Reg) (z : Reg) (a : App) : Laws.LengthOk.Statement (.cmpbBrConst x y z a) :=
  fun _ => rfl
theorem Laws.LengthOk.cmpbTest (x : Reg) (y : Reg) (z : Reg) : Laws.LengthOk.Statement (.cmpbTest x y z) :=
  fun _ => rfl
theorem Laws.LengthOk.cvtDe (o : GOp) : Laws.LengthOk.Statement (.cvtDe o) := fun _ => gen_length _ _ _
theorem Laws.LengthOk.cvtDi (o : GOp) : Laws.LengthOk.Statement (.cvtDi o) := fun _ => gen_length _ _ _
theorem Laws.LengthOk.cvtDs (o : GOp) : Laws.LengthOk.Statement (.cvtDs o) := fun _ => gen_length _ _ _
theorem Laws.LengthOk.cvtId (o : GOp) : Laws.LengthOk.Statement (.cvtId o) := fun _ => gen_length _ _ _
theorem Laws.LengthOk.cvtIs (o : GOp) : Laws.LengthOk.Statement (.cvtIs o) := fun _ => gen_length _ _ _
theorem Laws.LengthOk.cvtSd (o : GOp) : Laws.LengthOk.Statement (.cvtSd o) := fun _ => gen_length _ _ _
theorem Laws.LengthOk.cvtSi (o : GOp) : Laws.LengthOk.Statement (.cvtSi o) := fun _ => gen_length _ _ _
theorem Laws.LengthOk.cvtSe (o : GOp) : Laws.LengthOk.Statement (.cvtSe o) := fun _ => gen_length _ _ _
theorem Laws.LengthOk.finp32 (o : GOp) : Laws.LengthOk.Statement (.finp32 o) := fun _ => gen_length _ _ _
theorem Laws.LengthOk.finp64 (o : GOp) : Laws.LengthOk.Statement (.finp64 o) := fun _ => gen_length _ _ _
theorem Laws.LengthOk.cvtAi (x : Reg) (y : Reg) (z : Reg) : Laws.LengthOk.Statement (.cvtAi x y z) := fun _ => rfl
theorem Laws.LengthOk.cvtIa (x : Reg) (y : Reg) (z : Reg) : Laws.LengthOk.Statement (.cvtIa x y z) := fun _ => rfl
theorem Laws.LengthOk.cvtIe (x : Reg) (y : Reg) (z : Reg) : Laws.LengthOk.Statement (.cvtIe x y z) := fun _ => rfl
theorem Laws.LengthOk.cvtEi (x : Reg) (y : Reg) (z : Reg) : Laws.LengthOk.Statement (.cvtEi x y z) := fun _ => rfl
theorem Laws.LengthOk.cvtEs (x : Reg) (y : Reg) (z : Reg) : Laws.LengthOk.Statement (.cvtEs x y z) := fun _ => rfl
theorem Laws.LengthOk.cvtEd (x : Reg) (y : Reg) (z : Reg) : Laws.LengthOk.Statement (.cvtEd x y z) := fun _ => rfl
theorem Laws.LengthOk.finp80 (x : Reg) (y : Reg) (z : Reg) : Laws.LengthOk.Statement (.finp80 x y z) := fun _ => rfl
theorem Laws.LengthOk.brAbs (u : BitVec 12) (d : BitVec 32) : Laws.LengthOk.Statement (.brAbs u d) := fun _ => rfl
theorem Laws.LengthOk.brRel (u : BitVec 12) (d : BitVec 32) : Laws.LengthOk.Statement (.brRel u d) := fun _ => rfl
theorem Laws.LengthOk.brBackward (b : BitVec 8) : Laws.LengthOk.Statement (.brBackward b) := fun _ => rfl
theorem Laws.LengthOk.brForward (b : BitVec 8) : Laws.LengthOk.Statement (.brForward b) := fun _ => rfl
theorem Laws.LengthOk.brGtAbs (x : Reg) (u : BitVec 8) (d : BitVec 32) : Laws.LengthOk.Statement (.brGtAbs x u d) :=
  fun _ => rfl
theorem Laws.LengthOk.brGtRel (x : Reg) (u : BitVec 8) (d : BitVec 32) : Laws.LengthOk.Statement (.brGtRel x u d) :=
  fun _ => rfl
theorem Laws.LengthOk.brBGtShRel (x : Reg) (b : BitVec 8) : Laws.LengthOk.Statement (.brBGtShRel x b) := fun _ => rfl
theorem Laws.LengthOk.brFGtShRel (x : Reg) (b : BitVec 8) : Laws.LengthOk.Statement (.brFGtShRel x b) := fun _ => rfl
theorem Laws.LengthOk.brEqAbs (x : Reg) (u : BitVec 8) (d : BitVec 32) : Laws.LengthOk.Statement (.brEqAbs x u d) :=
  fun _ => rfl
theorem Laws.LengthOk.brEqRel (x : Reg) (u : BitVec 8) (d : BitVec 32) : Laws.LengthOk.Statement (.brEqRel x u d) :=
  fun _ => rfl
theorem Laws.LengthOk.brBEqShRel (x : Reg) (b : BitVec 8) : Laws.LengthOk.Statement (.brBEqShRel x b) := fun _ => rfl
theorem Laws.LengthOk.brFEqShRel (x : Reg) (b : BitVec 8) : Laws.LengthOk.Statement (.brFEqShRel x b) := fun _ => rfl
theorem Laws.LengthOk.brGeAbs (x : Reg) (u : BitVec 8) (d : BitVec 32) : Laws.LengthOk.Statement (.brGeAbs x u d) :=
  fun _ => rfl
theorem Laws.LengthOk.brGeRel (x : Reg) (u : BitVec 8) (d : BitVec 32) : Laws.LengthOk.Statement (.brGeRel x u d) :=
  fun _ => rfl
theorem Laws.LengthOk.brBGeShRel (x : Reg) (b : BitVec 8) : Laws.LengthOk.Statement (.brBGeShRel x b) := fun _ => rfl
theorem Laws.LengthOk.brFGeShRel (x : Reg) (b : BitVec 8) : Laws.LengthOk.Statement (.brFGeShRel x b) := fun _ => rfl
theorem Laws.LengthOk.brLtAbs (x : Reg) (u : BitVec 8) (d : BitVec 32) : Laws.LengthOk.Statement (.brLtAbs x u d) :=
  fun _ => rfl
theorem Laws.LengthOk.brLtRel (x : Reg) (u : BitVec 8) (d : BitVec 32) : Laws.LengthOk.Statement (.brLtRel x u d) :=
  fun _ => rfl
theorem Laws.LengthOk.brBLtShRel (x : Reg) (b : BitVec 8) : Laws.LengthOk.Statement (.brBLtShRel x b) := fun _ => rfl
theorem Laws.LengthOk.brFLtShRel (x : Reg) (b : BitVec 8) : Laws.LengthOk.Statement (.brFLtShRel x b) := fun _ => rfl
theorem Laws.LengthOk.brNeAbs (x : Reg) (u : BitVec 8) (d : BitVec 32) : Laws.LengthOk.Statement (.brNeAbs x u d) :=
  fun _ => rfl
theorem Laws.LengthOk.brNeRel (x : Reg) (u : BitVec 8) (d : BitVec 32) : Laws.LengthOk.Statement (.brNeRel x u d) :=
  fun _ => rfl
theorem Laws.LengthOk.brBNeShRel (x : Reg) (b : BitVec 8) : Laws.LengthOk.Statement (.brBNeShRel x b) := fun _ => rfl
theorem Laws.LengthOk.brFNeShRel (x : Reg) (b : BitVec 8) : Laws.LengthOk.Statement (.brFNeShRel x b) := fun _ => rfl
theorem Laws.LengthOk.brLeAbs (x : Reg) (u : BitVec 8) (d : BitVec 32) : Laws.LengthOk.Statement (.brLeAbs x u d) :=
  fun _ => rfl
theorem Laws.LengthOk.brLeRel (x : Reg) (u : BitVec 8) (d : BitVec 32) : Laws.LengthOk.Statement (.brLeRel x u d) :=
  fun _ => rfl
theorem Laws.LengthOk.brBLeShRel (x : Reg) (b : BitVec 8) : Laws.LengthOk.Statement (.brBLeShRel x b) := fun _ => rfl
theorem Laws.LengthOk.brFLeShRel (x : Reg) (b : BitVec 8) : Laws.LengthOk.Statement (.brFLeShRel x b) := fun _ => rfl
theorem Laws.LengthOk.brReg (x : Reg) : Laws.LengthOk.Statement (.brReg x) := fun _ => rfl
theorem Laws.LengthOk.call (u : BitVec 12) (d : BitVec 32) : Laws.LengthOk.Statement (.call u d) := fun _ => rfl
theorem Laws.LengthOk.callReg (x : Reg) (u : BitVec 8) (d : BitVec 32) : Laws.LengthOk.Statement (.callReg x u d) :=
  fun _ => rfl
theorem Laws.LengthOk.exit (u : Nib) (b : BitVec 8) : Laws.LengthOk.Statement (.exit u b) := fun _ => rfl
theorem Laws.LengthOk.ixit (u : Nib) (b : BitVec 8) : Laws.LengthOk.Statement (.ixit u b) := fun _ => rfl
theorem Laws.LengthOk.bxit (u : Nib) (b : BitVec 8) : Laws.LengthOk.Statement (.bxit u b) := fun _ => rfl
theorem Laws.LengthOk.breakpoint : Laws.LengthOk.Statement (.breakpoint) := fun _ => rfl
theorem Laws.LengthOk.exception (x : Reg) (y : Reg) (z : Reg) : Laws.LengthOk.Statement (.exception x y z) :=
  fun _ => rfl
theorem Laws.LengthOk.exchLinkForward (x : Reg) (y : Reg) (z : Reg) : Laws.LengthOk.Statement (.exchLinkForward x y z) :=
  fun _ => rfl
theorem Laws.LengthOk.forwardMsg (x : Reg) (y : Reg) (z : Reg) : Laws.LengthOk.Statement (.forwardMsg x y z) :=
  fun _ => rfl
theorem Laws.LengthOk.sendSmallMsg (x : Reg) (y : Reg) (z : Reg) : Laws.LengthOk.Statement (.sendSmallMsg x y z) :=
  fun _ => rfl
theorem Laws.LengthOk.delLink (x : Reg) (y : Reg) (z : Reg) (t : Reg) (v : Reg) : Laws.LengthOk.Statement (.delLink x y z t v) :=
  fun _ => rfl
theorem Laws.LengthOk.attFunToChan (x : Reg) (y : Reg) (z : Reg) : Laws.LengthOk.Statement (.attFunToChan x y z) :=
  fun _ => rfl
theorem Laws.LengthOk.createFun (x : Reg) (y : Reg) (z : Reg) : Laws.LengthOk.Statement (.createFun x y z) :=
  fun _ => rfl
theorem Laws.LengthOk.createLink (x : Reg) (y : Reg) (z : Reg) : Laws.LengthOk.Statement (.createLink x y z) :=
  fun _ => rfl
theorem Laws.LengthOk.delFun (x : Reg) (y : Reg) (z : Reg) : Laws.LengthOk.Statement (.delFun x y z) := fun _ => rfl
theorem Laws.LengthOk.delMsg (x : Reg) (y : Reg) (z : Reg) : Laws.LengthOk.Statement (.delMsg x y z) := fun _ => rfl
theorem Laws.LengthOk.disableChanInt (x : Reg) (y : Reg) (z : Reg) : Laws.LengthOk.Statement (.disableChanInt x y z) :=
  fun _ => rfl
theorem Laws.LengthOk.disableFun (x : Reg) (y : Reg) (z : Reg) : Laws.LengthOk.Statement (.disableFun x y z) :=
  fun _ => rfl
theorem Laws.LengthOk.enableChanInt (x : Reg) (y : Reg) (z : Reg) : Laws.LengthOk.Statement (.enableChanInt x y z) :=
  fun _ => rfl
theorem Laws.LengthOk.enableFun (x : Reg) (y : Reg) (z : Reg) : Laws.LengthOk.Statement (.enableFun x y z) :=
  fun _ => rfl
theorem Laws.LengthOk.sendToHardware (x : Reg) (y : Reg) (z : Reg) : Laws.LengthOk.Statement (.sendToHardware x y z) :=
  fun _ => rfl
theorem Laws.LengthOk.setFunIntVector (x : Reg) (y : Reg) (z : Reg) : Laws.LengthOk.Statement (.setFunIntVector x y z) :=
  fun _ => rfl
theorem Laws.LengthOk.copyLink (x : Reg) (y : Reg) (z : Reg) (t : Reg) (v : Reg) : Laws.LengthOk.Statement (.copyLink x y z t v) :=
  fun _ => rfl
theorem Laws.LengthOk.passLink (x : Reg) (y : Reg) (z : Reg) (t : Reg) (v : Reg) : Laws.LengthOk.Statement (.passLink x y z t v) :=
  fun _ => rfl
theorem Laws.LengthOk.rcv (x : Reg) (y : Reg) (z : Reg) (t : Reg) (v : Reg) : Laws.LengthOk.Statement (.rcv x y z t v) :=
  fun _ => rfl
theorem Laws.LengthOk.rcvChan (x : Reg) (y : Reg) (z : Reg) (t : Reg) (v : Reg) : Laws.LengthOk.Statement (.rcvChan x y z t v) :=
  fun _ => rfl
theorem Laws.LengthOk.rcvLink (x : Reg) (y : Reg) (z : Reg) (t : Reg) (v : Reg) : Laws.LengthOk.Statement (.rcvLink x y z t v) :=
  fun _ => rfl
theorem Laws.LengthOk.rcvLinkOnChan (x : Reg) (y : Reg) (z : Reg) (t : Reg) (v : Reg) : Laws.LengthOk.Statement (.rcvLinkOnChan x y z t v) :=
  fun _ => rfl
theorem Laws.LengthOk.readFte (x : Reg) (y : Reg) (z : Reg) (t : Reg) (v : Reg) : Laws.LengthOk.Statement (.readFte x y z t v) :=
  fun _ => rfl
theorem Laws.LengthOk.readLte (x : Reg) (y : Reg) (z : Reg) (t : Reg) (v : Reg) : Laws.LengthOk.Statement (.readLte x y z t v) :=
  fun _ => rfl
theorem Laws.LengthOk.send (x : Reg) (y : Reg) (z : Reg) (t : Reg) (v : Reg) : Laws.LengthOk.Statement (.send x y z t v) :=
  fun _ => rfl
theorem Laws.LengthOk.setLocalPri (x : Reg) (y : Reg) (z : Reg) (t : Reg) (v : Reg) : Laws.LengthOk.Statement (.setLocalPri x y z t v) :=
  fun _ => rfl
theorem Laws.LengthOk.nop : Laws.LengthOk.Statement (.nop) := fun _ => rfl
theorem Laws.LengthOk.readMachId (x : Reg) : Laws.LengthOk.Statement (.readMachId x) := fun _ => rfl
theorem Laws.LengthOk.memoryMan (x : Reg) (y : Reg) (z : Reg) : Laws.LengthOk.Statement (.memoryMan x y z) :=
  fun _ => rfl
theorem Laws.LengthOk.modifyPme (x : Reg) (y : Reg) (z : Reg) : Laws.LengthOk.Statement (.modifyPme x y z) :=
  fun _ => rfl
theorem Laws.LengthOk.readCpuTimer (x : Reg) : Laws.LengthOk.Statement (.readCpuTimer x) := fun _ => rfl
theorem Laws.LengthOk.readPme (x : Reg) : Laws.LengthOk.Statement (.readPme x) := fun _ => rfl
theorem Laws.LengthOk.readRealTimer (x : Reg) : Laws.LengthOk.Statement (.readRealTimer x) := fun _ => rfl
theorem Laws.LengthOk.readStat (x : Reg) : Laws.LengthOk.Statement (.readStat x) := fun _ => rfl
theorem Laws.LengthOk.writeStat (x : Reg) : Laws.LengthOk.Statement (.writeStat x) := fun _ => rfl

end Sys2Proof
end

