-- ==== Sys2Proof/Laws/Step.lean ====
section
/-! SUPPORT. What a step can do, said once. -/

namespace Sys2Proof.Machine

open Sys2Proof

/-- Only the fields differ that the step and the environment change outside an instruction. -/
def outside (a b : State) : Prop :=
  b = { a with lastPc := b.lastPc, ended := b.ended, blocked := b.blocked, manager := b.manager,
               chanPrio := b.chanPrio, machId := b.machId, cpuTimer := b.cpuTimer, clock := b.clock,
               draws := b.draws, arrivals := b.arrivals }

/-- Only those fields differ, and the timers have not gone down. -/
def sameButClock (a b : State) : Prop :=
  outside a b ∧ a.cpuTimer.toNat ≤ b.cpuTimer.toNat ∧ a.clock.toInt ≤ b.clock.toInt

/-- A timer does not go down (D10). -/
theorem le_tickUnsigned (w : Word) (k : Nat) : w.toNat ≤ (tickUnsigned w k).toNat := by
  have h := w.isLt
  have hk := Nat.mod_lt k (show 0 < 2 ^ 64 - w.toNat by omega)
  rw [tickUnsigned, BitVec.toNat_ofNat, Nat.mod_eq_of_lt (by omega)]
  omega

/-- The clock does not go down (D11). -/
theorem le_tickSigned (w : Word) (k : Nat) : w.toInt ≤ (tickSigned w k).toInt := by
  have h1 : w.toInt < 2 ^ 63 := BitVec.toInt_lt
  have h2 : -(2 ^ 63 : Int) ≤ w.toInt := BitVec.le_toInt w
  have hk := Nat.mod_lt k (show 0 < (2 ^ 63 - w.toInt).toNat by omega)
  rw [tickSigned, BitVec.toInt_ofInt, Int.bmod_eq_of_le (by omega) (by omega)]
  omega

/-- What a step can do: a relation that holds across every update, and across every change of the clock and the
environment's own fields, and that composes, holds across every step. -/
theorem step_rel {R : State → State → Prop} (h0 : ∀ a, R a a) (h2 : ∀ a b c, R a b → R b c → R a c)
    (hp : ∀ k a b, Upd k a b → R a b)
    (hx : ∀ a b, sameButClock a b → R a b)
    {s t : State} (h : step s = .next t) : R s t := by
  have hr : ∀ {a b : State}, Reach (fun _ => True) a b → R a b :=
    fun h => h.rel h0 h2 fun k a b _ hu => hp k a b hu
  have hs : ∀ {a b : State}, outside a b → b.cpuTimer = a.cpuTimer → b.clock = a.clock → sameButClock a b :=
    fun h h1 h2 => ⟨h, h1 ▸ le_refl _, h2 ▸ le_refl _⟩
  have hev : ∀ e (a b : State), applyEvent e a = .next b → R a b := by
    intro e a b h
    have hd : ∀ r l d, (if a.blocked = true then Host.Outcome.next a else debuggerEntry r l d a) = .next b →
        R a b := by
      intro r l d h
      split at h
      · cases h; exact h0 _
      · exact hr (Leads.debuggerEntry (K := fun _ => True) trivial .refl _ h)
    unfold applyEvent at h
    split at h
    · exact hr (Leads.deliver (K := fun _ => True) trivial _ _ .refl _ h)
    · split at h
      · cases h; exact hr (Reach.poke trivial _ _ .refl)
      · cases h; exact h0 _
    · cases h
      unfold State.remap
      split
      · exact h2 _ _ _ (hp _ _ _ (.mem a _ fun w => Memory.wf_zeroPage _ w))
          (hp _ _ _ (.pages _ _ fun w => Assoc.sorted_erase _ w))
      · split
        · exact h2 _ _ _ (hp _ _ _ (.mem a _ fun w => Memory.wf_zeroPage _ w))
            (hp _ _ _ (.pages _ _ fun w => Assoc.sorted_set _ _ w))
        · exact (hp _ _ _ (.pages _ _ fun w => Assoc.sorted_set _ _ w))
    · exact hd _ _ _ h
    · exact hd _ _ _ h
    · exact hd _ _ _ h
    · cases h; exact h0 _
    · cases h; exact h0 _
    · cases h; exact hx _ _ (hs rfl rfl rfl)
    · cases h; exact hx _ _ (hs rfl rfl rfl)
    · cases h
      split
      · exact hx _ _ (hs rfl rfl rfl)
      · exact h0 _
    · cases h; exact hx _ _ (hs rfl rfl rfl)
  have hevs : ∀ l (a b : State), applyEvents l a = .next b → R a b := by
    intro l
    induction l with
    | nil => intro a b h; cases h; exact h0 _
    | cons e l ih =>
      intro a b h
      obtain ⟨u, hu, hb⟩ := Res.bind_eq_next h
      exact h2 _ _ _ (hev _ _ _ hu) (ih _ _ hb)
  have hb : ∀ l c (a b : State), boundary l c a = .next b → R a b := by
    intro l c a b h
    unfold boundary at h
    obtain ⟨u, hu, hb⟩ := Res.bind_eq_next h
    have h1 : R a (if a.blocked then a else { a with lastPc := l.getD a.lastPc, manager := .idle }) := by
      split
      · exact h0 _
      · exact hx _ _ (hs rfl rfl rfl)
    have h3 : R (if a.blocked then a else { a with lastPc := l.getD a.lastPc, manager := .idle }) u := by
      generalize (if a.blocked then a else { a with lastPc := l.getD a.lastPc, manager := .idle }) = a' at hu ⊢
      unfold singleStep at hu
      split at hu
      · exact hr (Leads.debuggerEntry (K := fun _ => True) trivial .refl _ hu)
      · cases hu; exact h0 _
    unfold environment at hb
    refine h2 _ _ _ h1 (h2 _ _ _ h3 (h2 _ _ _ ?_ (hevs _ _ _ hb)))
    refine hx _ _ ⟨rfl, ?_, le_tickSigned _ _⟩
    show u.cpuTimer.toNat ≤ (if u.blocked then u.cpuTimer else _).toNat
    split
    · exact le_refl _
    · exact le_tickUnsigned _ _
  unfold step at h
  split at h
  · cases h
  · simp only at h
    refine h2 s { s with blocked := false } t (hx _ _ (hs rfl rfl rfl)) ?_
    split at h
    · obtain ⟨u, hu, hb'⟩ := Res.bind_eq_next h
      refine h2 _ _ _ ?_ (hb _ _ _ _ hb')
      unfold fetchViolation at hu
      split at hu
      · exact hr (Leads.raiseAt (K := fun _ => True) trivial _ _ _ _ .refl _ hu)
      · cases hu
    · obtain ⟨u, hu, hb'⟩ := Res.bind_eq_next h
      exact h2 _ _ _ (hr (Leads.raiseAt (K := fun _ => True) trivial _ _ _ _ .refl _ hu))
        (hb _ _ _ _ hb')
    · obtain ⟨u, hu, hb'⟩ := Res.bind_eq_next h
      exact h2 _ _ _ (hr (Leads.execFsqr (K := fun _ => True) trivial _ _ _ hu)) (hb _ _ _ _ hb')
    · obtain ⟨u, hu, hb'⟩ := Res.bind_eq_next h
      refine h2 _ _ _ (hr (Reach.mono (fun _ _ => trivial) (exec_leads _ _ hu))) (hb _ _ _ _ hb')

/-- What is illegal by its form alone takes the illegal-instruction exception when it is executed (R23, R733, D14). -/
theorem exec_of_illegalForm {i : Instr} {s : State} (h : illegalForm s.params i = true) : exec i s = illegal i s := by
  have hn : ∀ {b : Bool}, (!b) = true → ¬ b = true := fun h => by simpa using h
  cases i
  case readMachId x => exact if_neg (hn h)
  case memoryMan x y z => exact if_neg (hn h)
  case modifyPme x y z => exact if_neg (hn h)
  case exchLinkForward x y z => exact if_neg (hn h)
  case forwardMsg x y z => exact if_neg (hn h)
  case sendSmallMsg x y z => exact if_neg (hn h)
  case mul128 x y z => exact if_neg (hn h)
  case mulu128 x y z => exact if_neg (hn h)
  case fadd80 x y z => exact if_neg (hn h)
  case fsub80 x y z => exact if_neg (hn h)
  case fmul80 x y z => exact if_neg (hn h)
  case fdiv80 x y z => exact if_neg (hn h)
  case frem80 x y z => exact if_neg (hn h)
  case cvtDe o => exact if_pos ⟨rfl, by simpa [illegalForm] using h⟩
  case cvtSe o => exact if_pos ⟨rfl, by simpa [illegalForm] using h⟩
  case cvtIe x y z => exact if_neg (hn h)
  case cvtEi x y z => exact if_neg (hn h)
  case cvtEs x y z => exact if_neg (hn h)
  case cvtEd x y z => exact if_neg (hn h)
  case finp80 x y z => exact if_neg (hn h)
  case fcmp80 x y z a => exact if_neg (hn h)
  case fcmpBr80 x y z a => exact if_neg (hn h)
  case fcmpx80 x y z a => exact if_neg (hn h)
  case fcmpxBr80 x y z a => exact if_neg (hn h)
  all_goals exact absurd h Bool.false_ne_true

end Sys2Proof.Machine
end

