-- ==== Sys2Proof/Tests/Slice0.lean ====
section
/-! SUPPORT. Tests of the model's own work, by evaluation: decoding of words written out from the rows of
opcode_table.json, ill-formed terms, one step on the vectors of 95_test_vectors.md, and the witnesses that the statements'
hypotheses can be met. -/

namespace Sys2Proof.Machine

open Sys2Proof Sys2Proof.Stmt

set_option Elab.async false

/-! ### Helpers -/

/-- The bytes decode to the instruction, whole, and are its encoding. -/
def reads (bs : List Byte) (i : Instr) : Bool :=
  match decode Config.params bs with
  | .ok (j, r) => decide (j = i) && r.isEmpty && decide (encode Config.params i = bs)
  | .error _ => false

/-- The term is no instruction. -/
def illFormed (i : Instr) : Bool := !i.wellFormed Config.params

/-- The state at start-up with another pc, PSW, registers and bytes of memory, a data page at 00001000 and one at
00100000, and an instruction at the pc. -/
def start (pc : Addr) (psw : Word) (rs : List (Reg × Word)) (ms : List (Addr × List Byte)) (code : List Byte) : State :=
  let s0 := { State.reset with
    psw := psw
    pages := (2, Page.plain true true false) :: (State.reset.pages ++ [(0x200, Page.plain true true false)]) }
  let s1 := rs.foldl (fun s p => s.setReg p.1 p.2) s0
  let s2 := ms.foldl (fun s p => s.poke p.1 p.2) s1
  (s2.setPc pc).placeBytes (code ++ List.replicate (9 - code.length) 0)

/-- One step goes on and leaves what is asked. -/
def runs (s : State) (f : State → Bool) : Bool :=
  match step s with
  | .next t => f t
  | .fault _ => false
  | .refused _ => false

/-- One instruction goes on and leaves what is asked. -/
def does (i : Instr) (s : State) (f : State → Bool) : Bool :=
  match exec i s with
  | .next t => f t
  | .fault _ => false
  | .refused _ => false

/-! ### Decoding: words written out from the rows of opcode_table.json, one of every constructor -/

theorem test_decode_DataTransfer1 :
    reads [0xB8, 0x08, 0x86] (.ld8 (.mB 8 8 6)) &&
    reads [0x69, 0x08, 0x43, 0x22, 0x1F, 0xC3, 0xE5] (.ld16 (.m6 8 4 3 0x221FC3E5)) &&
    reads [0xBA, 0x09, 0xF3] (.ld32 (.mB 9 15 3)) &&
    reads [0x4B, 0x0F, 0xB2, 0x4E] (.ld64 (.m4 15 0xB24E)) &&
    reads [0x68, 0x1D, 0xF0, 0x0B, 0x39, 0xF6, 0x12] (.ldz8 (.m6 13 15 0 0x0B39F612)) &&
    reads [0x49, 0x12, 0x2F, 0x3E] (.ldz16 (.m4 2 0x2F3E)) &&
    reads [0x6B, 0x1E, 0x25, 0xA8, 0x99, 0xDE, 0x15] (.ldz24 (.m6 14 2 5 0xA899DE15)) &&
    reads [0x4A, 0x19, 0x5B, 0x81] (.ldz32 (.m4 9 0x5B81)) = true := by decide +kernel

theorem test_decode_DataTransfer2 :
    reads [0xF9, 0x76, 0x04, 0x57, 0x38, 0x82, 0x61] (.ldz40 (.mF 6 0 4 0x57388261)) &&
    reads [0x4A, 0x74, 0xDD, 0x57] (.ldz48 (.m4 4 0xDD57)) &&
    reads [0x4B, 0x74, 0x95, 0x31] (.ldz56 (.m4 4 0x9531)) &&
    reads [0xF6, 0x0B, 0x5D, 0xC1, 0x97, 0x69, 0x48] (.st8 (.mF 11 5 13 0xC1976948)) &&
    reads [0xB6, 0x15, 0xC1] (.st16 (.mB 5 12 1)) &&
    reads [0x46, 0xC6, 0xDA, 0x15] (.st24 (.m4 6 0xDA15)) &&
    reads [0x86, 0xC9] (.st32 (.m8 12 9)) &&
    reads [0xB6, 0xD1, 0x8D] (.st40 (.mB 1 8 13)) = true := by decide +kernel

theorem test_decode_DataTransfer3 :
    reads [0x46, 0xE3, 0x79, 0x4D] (.st48 (.m4 3 0x794D)) &&
    reads [0xB6, 0xF0, 0x95] (.st56 (.mB 0 9 5)) &&
    reads [0xB6, 0x31, 0xD2] (.st64 (.mB 1 13 2)) &&
    reads [0xD6, 0x40, 0x2C, 0x68] (.stv8 (.mD 0 2 0xC68)) &&
    reads [0xE6, 0x5D, 0x1D, 0x87, 0x2C, 0xFC, 0xAD] (.stv16 (.mE 13 1 13 0x872CFCAD)) &&
    reads [0xD6, 0x60, 0x6A, 0xE3] (.stv32 (.mD 0 6 0xAE3)) &&
    reads [0xC5, 0x07, 0xAE] (.sti8 (.mC 7 10 14)) &&
    reads [0x65, 0x17, 0x6E, 0x93, 0xB4, 0x6C, 0x7F] (.sti16 (.m6 7 6 14 0x93B46C7F)) = true := by decide +kernel

theorem test_decode_DataTransfer4 :
    reads [0xF5, 0x27, 0x05, 0xE0, 0xAC, 0xEE, 0xE2] (.sti32 (.mF 7 0 5 0xE0ACEEE2)) &&
    reads [0xF5, 0x3E, 0x39, 0xC0, 0x81, 0x62, 0xC7] (.sti64 (.mF 14 3 9 0xC08162C7)) &&
    reads [0xB5, 0x44, 0x63] (.stin8 (.mB 4 6 3)) &&
    reads [0x45, 0x56, 0xBC, 0x94] (.stin16 (.m4 6 0xBC94)) &&
    reads [0xC5, 0x6D, 0x32] (.stin32 (.mC 13 3 2)) &&
    reads [0xC5, 0x74, 0x71] (.stin64 (.mC 4 7 1)) &&
    reads [0xD0, 0x6B, 0xE1, 0x67, 0x96] (.extract 11 14 1 ⟨1, 39, 2, 22⟩) &&
    reads [0xD0, 0x7A, 0xA9, 0x3D, 0xE0] (.extractz 10 10 9 ⟨0, 61, 3, 32⟩) = true := by decide +kernel

theorem test_decode_DataTransfer5 :
    reads [0xD0, 0x5F, 0xA4, 0xF2, 0x4D] (.insert 15 10 4 ⟨3, 50, 1, 13⟩) &&
    reads [0x70, 0x28, 0xE3] (.exch 8 14 3) &&
    reads [0x70, 0x37, 0xF4] (.exchAnd 7 15 4) &&
    reads [0x70, 0x45, 0x62] (.exchOr 5 6 2) &&
    reads [0x70, 0x6B, 0x40] (.copyb 11 4 0) &&
    reads [0x70, 0x76, 0x4C] (.copybConst 6 4 12) = true := by decide +kernel

theorem test_decode_Integer1 :
    reads [0x69, 0x91, 0xD1, 0xA8, 0xFD, 0xEB, 0x29] (.add16 (.m6 1 13 1 0xA8FDEB29)) &&
    reads [0xEA, 0x90, 0x53, 0x0D, 0x34, 0x51, 0x60] (.add32 (.mE 0 5 3 0x0D345160)) &&
    reads [0xEB, 0x95, 0xF7, 0xC6, 0xD8, 0xE8, 0x48] (.add64 (.mE 5 15 7 0xC6D8E848)) &&
    reads [0xF1, 0x91, 0x8D, 0xDA, 0xC5, 0xD3, 0x7E] (.adduc64 (.mF 1 8 13 0xDAC5D37E)) &&
    reads [0x04, 0x47] (.addi64 (.m0 4 7)) &&
    reads [0xE9, 0xC8, 0x79, 0x06, 0xB3, 0x04, 0x73] (.div16 (.mE 8 7 9 0x06B30473)) &&
    reads [0xDA, 0xC8, 0x10, 0x0A] (.div32 (.mD 8 1 0x00A)) &&
    reads [0xEB, 0xC5, 0x74, 0x46, 0xF0, 0x8B, 0x72] (.div64 (.mE 5 7 4 0x46F08B72)) = true := by decide +kernel

theorem test_decode_Integer2 :
    reads [0xD9, 0xD4, 0x02, 0x00] (.divr16 (.mD 4 0 0x200)) &&
    reads [0xFA, 0xD9, 0x00, 0xC3, 0xEE, 0xF5, 0x62] (.divr32 (.mF 9 0 0 0xC3EEF562)) &&
    reads [0xDB, 0xD4, 0xD7, 0x48] (.divr64 (.mD 4 13 0x748)) &&
    reads [0xC9, 0xE6, 0xD5] (.rem16 (.mC 6 13 5)) &&
    reads [0xBA, 0xE5, 0x36] (.rem32 (.mB 5 3 6)) &&
    reads [0xDB, 0xE9, 0x98, 0xCA] (.rem64 (.mD 9 9 0x8CA)) &&
    reads [0x69, 0xF2, 0x78, 0xB3, 0x66, 0x61, 0xEA] (.remr16 (.m6 2 7 8 0xB36661EA)) &&
    reads [0xBA, 0xFE, 0xAC] (.remr32 (.mB 14 10 12)) = true := by decide +kernel

theorem test_decode_Integer3 :
    reads [0xBB, 0xF1, 0x57] (.remr64 (.mB 1 5 7)) &&
    reads [0xE9, 0x82, 0xBC, 0x79, 0xB0, 0x4F, 0x6F] (.mul16 (.mE 2 11 12 0x79B04F6F)) &&
    reads [0xEA, 0x8B, 0x7D, 0x65, 0x0C, 0x32, 0x52] (.mul32 (.mE 11 7 13 0x650C3252)) &&
    reads [0xEB, 0x8C, 0xDA, 0x8F, 0xF2, 0x2C, 0x57] (.mul64 (.mE 12 13 10 0x8FF22C57)) &&
    reads [0xB0, 0x2F, 0x7F] (.mul128 15 7 15) &&
    reads [0xB0, 0x3A, 0xC6] (.mulu128 10 12 6) &&
    reads [0xC9, 0x20, 0xA1] (.neg16 (.mC 0 10 1)) &&
    reads [0xEA, 0x20, 0x97, 0x55, 0x39, 0x64, 0x40] (.neg32 (.mE 0 9 7 0x55396440)) = true := by decide +kernel

theorem test_decode_Integer4 :
    reads [0x4B, 0x25, 0x27, 0x81] (.neg64 (.m4 5 0x2781)) &&
    reads [0xB9, 0xA5, 0xE2] (.sub16 (.mB 5 14 2)) &&
    reads [0xFA, 0xAF, 0xD3, 0x76, 0xF2, 0x76, 0x5A] (.sub32 (.mF 15 13 3 0x76F2765A)) &&
    reads [0xCB, 0xA4, 0xF0] (.sub64 (.mC 4 15 0)) &&
    reads [0x49, 0xBF, 0x1B, 0x2C] (.subr16 (.m4 15 0x1B2C)) &&
    reads [0x4A, 0xBB, 0xAA, 0x43] (.subr32 (.m4 11 0xAA43)) &&
    reads [0xEB, 0xB4, 0xCA, 0x86, 0x31, 0x37, 0xDD] (.subr64 (.mE 4 12 10 0x863137DD)) &&
    reads [0x61, 0xA2, 0x0A, 0x9D, 0x51, 0x5C, 0x76] (.subuc64 (.m6 2 0 10 0x9D515C76)) = true := by decide +kernel

theorem test_decode_Integer5 :
    reads [0xC1, 0xB8, 0x6B] (.subucr64 (.mC 8 6 11)) &&
    reads [0x14, 0x39] (.subi64 (.m1 3 9)) &&
    reads [0x31, 0x26, 0xAD] (.sla (.m3 6 10 13)) &&
    reads [0x31, 0x30, 0x0C] (.sra (.m3 0 0 12)) = true := by decide +kernel

theorem test_decode_Floating1 :
    reads [0x6C, 0x94, 0x5E, 0x69, 0x2C, 0xB5, 0x80] (.fadd32 (.m6 4 5 14 0x692CB580)) &&
    reads [0x6D, 0x9C, 0x2A, 0x8B, 0x88, 0x66, 0xBB] (.fadd64 (.m6 12 2 10 0x8B8866BB)) &&
    reads [0xF0, 0x9A, 0xA8] (.fadd80 10 10 8) &&
    reads [0xCC, 0xA0, 0xE3] (.fsub32 (.mC 0 14 3)) &&
    reads [0x1E, 0x24] (.fsub64 (.m1 2 4)) &&
    reads [0xCC, 0xBC, 0x54] (.fsubr32 (.mC 12 5 4)) &&
    reads [0xDD, 0xBC, 0xD7, 0xE4] (.fsubr64 (.mD 12 13 0x7E4)) &&
    reads [0xF0, 0xAA, 0x7D] (.fsub80 10 7 13) = true := by decide +kernel

theorem test_decode_Floating2 :
    reads [0x3C, 0x81, 0xB8] (.fmul32 (.m3 1 11 8)) &&
    reads [0xED, 0x89, 0x69, 0x6D, 0xFF, 0xBD, 0x66] (.fmul64 (.mE 9 6 9 0x6DFFBD66)) &&
    reads [0xF0, 0x88, 0xFF] (.fmul80 8 15 15) &&
    reads [0xCC, 0xCC, 0x39] (.fdiv32 (.mC 12 3 9)) &&
    reads [0xFD, 0xCC, 0xE9, 0xD2, 0x29, 0x60, 0xC8] (.fdiv64 (.mF 12 14 9 0xD22960C8)) &&
    reads [0x6C, 0xD1, 0xC9, 0x92, 0xC5, 0x01, 0x7C] (.fdivr32 (.m6 1 12 9 0x92C5017C)) &&
    reads [0xED, 0xD7, 0x83, 0x3B, 0xCD, 0x75, 0x41] (.fdivr64 (.mE 7 8 3 0x3BCD7541)) &&
    reads [0xF0, 0xCC, 0xDB] (.fdiv80 12 13 11) = true := by decide +kernel

theorem test_decode_Floating3 :
    reads [0xB0, 0x4B, 0xA1] (.frem32 11 10 1) &&
    reads [0xB0, 0x55, 0x11] (.frem64 5 1 1) &&
    reads [0xB0, 0x64, 0xBE] (.frem80 4 11 14) = true := by decide +kernel

theorem test_decode_Ascii1 :
    reads [0x70, 0x87, 0x59] (.asciiAdd 7 5 9) &&
    reads [0x70, 0x92, 0x55] (.asciiAddc 2 5 5) &&
    reads [0x90, 0xE7, 0x90, 0x56] (.asciiSub 7 9 0 5 6) &&
    reads [0x70, 0xB7, 0xCA] (.asciiSubc 7 12 10) = true := by decide +kernel

theorem test_decode_Logical1 :
    reads [0x31, 0xC8, 0x8E] (.logAnd (.m3 8 8 14)) &&
    reads [0x61, 0xD9, 0x8B, 0x14, 0xCB, 0x19, 0x9F] (.logOr (.m6 9 8 11 0x14CB199F)) &&
    reads [0x61, 0xE1, 0xB7, 0x56, 0x0B, 0x1D, 0xAC] (.logNot (.m6 1 11 7 0x560B1DAC)) &&
    reads [0x31, 0xF9, 0xD0] (.logXor (.m3 9 13 0)) &&
    reads [0x30, 0x59, 0x92] (.setBit 9 0x92) &&
    reads [0x30, 0x66, 0x8D] (.clearBit 6 0x8D) &&
    reads [0x30, 0x75, 0xD3] (.toggleBit 5 0xD3) &&
    reads [0xE1, 0x7B, 0x13, 0xB8, 0x13, 0x45, 0x19] (.findFirst (.mE 11 1 3 0xB8134519)) = true := by decide +kernel

theorem test_decode_Logical2 :
    reads [0x31, 0x4A, 0x46] (.rol (.m3 10 4 6)) &&
    reads [0x71, 0x58, 0xB4, 0xEB, 0x1A, 0x92, 0x6E] (.ror (.m7 8 11 4 0xEB1A926E)) &&
    reads [0x31, 0x06, 0x1B] (.sll (.m3 6 1 11)) &&
    reads [0x31, 0x16, 0x87] (.srl (.m3 6 8 7)) &&
    reads [0xF9, 0x4D, 0xC4, 0x76, 0x16, 0x3B, 0xBC] (.sll1w16 (.mF 13 12 4 0x76163BBC)) &&
    reads [0xDA, 0x41, 0xF1, 0xE1] (.sll1w32 (.mD 1 15 0x1E1)) &&
    reads [0xDB, 0x4D, 0xB2, 0x1A] (.sll1w64 (.mD 13 11 0x21A)) &&
    reads [0xB9, 0x50, 0x45] (.sll2w16 (.mB 0 4 5)) = true := by decide +kernel

theorem test_decode_Logical3 :
    reads [0x3A, 0x5D, 0xC9] (.sll2w32 (.m3 13 12 9)) &&
    reads [0xFB, 0x5E, 0x6C, 0x07, 0xAD, 0xF5, 0x48] (.sll2w64 (.mF 14 6 12 0x07ADF548)) &&
    reads [0x49, 0x63, 0x0B, 0x74] (.sll3w16 (.m4 3 0x0B74)) &&
    reads [0x3A, 0x6C, 0xE5] (.sll3w32 (.m3 12 14 5)) &&
    reads [0xEB, 0x65, 0xF3, 0x6A, 0x62, 0xA8, 0x29] (.sll3w64 (.mE 5 15 3 0x6A62A829)) = true := by decide +kernel

theorem test_decode_Relational1 :
    reads [0xE3, 0x07, 0x80, 0x88, 0xA0, 0xD1, 0x30, 0xEB, 0xFF] (.cmpBr8 (.mE 7 8 0 0x88A0D130) ⟨14, 0xBFF⟩) &&
    reads [0x63, 0x1C, 0x60, 0x7D, 0xED, 0xCF, 0x89, 0x13, 0xD6] (.cmpBr16 (.m6 12 6 0 0x7DEDCF89) ⟨1, 0x3D6⟩) &&
    reads [0xE3, 0x2D, 0xEC, 0x37, 0x89, 0xED, 0x1D, 0xDF, 0x49] (.cmpBr32 (.mE 13 14 12 0x3789ED1D) ⟨13, 0xF49⟩) &&
    reads [0x43, 0x3F, 0x9F, 0x38, 0x5E, 0x04] (.cmpBr64 (.m4 15 0x9F38) ⟨5, 0xE04⟩) &&
    reads [0xD3, 0x43, 0x53, 0x1B, 0xF6, 0xF0] (.cmpuBr8 (.mD 3 5 0x31B) ⟨15, 0x6F0⟩) &&
    reads [0xD3, 0x5E, 0xD4, 0xD6, 0x70, 0x84] (.cmpuBr16 (.mD 14 13 0x4D6) ⟨7, 0x084⟩) &&
    reads [0xE3, 0x65, 0x04, 0x2E, 0x0D, 0x71, 0x68, 0x9C, 0x8E] (.cmpuBr32 (.mE 5 0 4 0x2E0D7168) ⟨9, 0xC8E⟩) &&
    reads [0xD3, 0x77, 0x1A, 0x24, 0xF6, 0x51] (.cmpuBr64 (.mD 7 1 0xA24) ⟨15, 0x651⟩) = true := by decide +kernel

theorem test_decode_Relational2 :
    reads [0xC2, 0x01, 0x6A, 0x5A, 0x0D] (.cmp8 (.mC 1 6 10) ⟨5, 0xA0D⟩) &&
    reads [0xC2, 0x13, 0x60, 0x10, 0x5A] (.cmp16 (.mC 3 6 0) ⟨1, 0x05A⟩) &&
    reads [0x42, 0x20, 0x21, 0xA7, 0x02, 0x12] (.cmp32 (.m4 0 0x21A7) ⟨0, 0x212⟩) &&
    reads [0xD2, 0x38, 0x6B, 0x6B, 0x91, 0x5F] (.cmp64 (.mD 8 6 0xB6B) ⟨9, 0x15F⟩) &&
    reads [0x42, 0x4E, 0xCF, 0xA7, 0x6B, 0x0B] (.cmpu8 (.m4 14 0xCFA7) ⟨6, 0xB0B⟩) &&
    reads [0xB2, 0x59, 0xF2, 0x0E, 0xB7] (.cmpu16 (.mB 9 15 2) ⟨0, 0xEB7⟩) &&
    reads [0xB2, 0x6D, 0xC7, 0x59, 0x15] (.cmpu32 (.mB 13 12 7) ⟨5, 0x915⟩) &&
    reads [0xE2, 0x7D, 0xF5, 0x0A, 0xEE, 0xEF, 0xE6, 0x9D, 0xF6] (.cmpu64 (.mE 13 15 5 0x0AEEEFE6) ⟨9, 0xDF6⟩) = true := by decide +kernel

theorem test_decode_Relational3 :
    reads [0x33, 0x8F, 0x14, 0x7F, 0x99] (.fcmpBr32 (.m3 15 1 4) ⟨7, 0xF99⟩) &&
    reads [0x43, 0x91, 0xA0, 0xB6, 0x95, 0x12] (.fcmpBr64 (.m4 1 0xA0B6) ⟨9, 0x512⟩) &&
    reads [0xD3, 0xA4, 0xAE, 0x21, 0xD3, 0x9D] (.fcmpxBr32 (.mD 4 10 0xE21) ⟨13, 0x39D⟩) &&
    reads [0x63, 0xBD, 0x28, 0x94, 0x56, 0xE3, 0x53, 0xB9, 0xB3] (.fcmpxBr64 (.m6 13 2 8 0x9456E353) ⟨11, 0x9B3⟩) &&
    reads [0xD2, 0x88, 0x22, 0x3C, 0x30, 0xE5] (.fcmp32 (.mD 8 2 0x23C) ⟨3, 0x0E5⟩) &&
    reads [0xB2, 0x9C, 0xC2, 0x02, 0x8C] (.fcmp64 (.mB 12 12 2) ⟨0, 0x28C⟩) &&
    reads [0xE2, 0xA8, 0x28, 0x1C, 0x22, 0x41, 0xF6, 0x03, 0x81] (.fcmpx32 (.mE 8 2 8 0x1C2241F6) ⟨0, 0x381⟩) &&
    reads [0x32, 0xBE, 0xEC, 0xB9, 0x59] (.fcmpx64 (.m3 14 14 12) ⟨11, 0x959⟩) = true := by decide +kernel

theorem test_decode_Relational4 :
    reads [0xD0, 0x81, 0xE4, 0x22, 0xCB] (.fcmp80 1 14 4 ⟨2, 0x2CB⟩) &&
    reads [0xD0, 0x98, 0x8C, 0x11, 0xCF] (.fcmpBr80 8 8 12 ⟨1, 0x1CF⟩) &&
    reads [0xD0, 0xA7, 0x23, 0x83, 0x13] (.fcmpx80 7 2 3 ⟨8, 0x313⟩) &&
    reads [0xD0, 0xB1, 0x59, 0xE1, 0x86] (.fcmpxBr80 1 5 9 ⟨14, 0x186⟩) &&
    reads [0xD0, 0x01, 0xAE, 0x6B, 0x30] (.cmpbBr 1 10 14 ⟨6, 0xB30⟩) &&
    reads [0xD0, 0x1D, 0x14, 0x88, 0xF3] (.cmpbBrConst 13 1 4 ⟨8, 0x8F3⟩) &&
    reads [0x70, 0x5C, 0xE2] (.cmpbTest 12 14 2) = true := by decide +kernel

theorem test_decode_Conversion1 :
    reads [0xBD, 0x7A, 0xD1] (.cvtDe (.mB 10 13 1)) &&
    reads [0x4D, 0x33, 0x32, 0x33] (.cvtDi (.m4 3 0x3233)) &&
    reads [0xFD, 0x61, 0x75, 0x68, 0x7A, 0x62, 0x27] (.cvtDs (.mF 1 7 5 0x687A6227)) &&
    reads [0xBD, 0x26, 0x4A] (.cvtId (.mB 6 4 10)) &&
    reads [0x6C, 0x26, 0xB5, 0xAE, 0x57, 0x69, 0x9F] (.cvtIs (.m6 6 11 5 0xAE57699F)) &&
    reads [0x6C, 0x64, 0x6F, 0xE9, 0xA3, 0x91, 0x80] (.cvtSd (.m6 4 6 15 0xE9A39180)) &&
    reads [0x6C, 0x34, 0x03, 0x7F, 0x28, 0xB8, 0x72] (.cvtSi (.m6 4 0 3 0x7F28B872)) &&
    reads [0xFC, 0x71, 0x98, 0x2E, 0x0A, 0x30, 0xFD] (.cvtSe (.mF 1 9 8 0x2E0A30FD)) = true := by decide +kernel

theorem test_decode_Conversion2 :
    reads [0x4C, 0xF4, 0x25, 0xC7] (.finp32 (.m4 4 0x25C7)) &&
    reads [0x4D, 0xF7, 0xF2, 0x85] (.finp64 (.m4 7 0xF285)) &&
    reads [0x70, 0xCC, 0x88] (.cvtAi 12 8 8) &&
    reads [0x70, 0xD8, 0xF2] (.cvtIa 8 15 2) &&
    reads [0xF0, 0x2C, 0xE2] (.cvtIe 12 14 2) &&
    reads [0xF0, 0x33, 0x6A] (.cvtEi 3 6 10) &&
    reads [0xF0, 0x65, 0x2F] (.cvtEs 5 2 15) &&
    reads [0xF0, 0x7F, 0x10] (.cvtEd 15 1 0) = true := by decide +kernel

theorem test_decode_Conversion3 :
    reads [0xF0, 0xFF, 0x2A] (.finp80 15 2 10) = true := by decide +kernel

theorem test_decode_Control1 :
    reads [0xE0, 0x7F, 0x61, 0x12, 0x7F, 0xF3, 0x86] (.brAbs 0xF61 0x127FF386) &&
    reads [0xE0, 0xF9, 0x30, 0xD5, 0xD2, 0x10, 0x42] (.brRel 0x930 0xD5D21042) &&
    reads [0xA0, 0xD4] (.brBackward 0xD4) &&
    reads [0x20, 0x90] (.brForward 0x90) &&
    reads [0xE0, 0x15, 0xA9, 0x66, 0x1F, 0x22, 0xBF] (.brGtAbs 5 0xA9 0x661F22BF) &&
    reads [0xE0, 0x94, 0x35, 0xF4, 0xF8, 0xEA, 0x8F] (.brGtRel 4 0x35 0xF4F8EA8F) &&
    reads [0xB0, 0x97, 0x7B] (.brBGtShRel 7 0x7B) &&
    reads [0x30, 0x97, 0xA0] (.brFGtShRel 7 0xA0) = true := by decide +kernel

theorem test_decode_Control2 :
    reads [0xE0, 0x28, 0xC1, 0x38, 0x80, 0x90, 0xAF] (.brEqAbs 8 0xC1 0x388090AF) &&
    reads [0xE0, 0xA4, 0x15, 0x6C, 0x51, 0xBD, 0xA7] (.brEqRel 4 0x15 0x6C51BDA7) &&
    reads [0xB0, 0xAD, 0x2E] (.brBEqShRel 13 0x2E) &&
    reads [0x30, 0xA3, 0x76] (.brFEqShRel 3 0x76) &&
    reads [0xE0, 0x39, 0xDF, 0x89, 0xAC, 0x1B, 0x0C] (.brGeAbs 9 0xDF 0x89AC1B0C) &&
    reads [0xE0, 0xB6, 0x2C, 0xEB, 0x4C, 0xFB, 0x59] (.brGeRel 6 0x2C 0xEB4CFB59) &&
    reads [0xB0, 0xBA, 0xAF] (.brBGeShRel 10 0xAF) &&
    reads [0x30, 0xB2, 0x64] (.brFGeShRel 2 0x64) = true := by decide +kernel

theorem test_decode_Control3 :
    reads [0xE0, 0x41, 0x15, 0xB0, 0x0F, 0x2B, 0x1B] (.brLtAbs 1 0x15 0xB00F2B1B) &&
    reads [0xE0, 0xCC, 0x02, 0xE2, 0x13, 0xE2, 0x0A] (.brLtRel 12 0x02 0xE213E20A) &&
    reads [0xB0, 0xC6, 0x8E] (.brBLtShRel 6 0x8E) &&
    reads [0x30, 0xC4, 0x51] (.brFLtShRel 4 0x51) &&
    reads [0xE0, 0x57, 0x24, 0xBB, 0x38, 0x17, 0x3A] (.brNeAbs 7 0x24 0xBB38173A) &&
    reads [0xE0, 0xDC, 0x08, 0xDD, 0x84, 0x90, 0x5D] (.brNeRel 12 0x08 0xDD84905D) &&
    reads [0xB0, 0xDB, 0x4C] (.brBNeShRel 11 0x4C) &&
    reads [0x30, 0xD7, 0x7B] (.brFNeShRel 7 0x7B) = true := by decide +kernel

theorem test_decode_Control4 :
    reads [0xE0, 0x67, 0xD3, 0xAE, 0xDC, 0xAC, 0xFA] (.brLeAbs 7 0xD3 0xAEDCACFA) &&
    reads [0xE0, 0xE6, 0x46, 0x4F, 0x6A, 0xC0, 0x86] (.brLeRel 6 0x46 0x4F6AC086) &&
    reads [0xB0, 0xEA, 0x3C] (.brBLeShRel 10 0x3C) &&
    reads [0x30, 0xEA, 0xAF] (.brFLeShRel 10 0xAF) &&
    reads [0x60, 0x06] (.brReg 6) &&
    reads [0xE0, 0x0C, 0xD8, 0x17, 0xE5, 0x9F, 0x5A] (.call 0xCD8 0x17E59F5A) &&
    reads [0xE0, 0x8A, 0x8F, 0x29, 0x6C, 0x13, 0x4E] (.callReg 10 0x8F 0x296C134E) &&
    reads [0x30, 0x0D, 0xC0] (.exit 13 0xC0) = true := by decide +kernel

theorem test_decode_Control5 :
    reads [0x30, 0x10, 0x51] (.ixit 0 0x51) &&
    reads [0x30, 0x23, 0x03] (.bxit 3 0x03) &&
    reads [0x10] (.breakpoint) &&
    reads [0x00, 0x06, 0x55] (.exception 6 5 5) = true := by decide +kernel

theorem test_decode_Message1 :
    reads [0x80, 0x99, 0x98] (.exchLinkForward 9 9 8) &&
    reads [0x80, 0xAF, 0x67] (.forwardMsg 15 6 7) &&
    reads [0x80, 0xE5, 0x17] (.sendSmallMsg 5 1 7) &&
    reads [0x90, 0x1D, 0xB1, 0x78] (.delLink 13 11 1 7 8) &&
    reads [0x80, 0x05, 0xC1] (.attFunToChan 5 12 1) &&
    reads [0x80, 0x18, 0x94] (.createFun 8 9 4) &&
    reads [0x80, 0x24, 0xA0] (.createLink 4 10 0) &&
    reads [0x80, 0x3D, 0xAD] (.delFun 13 10 13) = true := by decide +kernel

theorem test_decode_Message2 :
    reads [0x80, 0x48, 0x58] (.delMsg 8 5 8) &&
    reads [0x80, 0x5F, 0x6F] (.disableChanInt 15 6 15) &&
    reads [0x80, 0x6C, 0x46] (.disableFun 12 4 6) &&
    reads [0x80, 0x79, 0x65] (.enableChanInt 9 6 5) &&
    reads [0x80, 0x8D, 0x0B] (.enableFun 13 0 11) &&
    reads [0x80, 0xB2, 0xB3] (.sendToHardware 2 11 3) &&
    reads [0x80, 0xCA, 0xBE] (.setFunIntVector 10 11 14) &&
    reads [0x90, 0x0C, 0xF2, 0x89] (.copyLink 12 15 2 8 9) = true := by decide +kernel

theorem test_decode_Message3 :
    reads [0x90, 0x28, 0xDA, 0x00] (.passLink 8 13 10 0 0) &&
    reads [0x90, 0x3E, 0x98, 0x9D] (.rcv 14 9 8 9 13) &&
    reads [0x90, 0x4F, 0x35, 0xED] (.rcvChan 15 3 5 14 13) &&
    reads [0x90, 0x50, 0x5B, 0x26] (.rcvLink 0 5 11 2 6) &&
    reads [0x90, 0x6D, 0xF5, 0x83] (.rcvLinkOnChan 13 15 5 8 3) &&
    reads [0x90, 0x7E, 0x06, 0x1D] (.readFte 14 0 6 1 13) &&
    reads [0x90, 0x85, 0xB1, 0x8C] (.readLte 5 11 1 8 12) &&
    reads [0x90, 0x92, 0x2B, 0xC6] (.send 2 2 11 12 6) = true := by decide +kernel

theorem test_decode_Message4 :
    reads [0x90, 0xAA, 0x7F, 0xE0] (.setLocalPri 10 7 15 14 0) = true := by decide +kernel

theorem test_decode_General1 :
    reads [0x50] (.nop) &&
    reads [0x60, 0x3B] (.readMachId 11) &&
    reads [0x70, 0x00, 0x93] (.memoryMan 0 9 3) &&
    reads [0x70, 0x11, 0x7C] (.modifyPme 1 7 12) &&
    reads [0x60, 0x19] (.readCpuTimer 9) &&
    reads [0x60, 0x23] (.readPme 3) &&
    reads [0x60, 0x46] (.readRealTimer 6) &&
    reads [0x60, 0x5D] (.readStat 13) = true := by decide +kernel

theorem test_decode_General2 :
    reads [0x60, 0x6A] (.writeStat 10) = true := by decide +kernel

/-! ### Ill-formed terms: a mode that the opcode table does not list -/

theorem test_illFormed_DataTransfer1 :
    illFormed (.ld8 (.mA 1 2)) &&
    illFormed (.ld16 (.m9 1 2)) &&
    illFormed (.ld32 (.m7 1 2 3 4)) &&
    illFormed (.ld64 (.mA 1 2)) &&
    illFormed (.ldz8 (.m0 1 2)) &&
    illFormed (.ldz16 (.m1 1 2)) &&
    illFormed (.ldz24 (.mA 1 2)) &&
    illFormed (.ldz32 (.mA 1 2)) = true := by decide +kernel

theorem test_illFormed_DataTransfer2 :
    illFormed (.ldz40 (.m7 1 2 3 4)) &&
    illFormed (.ldz48 (.m0 1 2)) &&
    illFormed (.ldz56 (.m9 1 2)) &&
    illFormed (.st8 (.m9 1 2)) &&
    illFormed (.st16 (.m7 1 2 3 4)) &&
    illFormed (.st24 (.m0 1 2)) &&
    illFormed (.st32 (.m5 1 2 3)) &&
    illFormed (.st40 (.m5 1 2 3)) = true := by decide +kernel

theorem test_illFormed_DataTransfer3 :
    illFormed (.st48 (.m8 1 2)) &&
    illFormed (.st56 (.mA 1 2)) &&
    illFormed (.st64 (.m9 1 2)) &&
    illFormed (.stv8 (.m1 1 2)) &&
    illFormed (.stv16 (.m7 1 2 3 4)) &&
    illFormed (.stv32 (.m8 1 2)) &&
    illFormed (.sti8 (.m0 1 2)) &&
    illFormed (.sti16 (.m8 1 2)) = true := by decide +kernel

theorem test_illFormed_DataTransfer4 :
    illFormed (.sti32 (.m3 1 2 3)) &&
    illFormed (.sti64 (.m9 1 2)) &&
    illFormed (.stin8 (.m5 1 2 3)) &&
    illFormed (.stin16 (.m9 1 2)) &&
    illFormed (.stin32 (.m0 1 2)) &&
    illFormed (.stin64 (.m8 1 2)) = true := by decide +kernel

theorem test_illFormed_Integer1 :
    illFormed (.add16 (.mA 1 2)) &&
    illFormed (.add32 (.m7 1 2 3 4)) &&
    illFormed (.add64 (.m8 1 2)) &&
    illFormed (.adduc64 (.mA 1 2)) &&
    illFormed (.addi64 (.mD 1 2 3)) &&
    illFormed (.div16 (.mA 1 2)) &&
    illFormed (.div32 (.m7 1 2 3 4)) &&
    illFormed (.div64 (.mA 1 2)) = true := by decide +kernel

theorem test_illFormed_Integer2 :
    illFormed (.divr16 (.m0 1 2)) &&
    illFormed (.divr32 (.m7 1 2 3 4)) &&
    illFormed (.divr64 (.mA 1 2)) &&
    illFormed (.rem16 (.m0 1 2)) &&
    illFormed (.rem32 (.m3 1 2 3)) &&
    illFormed (.rem64 (.m8 1 2)) &&
    illFormed (.remr16 (.m0 1 2)) &&
    illFormed (.remr32 (.m5 1 2 3)) = true := by decide +kernel

theorem test_illFormed_Integer3 :
    illFormed (.remr64 (.m0 1 2)) &&
    illFormed (.mul16 (.m3 1 2 3)) &&
    illFormed (.mul32 (.m7 1 2 3 4)) &&
    illFormed (.mul64 (.m8 1 2)) &&
    illFormed (.neg16 (.m9 1 2)) &&
    illFormed (.neg32 (.m5 1 2 3)) &&
    illFormed (.neg64 (.mB 1 2 3)) &&
    illFormed (.sub16 (.m8 1 2)) = true := by decide +kernel

theorem test_illFormed_Integer4 :
    illFormed (.sub32 (.m7 1 2 3 4)) &&
    illFormed (.sub64 (.m8 1 2)) &&
    illFormed (.subr16 (.m1 1 2)) &&
    illFormed (.subr32 (.m1 1 2)) &&
    illFormed (.subr64 (.m9 1 2)) &&
    illFormed (.subuc64 (.mA 1 2)) &&
    illFormed (.subucr64 (.m8 1 2)) &&
    illFormed (.subi64 (.m7 1 2 3 4)) = true := by decide +kernel

theorem test_illFormed_Integer5 :
    illFormed (.sla (.m4 1 2)) &&
    illFormed (.sra (.mB 1 2 3)) = true := by decide +kernel

theorem test_illFormed_Floating1 :
    illFormed (.fadd32 (.m5 1 2 3)) &&
    illFormed (.fadd64 (.m9 1 2)) &&
    illFormed (.fsub32 (.m8 1 2)) &&
    illFormed (.fsub64 (.m7 1 2 3 4)) &&
    illFormed (.fsubr32 (.m0 1 2)) &&
    illFormed (.fsubr64 (.m8 1 2)) &&
    illFormed (.fmul32 (.m8 1 2)) &&
    illFormed (.fmul64 (.m8 1 2)) = true := by decide +kernel

theorem test_illFormed_Floating2 :
    illFormed (.fdiv32 (.m0 1 2)) &&
    illFormed (.fdiv64 (.m0 1 2)) &&
    illFormed (.fdivr32 (.m1 1 2)) &&
    illFormed (.fdivr64 (.m0 1 2)) = true := by decide +kernel

theorem test_illFormed_Logical1 :
    illFormed (.logAnd (.m9 1 2)) &&
    illFormed (.logOr (.mA 1 2)) &&
    illFormed (.logNot (.m9 1 2)) &&
    illFormed (.logXor (.m0 1 2)) &&
    illFormed (.findFirst (.m5 1 2 3)) &&
    illFormed (.rol (.m9 1 2)) &&
    illFormed (.ror (.m1 1 2)) &&
    illFormed (.sll (.m4 1 2)) = true := by decide +kernel

theorem test_illFormed_Logical2 :
    illFormed (.srl (.mA 1 2)) &&
    illFormed (.sll1w16 (.m1 1 2)) &&
    illFormed (.sll1w32 (.m5 1 2 3)) &&
    illFormed (.sll1w64 (.m8 1 2)) &&
    illFormed (.sll2w16 (.m9 1 2)) &&
    illFormed (.sll2w32 (.m0 1 2)) &&
    illFormed (.sll2w64 (.m9 1 2)) &&
    illFormed (.sll3w16 (.m0 1 2)) = true := by decide +kernel

theorem test_illFormed_Logical3 :
    illFormed (.sll3w32 (.m7 1 2 3 4)) &&
    illFormed (.sll3w64 (.m9 1 2)) = true := by decide +kernel

theorem test_illFormed_Relational1 :
    illFormed (.cmpBr8 (.m3 1 2 3) ⟨0, 0⟩) &&
    illFormed (.cmpBr16 (.mA 1 2) ⟨0, 0⟩) &&
    illFormed (.cmpBr32 (.m9 1 2) ⟨0, 0⟩) &&
    illFormed (.cmpBr64 (.m1 1 2) ⟨0, 0⟩) &&
    illFormed (.cmpuBr8 (.m5 1 2 3) ⟨0, 0⟩) &&
    illFormed (.cmpuBr16 (.m3 1 2 3) ⟨0, 0⟩) &&
    illFormed (.cmpuBr32 (.m7 1 2 3 4) ⟨0, 0⟩) &&
    illFormed (.cmpuBr64 (.m1 1 2) ⟨0, 0⟩) = true := by decide +kernel

theorem test_illFormed_Relational2 :
    illFormed (.cmp8 (.m0 1 2) ⟨0, 0⟩) &&
    illFormed (.cmp16 (.m0 1 2) ⟨0, 0⟩) &&
    illFormed (.cmp32 (.m7 1 2 3 4) ⟨0, 0⟩) &&
    illFormed (.cmp64 (.m0 1 2) ⟨0, 0⟩) &&
    illFormed (.cmpu8 (.m3 1 2 3) ⟨0, 0⟩) &&
    illFormed (.cmpu16 (.mA 1 2) ⟨0, 0⟩) &&
    illFormed (.cmpu32 (.m8 1 2) ⟨0, 0⟩) &&
    illFormed (.cmpu64 (.m1 1 2) ⟨0, 0⟩) = true := by decide +kernel

theorem test_illFormed_Relational3 :
    illFormed (.fcmpBr32 (.m0 1 2) ⟨0, 0⟩) &&
    illFormed (.fcmpBr64 (.m7 1 2 3 4) ⟨0, 0⟩) &&
    illFormed (.fcmpxBr32 (.m9 1 2) ⟨0, 0⟩) &&
    illFormed (.fcmpxBr64 (.m9 1 2) ⟨0, 0⟩) &&
    illFormed (.fcmp32 (.m1 1 2) ⟨0, 0⟩) &&
    illFormed (.fcmp64 (.mA 1 2) ⟨0, 0⟩) &&
    illFormed (.fcmpx32 (.mA 1 2) ⟨0, 0⟩) &&
    illFormed (.fcmpx64 (.m8 1 2) ⟨0, 0⟩) = true := by decide +kernel

theorem test_illFormed_Conversion1 :
    illFormed (.cvtDe (.m7 1 2 3 4)) &&
    illFormed (.cvtDi (.m5 1 2 3)) &&
    illFormed (.cvtDs (.mA 1 2)) &&
    illFormed (.cvtId (.m5 1 2 3)) &&
    illFormed (.cvtIs (.m8 1 2)) &&
    illFormed (.cvtSd (.m8 1 2)) &&
    illFormed (.cvtSi (.m1 1 2)) &&
    illFormed (.cvtSe (.m1 1 2)) = true := by decide +kernel

theorem test_illFormed_Conversion2 :
    illFormed (.finp32 (.m8 1 2)) &&
    illFormed (.finp64 (.mA 1 2)) = true := by decide +kernel

/-! ### One step -/

/-- D98B9032 | RB=2000000000000000 R9=100020 M100052=8000 | RB=0 b17 -/
theorem test_mul16 : runs (start 0x10000 0x0 [(11, 0x2000000000000000), (9, 0x100020)] [(0x100052, [0x80, 0x00])] [0xD9, 0x8B, 0x90, 0x32])
    (fun t => t.reg 11 == 0x0 && t.pswBit 17 && t.pc == 0x10004) = true := by decide +kernel

/-- 0A66 | R6=B3 C=1 | R6=FFFFFFFFFFFFFFFF C=0 nb17 -/
theorem test_sub64 : runs (start 0x10000 0x40000000000000 [(6, 0xB3)] [] [0x0A, 0x66])
    (fun t => t.reg 6 == 0xFFFFFFFFFFFFFFFF && !t.pswBit 9 && !t.pswBit 17 && t.pc == 0x10002) = true := by decide +kernel

/-- 31A666 | R6=B3 C=1 | R6=FFFFFFFFFFFFFFFF C=1 -/
theorem test_subuc64 : runs (start 0x10000 0x40000000000000 [(6, 0xB3)] [] [0x31, 0xA6, 0x66])
    (fun t => t.reg 6 == 0xFFFFFFFFFFFFFFFF && t.pswBit 9 && t.pc == 0x10003) = true := by decide +kernel

/-- 70B123 | R2=3030303030303031 R3=3030303030303033 CD=0 | R1=3939393939393938 CD=1 -/
theorem test_asciiSubc : runs (start 0x10000 0x0 [(2, 0x3030303030303031), (3, 0x3030303030303033)] [] [0x70, 0xB1, 0x23])
    (fun t => t.reg 1 == 0x3939393939393938 && t.pswBit 10 && t.pc == 0x10003) = true := by decide +kernel

/-- 90E12340 | R2=3030303030303031 R3=3030303030303030 CD=1 | R1=3030303030303030 R4=0 CD=0 -/
theorem test_asciiSub : runs (start 0x10000 0x20000000000000 [(2, 0x3030303030303031), (3, 0x3030303030303030)] [] [0x90, 0xE1, 0x23, 0x40])
    (fun t => t.reg 1 == 0x3030303030303030 && t.reg 4 == 0x0 && !t.pswBit 10 && t.pc == 0x10004) = true := by decide +kernel

/-- 3D7103 | R3=0008000000000000 | R1=3C00000000000000 R2=8000000000000000 psw=0 -/
theorem test_cvtDe : runs (start 0x10000 0x0 [(3, 0x0008000000000000)] [] [0x3D, 0x71, 0x03])
    (fun t => t.reg 1 == 0x3C00000000000000 && t.reg 2 == 0x8000000000000000 && t.psw == 0x0 && t.pc == 0x10003) = true := by decide +kernel

/-- 3D7103 | R3=7FF8000000000000 | b27 R1=7FFF000000000000 R2=8000010000000000 -/
theorem test_cvtDe_2 : runs (start 0x10000 0x0 [(3, 0x7FF8000000000000)] [] [0x3D, 0x71, 0x03])
    (fun t => t.pswBit 27 && t.reg 1 == 0x7FFF000000000000 && t.reg 2 == 0x8000010000000000 && t.pc == 0x10003) = true := by decide +kernel

/-- 3CF102 | R2=ABCDEF0140200000 | R1=40000000 b29 -/
theorem test_finp32 : runs (start 0x10000 0x0 [(2, 0xABCDEF0140200000)] [] [0x3C, 0xF1, 0x02])
    (fun t => t.reg 1 == 0x40000000 && t.pswBit 29 && t.pc == 0x10003) = true := by decide +kernel

/-- 3C3101 | R1=40000000 | R1=2 -/
theorem test_cvtSi : runs (start 0x10000 0x0 [(1, 0x40000000)] [] [0x3C, 0x31, 0x01])
    (fun t => t.reg 1 == 0x2 && t.pc == 0x10003) = true := by decide +kernel

/-- 3BC123 | R3=0 R1=5 | b19 R1=5 +3 -/
theorem test_div64 : runs (start 0x10000 0x0 [(3, 0x0), (1, 0x5)] [] [0x3B, 0xC1, 0x23])
    (fun t => t.pswBit 19 && t.reg 1 == 0x5 && t.pc == 0x10003) = true := by decide +kernel

/-- 3BC123 | R2=8000000000000000 R3=FFFFFFFFFFFFFFFF | R1=8000000000000000 b17 -/
theorem test_div64_2 : runs (start 0x10000 0x0 [(2, 0x8000000000000000), (3, 0xFFFFFFFFFFFFFFFF)] [] [0x3B, 0xC1, 0x23])
    (fun t => t.reg 1 == 0x8000000000000000 && t.pswBit 17 && t.pc == 0x10003) = true := by decide +kernel

/-- 51312001 | R2=FFFFFFFFFFFFFFFD | R1=FFFFFFFFFFFFFFFE -/
theorem test_sra : runs (start 0x10000 0x0 [(2, 0xFFFFFFFFFFFFFFFD)] [] [0x51, 0x31, 0x20, 0x01])
    (fun t => t.reg 1 == 0xFFFFFFFFFFFFFFFE && t.pc == 0x10004) = true := by decide +kernel

/-- 3BE123 | R2=FFFFFFFFFFFFFFF9 R3=3 | R1=FFFFFFFFFFFFFFFF -/
theorem test_rem64 : runs (start 0x10000 0x0 [(2, 0xFFFFFFFFFFFFFFF9), (3, 0x3)] [] [0x3B, 0xE1, 0x23])
    (fun t => t.reg 1 == 0xFFFFFFFFFFFFFFFF && t.pc == 0x10003) = true := by decide +kernel

/-- 3BE123 | R2=8000000000000000 R3=FFFFFFFFFFFFFFFF | R1=0 nb17 -/
theorem test_rem64_2 : runs (start 0x10000 0x0 [(2, 0x8000000000000000), (3, 0xFFFFFFFFFFFFFFFF)] [] [0x3B, 0xE1, 0x23])
    (fun t => t.reg 1 == 0x0 && !t.pswBit 17 && t.pc == 0x10003) = true := by decide +kernel

/-- 0431 | R3=9 C=1 | R3=A C=0 -/
theorem test_addi64 : runs (start 0x10000 0x40000000000000 [(3, 0x9)] [] [0x04, 0x31])
    (fun t => t.reg 3 == 0xA && !t.pswBit 9 && t.pc == 0x10002) = true := by decide +kernel

/-- 1430 | R3=9 C=1 | R3=8 C=0 -/
theorem test_subi64 : runs (start 0x10000 0x40000000000000 [(3, 0x9)] [] [0x14, 0x30])
    (fun t => t.reg 3 == 0x8 && !t.pswBit 9 && t.pc == 0x10002) = true := by decide +kernel

/-- 0530 | R3=9 | R3=0 -/
theorem test_sti64 : runs (start 0x10000 0x0 [(3, 0x9)] [] [0x05, 0x30])
    (fun t => t.reg 3 == 0x0 && t.pc == 0x10002) = true := by decide +kernel

/-- 3271231000 | R2=8000000000000000 R3=1 | R1=1 -/
theorem test_cmpu64 : runs (start 0x10000 0x0 [(2, 0x8000000000000000), (3, 0x1)] [] [0x32, 0x71, 0x23, 0x10, 0x00])
    (fun t => t.reg 1 == 0x1 && t.pc == 0x10005) = true := by decide +kernel

/-- 3231231000 | R2=8000000000000000 R3=1 | R1=0 -/
theorem test_cmp64 : runs (start 0x10000 0x0 [(2, 0x8000000000000000), (3, 0x1)] [] [0x32, 0x31, 0x23, 0x10, 0x00])
    (fun t => t.reg 1 == 0x0 && t.pc == 0x10005) = true := by decide +kernel

/-- 523020004807 | R2=FFFFFFFFFFFFFFFF R0=3 | b57 R0=3 +6 -/
theorem test_cmp64_2 : runs (start 0x10000 0x0 [(2, 0xFFFFFFFFFFFFFFFF), (0, 0x3)] [] [0x52, 0x30, 0x20, 0x00, 0x48, 0x07])
    (fun t => t.pswBit 57 && t.reg 0 == 0x3 && t.pc == 0x10006) = true := by decide +kernel

/-- E08E0000010007 |  | RE=10007 pc=10007 -/
theorem test_callReg : runs (start 0x10000 0x0 [] [] [0xE0, 0x8E, 0x00, 0x00, 0x01, 0x00, 0x07])
    (fun t => t.reg 14 == 0x10007 && t.pc == 0x10007) = true := by decide +kernel

/-- 31E102 | R2=5 | R1=FFFFFFFFFFFFFFFA -/
theorem test_logNot : runs (start 0x10000 0x0 [(2, 0x5)] [] [0x31, 0xE1, 0x02])
    (fun t => t.reg 1 == 0xFFFFFFFFFFFFFFFA && t.pc == 0x10003) = true := by decide +kernel

/-- 0125 | R2=77 | R5=77 +2 -/
theorem test_ld64 : runs (start 0x10000 0x0 [(2, 0x77)] [] [0x01, 0x25])
    (fun t => t.reg 5 == 0x77 && t.pc == 0x10002) = true := by decide +kernel

/-- 3B9412 | R1=5 R2=6 C=1 | R4=C C=0 +3 -/
theorem test_add64 : runs (start 0x10000 0x40000000000000 [(1, 0x5), (2, 0x6)] [] [0x3B, 0x94, 0x12])
    (fun t => t.reg 4 == 0xC && !t.pswBit 9 && t.pc == 0x10003) = true := by decide +kernel

/-- 8123 | RF=2000 M2008=80000000 | R3=FFFFFFFF80000000 +2 -/
theorem test_ld32 : runs (start 0x10000 0x0 [(15, 0x2000)] [(0x2008, [0x80, 0x00, 0x00, 0x00])] [0x81, 0x23])
    (fun t => t.reg 3 == 0xFFFFFFFF80000000 && t.pc == 0x10002) = true := by decide +kernel

/-- D812F004 | RF=7FFC0 M7FFC4=80 | R2=80 -/
theorem test_ldz8 : runs (start 0x10000 0x0 [(15, 0x7FFC0)] [(0x7FFC4, [0x80])] [0xD8, 0x12, 0xF0, 0x04])
    (fun t => t.reg 2 == 0x80 && t.pc == 0x10004) = true := by decide +kernel

/-- BB1305 | R5=2000 M2000=ABCDEF | R3=ABCDEF -/
theorem test_ldz24 : runs (start 0x10000 0x0 [(5, 0x2000)] [(0x2000, [0xAB, 0xCD, 0xEF])] [0xBB, 0x13, 0x05])
    (fun t => t.reg 3 == 0xABCDEF && t.pc == 0x10003) = true := by decide +kernel

/-- 46351000 | R5=0123456789ABCDEF | M1000=0123456789ABCDEF -/
theorem test_st64 : runs (start 0x10000 0x0 [(5, 0x0123456789ABCDEF)] [] [0x46, 0x35, 0x10, 0x00])
    (fun t => readBytes t.mem 0x1000 8 == [0x01, 0x23, 0x45, 0x67, 0x89, 0xAB, 0xCD, 0xEF] && t.pc == 0x10004) = true := by decide +kernel

/-- B6C407 | R4=1122334455667788 R7=2000 | M2000=667788 R4=1122334455667788 -/
theorem test_st24 : runs (start 0x10000 0x0 [(4, 0x1122334455667788), (7, 0x2000)] [] [0xB6, 0xC4, 0x07])
    (fun t => readBytes t.mem 0x2000 3 == [0x66, 0x77, 0x88] && t.reg 4 == 0x1122334455667788 && t.pc == 0x10003) = true := by decide +kernel

/-- B64407 | R4=80 R7=2000 | M2000=80 b17 -/
theorem test_stv8 : runs (start 0x10000 0x0 [(4, 0x80), (7, 0x2000)] [] [0xB6, 0x44, 0x07])
    (fun t => readBytes t.mem 0x2000 1 == [0x80] && t.pswBit 17 && t.pc == 0x10003) = true := by decide +kernel

/-- B66407 | R4=80000000 R7=2000 | M2000=80000000 b17 -/
theorem test_stv32 : runs (start 0x10000 0x0 [(4, 0x80000000), (7, 0x2000)] [] [0xB6, 0x64, 0x07])
    (fun t => readBytes t.mem 0x2000 4 == [0x80, 0x00, 0x00, 0x00] && t.pswBit 17 && t.pc == 0x10003) = true := by decide +kernel

/-- B51A07 | R7=2000 | M2000=000A -/
theorem test_sti16 : runs (start 0x10000 0x0 [(7, 0x2000)] [] [0xB5, 0x1A, 0x07])
    (fun t => readBytes t.mem 0x2000 2 == [0x00, 0x0A] && t.pc == 0x10003) = true := by decide +kernel

/-- 1520 |  | R2=FFFFFFFFFFFFFFFF -/
theorem test_stin64 : runs (start 0x10000 0x0 [] [] [0x15, 0x20])
    (fun t => t.reg 2 == 0xFFFFFFFFFFFFFFFF && t.pc == 0x10002) = true := by decide +kernel

/-- B55F07 | R7=2000 | M2000=FFF0 -/
theorem test_stin16 : runs (start 0x10000 0x0 [(7, 0x2000)] [] [0xB5, 0x5F, 0x07])
    (fun t => readBytes t.mem 0x2000 2 == [0xFF, 0xF0] && t.pc == 0x10003) = true := by decide +kernel

/-- D061030838 | R3=00F0000000000000 | R1=FFFFFFFFFFFFFFF0 -/
theorem test_extract : runs (start 0x10000 0x0 [(3, 0x00F0000000000000)] [] [0xD0, 0x61, 0x03, 0x08, 0x38])
    (fun t => t.reg 1 == 0xFFFFFFFFFFFFFFF0 && t.pc == 0x10005) = true := by decide +kernel

/-- D071030838 | R3=00F0000000000000 | R1=F0 -/
theorem test_extractz : runs (start 0x10000 0x0 [(3, 0x00F0000000000000)] [] [0xD0, 0x71, 0x03, 0x08, 0x38])
    (fun t => t.reg 1 == 0xF0 && t.pc == 0x10005) = true := by decide +kernel

/-- D051230808 | R2=FFFFFFFFFFFFFFFF R3=12 | R1=FF12FFFFFFFFFFFF R2=FFFFFFFFFFFFFFFF R3=12 -/
theorem test_insert : runs (start 0x10000 0x0 [(2, 0xFFFFFFFFFFFFFFFF), (3, 0x12)] [] [0xD0, 0x51, 0x23, 0x08, 0x08])
    (fun t => t.reg 1 == 0xFF12FFFFFFFFFFFF && t.reg 2 == 0xFFFFFFFFFFFFFFFF && t.reg 3 == 0x12 && t.pc == 0x10005) = true := by decide +kernel

/-- 702104 | R1=1 R4=2000 M2000=0000000000000000 | M2000=0000000000000001 R1=0 -/
theorem test_exch : runs (start 0x10000 0x0 [(1, 0x1), (4, 0x2000)] [(0x2000, [0x00, 0x00, 0x00, 0x00, 0x00, 0x00, 0x00, 0x00])] [0x70, 0x21, 0x04])
    (fun t => readBytes t.mem 0x2000 8 == [0x00, 0x00, 0x00, 0x00, 0x00, 0x00, 0x00, 0x01] && t.reg 1 == 0x0 && t.pc == 0x10003) = true := by decide +kernel

/-- 703104 | R1=F0 R4=2000 M2000=00000000000000FF | M2000=00000000000000F0 R1=FF -/
theorem test_exchAnd : runs (start 0x10000 0x0 [(1, 0xF0), (4, 0x2000)] [(0x2000, [0x00, 0x00, 0x00, 0x00, 0x00, 0x00, 0x00, 0xFF])] [0x70, 0x31, 0x04])
    (fun t => readBytes t.mem 0x2000 8 == [0x00, 0x00, 0x00, 0x00, 0x00, 0x00, 0x00, 0xF0] && t.reg 1 == 0xFF && t.pc == 0x10003) = true := by decide +kernel

/-- 704104 | R1=1 R4=2000 M2000=0000000000000001 | M2000=0000000000000001 R1=1 -/
theorem test_exchOr : runs (start 0x10000 0x0 [(1, 0x1), (4, 0x2000)] [(0x2000, [0x00, 0x00, 0x00, 0x00, 0x00, 0x00, 0x00, 0x01])] [0x70, 0x41, 0x04])
    (fun t => readBytes t.mem 0x2000 8 == [0x00, 0x00, 0x00, 0x00, 0x00, 0x00, 0x00, 0x01] && t.reg 1 == 0x1 && t.pc == 0x10003) = true := by decide +kernel

/-- 706123 | R1=2001 R2=2000 R3=4 M2000=4142434445 | M2001=41424344 -/
theorem test_copyb : runs (start 0x10000 0x0 [(1, 0x2001), (2, 0x2000), (3, 0x4)] [(0x2000, [0x41, 0x42, 0x43, 0x44, 0x45])] [0x70, 0x61, 0x23])
    (fun t => readBytes t.mem 0x2001 4 == [0x41, 0x42, 0x43, 0x44] && t.pc == 0x10003) = true := by decide +kernel

/-- 707123 | R1=2000 R2=4142434445464748 R3=A | M2000=41424344454647484142 R2=4142434445464748 -/
theorem test_copybConst : runs (start 0x10000 0x0 [(1, 0x2000), (2, 0x4142434445464748), (3, 0xA)] [] [0x70, 0x71, 0x23])
    (fun t => readBytes t.mem 0x2000 10 == [0x41, 0x42, 0x43, 0x44, 0x45, 0x46, 0x47, 0x48, 0x41, 0x42] && t.reg 2 == 0x4142434445464748 && t.pc == 0x10003) = true := by decide +kernel

/-- 49912000 | R1=1 M2000=8000 | R1=FFFFFFFFFFFF8001 -/
theorem test_add16 : runs (start 0x10000 0x0 [(1, 0x1)] [(0x2000, [0x80, 0x00])] [0x49, 0x91, 0x20, 0x00])
    (fun t => t.reg 1 == 0xFFFFFFFFFFFF8001 && t.pc == 0x10004) = true := by decide +kernel

/-- 319402 | R0=FFFFFFFFFFFFFFFF R2=1 | R4=0 C=1 nb17 -/
theorem test_adduc64 : runs (start 0x10000 0x0 [(0, 0xFFFFFFFFFFFFFFFF), (2, 0x1)] [] [0x31, 0x94, 0x02])
    (fun t => t.reg 4 == 0x0 && t.pswBit 9 && !t.pswBit 17 && t.pc == 0x10003) = true := by decide +kernel

/-- 5BB12000 | R2=5 | R1=FFFFFFFFFFFFFFFB -/
theorem test_subr64 : runs (start 0x10000 0x0 [(2, 0x5)] [] [0x5B, 0xB1, 0x20, 0x00])
    (fun t => t.reg 1 == 0xFFFFFFFFFFFFFFFB && t.pc == 0x10004) = true := by decide +kernel

/-- 51B12000 | R2=1 | R1=FFFFFFFFFFFFFFFF C=1 -/
theorem test_subucr64 : runs (start 0x10000 0x0 [(2, 0x1)] [] [0x51, 0xB1, 0x20, 0x00])
    (fun t => t.reg 1 == 0xFFFFFFFFFFFFFFFF && t.pswBit 9 && t.pc == 0x10004) = true := by decide +kernel

/-- 3B8123 | R2=100000000 R3=100000000 | R1=0 b17 -/
theorem test_mul64 : runs (start 0x10000 0x0 [(2, 0x100000000), (3, 0x100000000)] [] [0x3B, 0x81, 0x23])
    (fun t => t.reg 1 == 0x0 && t.pswBit 17 && t.pc == 0x10003) = true := by decide +kernel

/-- B03412 | R1=FFFFFFFFFFFFFFFF R2=FFFFFFFFFFFFFFFF | R4=FFFFFFFFFFFFFFFE R5=1 -/
theorem test_mulu128 : runs (start 0x10000 0x0 [(1, 0xFFFFFFFFFFFFFFFF), (2, 0xFFFFFFFFFFFFFFFF)] [] [0xB0, 0x34, 0x12])
    (fun t => t.reg 4 == 0xFFFFFFFFFFFFFFFE && t.reg 5 == 0x1 && t.pc == 0x10003) = true := by decide +kernel

/-- 5BD12064 | R2=7 | R1=E -/
theorem test_divr64 : runs (start 0x10000 0x0 [(2, 0x7)] [] [0x5B, 0xD1, 0x20, 0x64])
    (fun t => t.reg 1 == 0xE && t.pc == 0x10004) = true := by decide +kernel

/-- 5BF1200A | R2=3 | R1=1 -/
theorem test_remr64 : runs (start 0x10000 0x0 [(2, 0x3)] [] [0x5B, 0xF1, 0x20, 0x0A])
    (fun t => t.reg 1 == 0x1 && t.pc == 0x10004) = true := by decide +kernel

/-- 3B2102 | R2=1 C=1 | R1=FFFFFFFFFFFFFFFF C=1 -/
theorem test_neg64 : runs (start 0x10000 0x40000000000000 [(2, 0x1)] [] [0x3B, 0x21, 0x02])
    (fun t => t.reg 1 == 0xFFFFFFFFFFFFFFFF && t.pswBit 9 && t.pc == 0x10003) = true := by decide +kernel

/-- 51212003 | R2=5 | R1=28 -/
theorem test_sla : runs (start 0x10000 0x0 [(2, 0x5)] [] [0x51, 0x21, 0x20, 0x03])
    (fun t => t.reg 1 == 0x28 && t.pc == 0x10004) = true := by decide +kernel

/-- 51212002 | R2=4000000000000000 | R1=0 b17 -/
theorem test_sla_2 : runs (start 0x10000 0x0 [(2, 0x4000000000000000)] [] [0x51, 0x21, 0x20, 0x02])
    (fun t => t.reg 1 == 0x0 && t.pswBit 17 && t.pc == 0x10004) = true := by decide +kernel

/-- 3C9123 | R2=3F800000 R3=40000000 | R1=40400000 psw=0 -/
theorem test_fadd32 : runs (start 0x10000 0x0 [(2, 0x3F800000), (3, 0x40000000)] [] [0x3C, 0x91, 0x23])
    (fun t => t.reg 1 == 0x40400000 && t.psw == 0x0 && t.pc == 0x10003) = true := by decide +kernel

/-- 3C9123 | psw=8000000000000000 R2=3F800000 R3=33800000 | R1=3F800001 b29 -/
theorem test_fadd32_2 : runs (start 0x10000 0x8000000000000000 [(2, 0x3F800000), (3, 0x33800000)] [] [0x3C, 0x91, 0x23])
    (fun t => t.reg 1 == 0x3F800001 && t.pswBit 29 && t.pc == 0x10003) = true := by decide +kernel

/-- 3D9123 | R2=3FF0000000000000 R3=4000000000000000 | R1=4008000000000000 -/
theorem test_fadd64 : runs (start 0x10000 0x0 [(2, 0x3FF0000000000000), (3, 0x4000000000000000)] [] [0x3D, 0x91, 0x23])
    (fun t => t.reg 1 == 0x4008000000000000 && t.pc == 0x10003) = true := by decide +kernel

/-- 3DA123 | R2=4008000000000000 R3=3FF0000000000000 | R1=4000000000000000 -/
theorem test_fsub64 : runs (start 0x10000 0x0 [(2, 0x4008000000000000), (3, 0x3FF0000000000000)] [] [0x3D, 0xA1, 0x23])
    (fun t => t.reg 1 == 0x4000000000000000 && t.pc == 0x10003) = true := by decide +kernel

/-- 7CB1203F800000 | R2=3F000000 | R1=3F000000 -/
theorem test_fsubr32 : runs (start 0x10000 0x0 [(2, 0x3F000000)] [] [0x7C, 0xB1, 0x20, 0x3F, 0x80, 0x00, 0x00])
    (fun t => t.reg 1 == 0x3F000000 && t.pc == 0x10007) = true := by decide +kernel

/-- 3C8123 | R2=40000000 R3=40400000 | R1=40C00000 -/
theorem test_fmul32 : runs (start 0x10000 0x0 [(2, 0x40000000), (3, 0x40400000)] [] [0x3C, 0x81, 0x23])
    (fun t => t.reg 1 == 0x40C00000 && t.pc == 0x10003) = true := by decide +kernel

/-- 3CC123 | R2=3F800000 R3=0 | R1=7F800000 psw=0000004000000000 -/
theorem test_fdiv32 : runs (start 0x10000 0x0 [(2, 0x3F800000), (3, 0x0)] [] [0x3C, 0xC1, 0x23])
    (fun t => t.reg 1 == 0x7F800000 && t.psw == 0x0000004000000000 && t.pc == 0x10003) = true := by decide +kernel

/-- 3CC123 | R2=0 R3=0 | R1=7F800001 b27 -/
theorem test_fdiv32_2 : runs (start 0x10000 0x0 [(2, 0x0), (3, 0x0)] [] [0x3C, 0xC1, 0x23])
    (fun t => t.reg 1 == 0x7F800001 && t.pswBit 27 && t.pc == 0x10003) = true := by decide +kernel

/-- B05123 | R3=4014000000000000 R2=4000000000000000 | R1=2 R3=3FF0000000000000 -/
theorem test_frem64 : runs (start 0x10000 0x0 [(3, 0x4014000000000000), (2, 0x4000000000000000)] [] [0xB0, 0x51, 0x23])
    (fun t => t.reg 1 == 0x2 && t.reg 3 == 0x3FF0000000000000 && t.pc == 0x10003) = true := by decide +kernel

/-- 708123 | R2=3030303030303939 R3=0000000000000031 | R1=3030303030313030 CD=0 -/
theorem test_asciiAdd : runs (start 0x10000 0x0 [(2, 0x3030303030303939), (3, 0x31)] [] [0x70, 0x81, 0x23])
    (fun t => t.reg 1 == 0x3030303030313030 && !t.pswBit 10 && t.pc == 0x10003) = true := by decide +kernel

/-- 709123 | R2=3939393939393939 R3=3030303030303031 | R1=3030303030303030 CD=1 -/
theorem test_asciiAddc : runs (start 0x10000 0x0 [(2, 0x3939393939393939), (3, 0x3030303030303031)] [] [0x70, 0x91, 0x23])
    (fun t => t.reg 1 == 0x3030303030303030 && t.pswBit 10 && t.pc == 0x10003) = true := by decide +kernel

/-- 51C120FF | R2=123456789ABCDEF0 | R1=F0 -/
theorem test_logAnd : runs (start 0x10000 0x0 [(2, 0x123456789ABCDEF0)] [] [0x51, 0xC1, 0x20, 0xFF])
    (fun t => t.reg 1 == 0xF0 && t.pc == 0x10004) = true := by decide +kernel

/-- 31D123 | R2=F0F0000000000000 R3=0F0F000000000001 | R1=FFFF000000000001 -/
theorem test_logOr : runs (start 0x10000 0x0 [(2, 0xF0F0000000000000), (3, 0x0F0F000000000001)] [] [0x31, 0xD1, 0x23])
    (fun t => t.reg 1 == 0xFFFF000000000001 && t.pc == 0x10003) = true := by decide +kernel

/-- 51F11FFF | R1=00FF00FF00FF00FF | R1=FF00FF00FF00FF00 -/
theorem test_logXor : runs (start 0x10000 0x0 [(1, 0x00FF00FF00FF00FF)] [] [0x51, 0xF1, 0x1F, 0xFF])
    (fun t => t.reg 1 == 0xFF00FF00FF00FF00 && t.pc == 0x10004) = true := by decide +kernel

/-- 30513F | R1=0 | R1=1 -/
theorem test_setBit : runs (start 0x10000 0x0 [(1, 0x0)] [] [0x30, 0x51, 0x3F])
    (fun t => t.reg 1 == 0x1 && t.pc == 0x10003) = true := by decide +kernel

/-- 306100 | R1=FFFFFFFFFFFFFFFF | R1=7FFFFFFFFFFFFFFF -/
theorem test_clearBit : runs (start 0x10000 0x0 [(1, 0xFFFFFFFFFFFFFFFF)] [] [0x30, 0x61, 0x00])
    (fun t => t.reg 1 == 0x7FFFFFFFFFFFFFFF && t.pc == 0x10003) = true := by decide +kernel

/-- 30713F | R1=1 | R1=0 -/
theorem test_toggleBit : runs (start 0x10000 0x0 [(1, 0x1)] [] [0x30, 0x71, 0x3F])
    (fun t => t.reg 1 == 0x0 && t.pc == 0x10003) = true := by decide +kernel

/-- 317102 | R2=8000000000000000 | R1=0 -/
theorem test_findFirst : runs (start 0x10000 0x0 [(2, 0x8000000000000000)] [] [0x31, 0x71, 0x02])
    (fun t => t.reg 1 == 0x0 && t.pc == 0x10003) = true := by decide +kernel

/-- 51412004 | R2=8000000000000001 | R1=18 -/
theorem test_rol : runs (start 0x10000 0x0 [(2, 0x8000000000000001)] [] [0x51, 0x41, 0x20, 0x04])
    (fun t => t.reg 1 == 0x18 && t.pc == 0x10004) = true := by decide +kernel

/-- 51512001 | R2=1 | R1=8000000000000000 -/
theorem test_ror : runs (start 0x10000 0x0 [(2, 0x1)] [] [0x51, 0x51, 0x20, 0x01])
    (fun t => t.reg 1 == 0x8000000000000000 && t.pc == 0x10004) = true := by decide +kernel

/-- 51012008 | R2=0123456789ABCDEF | R1=23456789ABCDEF00 -/
theorem test_sll : runs (start 0x10000 0x0 [(2, 0x0123456789ABCDEF)] [] [0x51, 0x01, 0x20, 0x08])
    (fun t => t.reg 1 == 0x23456789ABCDEF00 && t.pc == 0x10004) = true := by decide +kernel

/-- 51112020 | R2=0123456789ABCDEF | R1=01234567 -/
theorem test_srl : runs (start 0x10000 0x0 [(2, 0x0123456789ABCDEF)] [] [0x51, 0x11, 0x20, 0x20])
    (fun t => t.reg 1 == 0x01234567 && t.pc == 0x10004) = true := by decide +kernel

/-- 3B4102 | R2=C000000000000001 | R1=8000000000000002 nb17 -/
theorem test_sll1w64 : runs (start 0x10000 0x0 [(2, 0xC000000000000001)] [] [0x3B, 0x41, 0x02])
    (fun t => t.reg 1 == 0x8000000000000002 && !t.pswBit 17 && t.pc == 0x10003) = true := by decide +kernel

/-- 3330122008 | R1=5 R2=5 | pc=10008 -/
theorem test_cmpBr64 : runs (start 0x10000 0x0 [(1, 0x5), (2, 0x5)] [] [0x33, 0x30, 0x12, 0x20, 0x08])
    (fun t => t.pc == 0x10008) = true := by decide +kernel

/-- 5370100A4FF0 | R1=9 | pc=FFF0 -/
theorem test_cmpuBr64 : runs (start 0x10000 0x0 [(1, 0x9)] [] [0x53, 0x70, 0x10, 0x0A, 0x4F, 0xF0])
    (fun t => t.pc == 0xFFF0) = true := by decide +kernel

/-- B300124008 | R1=FFFFFFFFFFFFFF7F R2=2000 M2000=80 | pc=10008 -/
theorem test_cmpBr8 : runs (start 0x10000 0x0 [(1, 0xFFFFFFFFFFFFFF7F), (2, 0x2000)] [(0x2000, [0x80])] [0xB3, 0x00, 0x12, 0x40, 0x08])
    (fun t => t.pc == 0x10008) = true := by decide +kernel

/-- B340124008 | R1=7F R2=2000 M2000=80 | pc=10008 -/
theorem test_cmpuBr8 : runs (start 0x10000 0x0 [(1, 0x7F), (2, 0x2000)] [(0x2000, [0x80])] [0xB3, 0x40, 0x12, 0x40, 0x08])
    (fun t => t.pc == 0x10008) = true := by decide +kernel

/-- 33B0121020 | R1=4000000000000000 R2=3FF0000000000000 | pc=10020 -/
theorem test_fcmpxBr64 : runs (start 0x10000 0x0 [(1, 0x4000000000000000), (2, 0x3FF0000000000000)] [] [0x33, 0xB0, 0x12, 0x10, 0x20])
    (fun t => t.pc == 0x10020) = true := by decide +kernel

/-- 33B0121020 | R1=7FF4000000000000 R2=3FF0000000000000 | b27 pc=10005 -/
theorem test_fcmpxBr64_2 : runs (start 0x10000 0x0 [(1, 0x7FF4000000000000), (2, 0x3FF0000000000000)] [] [0x33, 0xB0, 0x12, 0x10, 0x20])
    (fun t => t.pswBit 27 && t.pc == 0x10005) = true := by decide +kernel

/-- 3390121020 | R1=7FF4000000000000 R2=3FF0000000000000 | psw=0 pc=10005 -/
theorem test_fcmpBr64 : runs (start 0x10000 0x0 [(1, 0x7FF4000000000000), (2, 0x3FF0000000000000)] [] [0x33, 0x90, 0x12, 0x10, 0x20])
    (fun t => t.psw == 0x0 && t.pc == 0x10005) = true := by decide +kernel

/-- 3390129020 | R1=7FF8000000000000 R2=3FF0000000000000 | b27 pc=10020 -/
theorem test_fcmpBr64_2 : runs (start 0x10000 0x0 [(1, 0x7FF8000000000000), (2, 0x3FF0000000000000)] [] [0x33, 0x90, 0x12, 0x90, 0x20])
    (fun t => t.pswBit 27 && t.pc == 0x10020) = true := by decide +kernel

/-- 3291236000 | R2=3FF0000000000000 R3=3FF0000000000000 | R1=1 -/
theorem test_fcmp64 : runs (start 0x10000 0x0 [(2, 0x3FF0000000000000), (3, 0x3FF0000000000000)] [] [0x32, 0x91, 0x23, 0x60, 0x00])
    (fun t => t.reg 1 == 0x1 && t.pc == 0x10005) = true := by decide +kernel

/-- 32B1238000 | R2=7FF4000000000000 R3=3FF0000000000000 | R1=1 b27 -/
theorem test_fcmpx64 : runs (start 0x10000 0x0 [(2, 0x7FF4000000000000), (3, 0x3FF0000000000000)] [] [0x32, 0xB1, 0x23, 0x80, 0x00])
    (fun t => t.reg 1 == 0x1 && t.pswBit 27 && t.pc == 0x10005) = true := by decide +kernel

/-- 705123 | R1=2000 R2=2010 R3=3 M2000=414243 M2010=414244 | R1=FFFFFFFFFFFFFFFF +3 -/
theorem test_cmpbTest : runs (start 0x10000 0x0 [(1, 0x2000), (2, 0x2010), (3, 0x3)] [(0x2000, [0x41, 0x42, 0x43]), (0x2010, [0x41, 0x42, 0x44])] [0x70, 0x51, 0x23])
    (fun t => t.reg 1 == 0xFFFFFFFFFFFFFFFF && t.pc == 0x10003) = true := by decide +kernel

/-- D00123200C | R1=2000 R2=2010 R3=3 M2000=414243 M2010=414243 | pc=1000C -/
theorem test_cmpbBr : runs (start 0x10000 0x0 [(1, 0x2000), (2, 0x2010), (3, 0x3)] [(0x2000, [0x41, 0x42, 0x43]), (0x2010, [0x41, 0x42, 0x43])] [0xD0, 0x01, 0x23, 0x20, 0x0C])
    (fun t => t.pc == 0x1000C) = true := by decide +kernel

/-- D01123200C | R1=2000 R2=2020202020202020 R3=A M2000=20202020202020202020 | pc=1000C R2=2020202020202020 -/
theorem test_cmpbBrConst : runs (start 0x10000 0x0 [(1, 0x2000), (2, 0x2020202020202020), (3, 0xA)] [(0x2000, [0x20, 0x20, 0x20, 0x20, 0x20, 0x20, 0x20, 0x20, 0x20, 0x20])] [0xD0, 0x11, 0x23, 0x20, 0x0C])
    (fun t => t.pc == 0x1000C && t.reg 2 == 0x2020202020202020) = true := by decide +kernel

/-- 70C102 | R2=3030303030313233 | R1=7B -/
theorem test_cvtAi : runs (start 0x10000 0x0 [(2, 0x3030303030313233)] [] [0x70, 0xC1, 0x02])
    (fun t => t.reg 1 == 0x7B && t.pc == 0x10003) = true := by decide +kernel

/-- 70D102 | R2=7B | R1=3030303030313233 -/
theorem test_cvtIa : runs (start 0x10000 0x0 [(2, 0x7B)] [] [0x70, 0xD1, 0x02])
    (fun t => t.reg 1 == 0x3030303030313233 && t.pc == 0x10003) = true := by decide +kernel

/-- 3D3102 | R2=C004000000000000 | R1=FFFFFFFFFFFFFFFE -/
theorem test_cvtDi : runs (start 0x10000 0x0 [(2, 0xC004000000000000)] [] [0x3D, 0x31, 0x02])
    (fun t => t.reg 1 == 0xFFFFFFFFFFFFFFFE && t.pc == 0x10003) = true := by decide +kernel

/-- 3D3102 | R2=43E0000000000000 | R1=8000000000000000 b17 -/
theorem test_cvtDi_2 : runs (start 0x10000 0x0 [(2, 0x43E0000000000000)] [] [0x3D, 0x31, 0x02])
    (fun t => t.reg 1 == 0x8000000000000000 && t.pswBit 17 && t.pc == 0x10003) = true := by decide +kernel

/-- 3D6102 | R2=3FF8000000000000 | R1=3FC00000 -/
theorem test_cvtDs : runs (start 0x10000 0x0 [(2, 0x3FF8000000000000)] [] [0x3D, 0x61, 0x02])
    (fun t => t.reg 1 == 0x3FC00000 && t.pc == 0x10003) = true := by decide +kernel

/-- 3D6102 | R2=3FD5555555555555 | R1=3EAAAAAB b29 -/
theorem test_cvtDs_2 : runs (start 0x10000 0x0 [(2, 0x3FD5555555555555)] [] [0x3D, 0x61, 0x02])
    (fun t => t.reg 1 == 0x3EAAAAAB && t.pswBit 29 && t.pc == 0x10003) = true := by decide +kernel

/-- F07102 | R2=4000000000000000 R3=C000000000000000 | R1=4008000000000000 -/
theorem test_cvtEd : runs (start 0x10000 0x0 [(2, 0x4000000000000000), (3, 0xC000000000000000)] [] [0xF0, 0x71, 0x02])
    (fun t => t.reg 1 == 0x4008000000000000 && t.pc == 0x10003) = true := by decide +kernel

/-- 3D2102 | R2=3 | R1=4008000000000000 -/
theorem test_cvtId : runs (start 0x10000 0x0 [(2, 0x3)] [] [0x3D, 0x21, 0x02])
    (fun t => t.reg 1 == 0x4008000000000000 && t.pc == 0x10003) = true := by decide +kernel

/-- 3D2102 | R2=7FFFFFFFFFFFFFFF | R1=43E0000000000000 b29 -/
theorem test_cvtId_2 : runs (start 0x10000 0x0 [(2, 0x7FFFFFFFFFFFFFFF)] [] [0x3D, 0x21, 0x02])
    (fun t => t.reg 1 == 0x43E0000000000000 && t.pswBit 29 && t.pc == 0x10003) = true := by decide +kernel

/-- 3C2102 | R2=01000001 | R1=4B800000 b29 -/
theorem test_cvtIs : runs (start 0x10000 0x0 [(2, 0x01000001)] [] [0x3C, 0x21, 0x02])
    (fun t => t.reg 1 == 0x4B800000 && t.pswBit 29 && t.pc == 0x10003) = true := by decide +kernel

/-- F02103 | R3=FFFFFFFFFFFFFFFF | R1=BFFF000000000000 R2=8000000000000000 -/
theorem test_cvtIe : runs (start 0x10000 0x0 [(3, 0xFFFFFFFFFFFFFFFF)] [] [0xF0, 0x21, 0x03])
    (fun t => t.reg 1 == 0xBFFF000000000000 && t.reg 2 == 0x8000000000000000 && t.pc == 0x10003) = true := by decide +kernel

/-- 3C6102 | R2=AAAAAAAA3F800000 | R1=3FF0000000000000 -/
theorem test_cvtSd : runs (start 0x10000 0x0 [(2, 0xAAAAAAAA3F800000)] [] [0x3C, 0x61, 0x02])
    (fun t => t.reg 1 == 0x3FF0000000000000 && t.pc == 0x10003) = true := by decide +kernel

/-- 3C6102 | R2=7FC00000 | b27 R1=7FF0000020000000 -/
theorem test_cvtSd_2 : runs (start 0x10000 0x0 [(2, 0x7FC00000)] [] [0x3C, 0x61, 0x02])
    (fun t => t.pswBit 27 && t.reg 1 == 0x7FF0000020000000 && t.pc == 0x10003) = true := by decide +kernel

/-- 3DF102 | R2=4004000000000000 | R1=4000000000000000 b29 -/
theorem test_finp64 : runs (start 0x10000 0x0 [(2, 0x4004000000000000)] [] [0x3D, 0xF1, 0x02])
    (fun t => t.reg 1 == 0x4000000000000000 && t.pswBit 29 && t.pc == 0x10003) = true := by decide +kernel

/-- E0700000012000 |  | pc=12000 -/
theorem test_brAbs : runs (start 0x10000 0x0 [] [] [0xE0, 0x70, 0x00, 0x00, 0x01, 0x20, 0x00])
    (fun t => t.pc == 0x12000) = true := by decide +kernel

/-- E0F000FFFFFFF0 |  | pc=FFF0 -/
theorem test_brRel : runs (start 0x10000 0x0 [] [] [0xE0, 0xF0, 0x00, 0xFF, 0xFF, 0xFF, 0xF0])
    (fun t => t.pc == 0xFFF0) = true := by decide +kernel

/-- A006 | pc=10010 | pc=1000A -/
theorem test_brBackward : runs (start 0x10010 0x0 [] [] [0xA0, 0x06])
    (fun t => t.pc == 0x1000A) = true := by decide +kernel

/-- 2002 |  | pc=10002 -/
theorem test_brForward : runs (start 0x10000 0x0 [] [] [0x20, 0x02])
    (fun t => t.pc == 0x10002) = true := by decide +kernel

/-- E0130000002000 | R3=1 | pc=2000 -/
theorem test_brGtAbs : runs (start 0x10000 0x0 [(3, 0x1)] [] [0xE0, 0x13, 0x00, 0x00, 0x00, 0x20, 0x00])
    (fun t => t.pc == 0x2000) = true := by decide +kernel

/-- E0230000002000 | R3=100000000 | pc=10007 -/
theorem test_brEqAbs : runs (start 0x10000 0x0 [(3, 0x100000000)] [] [0xE0, 0x23, 0x00, 0x00, 0x00, 0x20, 0x00])
    (fun t => t.pc == 0x10007) = true := by decide +kernel

/-- E0C500FFFFFF00 | pc=10100 R5=FFFFFFFFFFFFFFFF | pc=10000 -/
theorem test_brLtRel : runs (start 0x10100 0x0 [(5, 0xFFFFFFFFFFFFFFFF)] [] [0xE0, 0xC5, 0x00, 0xFF, 0xFF, 0xFF, 0x00])
    (fun t => t.pc == 0x10000) = true := by decide +kernel

/-- B0910A | pc=10020 R1=5 | pc=10016 -/
theorem test_brBGtShRel : runs (start 0x10020 0x0 [(1, 0x5)] [] [0xB0, 0x91, 0x0A])
    (fun t => t.pc == 0x10016) = true := by decide +kernel

/-- 30A210 | R2=0 | pc=10010 -/
theorem test_brFEqShRel : runs (start 0x10000 0x0 [(2, 0x0)] [] [0x30, 0xA2, 0x10])
    (fun t => t.pc == 0x10010) = true := by decide +kernel

/-- 600E | RE=FFFFFFFF00010007 | pc=10007 -/
theorem test_brReg : runs (start 0x10000 0x0 [(14, 0xFFFFFFFF00010007)] [] [0x60, 0x0E])
    (fun t => t.pc == 0x10007) = true := by decide +kernel

/-- E0000000020000 | pc=10010 RF=7FFC0 | M7FFC0=00010017 pc=20000 RF=7FFC0 -/
theorem test_call : runs (start 0x10010 0x0 [(15, 0x7FFC0)] [] [0xE0, 0x00, 0x00, 0x00, 0x02, 0x00, 0x00])
    (fun t => readBytes t.mem 0x7FFC0 4 == [0x00, 0x01, 0x00, 0x17] && t.pc == 0x20000 && t.reg 15 == 0x7FFC0) = true := by decide +kernel

/-- 300018 | RF=7FFA8 M7FFC0=00010017 | RF=7FFC0 pc=10017 -/
theorem test_exit : runs (start 0x10000 0x0 [(15, 0x7FFA8)] [(0x7FFC0, [0x00, 0x01, 0x00, 0x17])] [0x30, 0x00, 0x18])
    (fun t => t.reg 15 == 0x7FFC0 && t.pc == 0x10017) = true := by decide +kernel

/-- 000102 | R1=7 R2=DEADBEEF | b57 +3 -/
theorem test_exception : runs (start 0x10000 0x0 [(1, 0x7), (2, 0xDEADBEEF)] [] [0x00, 0x01, 0x02])
    (fun t => t.pswBit 57 && t.pc == 0x10003) = true := by decide +kernel

/-- 50 |  | +1 -/
theorem test_nop : runs (start 0x10000 0x0 [] [] [0x50])
    (fun t => t.pc == 0x10001) = true := by decide +kernel

/-- 6053 | psw=A00000000A8 | R3=A00000000A8 -/
theorem test_readStat : runs (start 0x10000 0xA00000000A8 [] [] [0x60, 0x53])
    (fun t => t.reg 3 == 0xA00000000A8 && t.pc == 0x10002) = true := by decide +kernel

/-- 6063 | R3=4000A000000000A8 | psw=4000A000000000A8 -/
theorem test_writeStat : runs (start 0x10000 0x0 [(3, 0x4000A000000000A8)] [] [0x60, 0x63])
    (fun t => t.psw == 0x4000A000000000A8 && t.pc == 0x10002) = true := by decide +kernel

/-- 6033 |  | b61 -/
theorem test_readMachId : runs (start 0x10000 0x0 [] [] [0x60, 0x33])
    (fun t => t.pswBit 61 && t.pc == 0x10002) = true := by decide +kernel

/-- 700123 |  | b61 -/
theorem test_memoryMan : runs (start 0x10000 0x0 [] [] [0x70, 0x01, 0x23])
    (fun t => t.pswBit 61 && t.pc == 0x10003) = true := by decide +kernel

/-- 701123 |  | b61 -/
theorem test_modifyPme : runs (start 0x10000 0x0 [] [] [0x70, 0x11, 0x23])
    (fun t => t.pswBit 61 && t.pc == 0x10003) = true := by decide +kernel

/-! ### One instruction: messages, exceptions, returns (worked from the rules named) -/

/-- The state at start-up with a stack pointer inside the stack and two registers. -/
def base : State := start 0x10000 0 [(15, 0x7FFC0), (1, 0x11), (2, 0x2000)] [] []

/-- A message of three bytes without a link. -/
def hello : Message := { rci := 0x1234050000420003, data := [0x48, 0x49, 0x21], link := none }

/-- A link to another process with every right. -/
def away : Lte :=
  { toFunnel := 3, rights := 0xFF, toProcess := 7, versionId := 0, linkCode := 0xABCD, linkGrail := 0 }

/-- A link of this process into funnel 5. -/
def home : Lte :=
  { toFunnel := 5, rights := 0xFE, toProcess := Config.processId, versionId := Config.versionId, linkCode := 0xABCD,
    linkGrail := 0 }

/-- Funnel 5 on channel 9, empty. -/
def five : Funnel := { channel := 9, vector := 0x20000, queue := [] }

/-- The base state with funnel 5, link 30 to another process and link 31 into funnel 5. -/
def office : State := ((base.putFunnel 5 five).putLink 30 away).putLink 31 home

/-- A message waiting on funnel 5, and on funnel 1, which no receive sees. -/
def waiting : State :=
  (office.enqueue 5 five hello).enqueue 1 { channel := 0, vector := 0x50000, queue := [] } hello

/-- A state in which FORCE is synchronous (R671). -/
def forcing : State := { base with params := { base.params with impl700 := true, mmForceSync := true } }

/-- No further page of the link table can be allocated (R44). -/
def pageless : State := { office with links := { office.links with allocatablePages := false } }

/-- Every message buffer is in use (R55). -/
def full : State := { waiting with params := { waiting.params with msgBufferLimit := some 2 } }

/-- Every link ID on the first page of the link table is defined, and no free ID is listed (R44). -/
def crowded : State :=
  { office with links := { office.links with
      entries := (List.range' 1 127).map fun n => (n, if n = 30 then away else home), free := [], freeTail := [] } }

/-- A message with the link `offer` waits on funnel 5, for an exchange with the link IDs of a block: link 1, the preferred ID,
the link to be sent (R631). -/
def exchanging (offer : Lte) (id1 pref id2 : Byte) (u : State) : State :=
  ({ u with params := { u.params with impl809 := true } }.enqueue 5 five { hello with link := some offer }).poke 0x2000
    [5, 0, 0, id1, 0, pref, 0, id2]

/-- The opcode C5 as a single FSQR, at the pc, from R3 to R1 (D36). -/
def rooted : State :=
  { (start 0x10000 0 [(15, 0x7FFC0)] [] [0x3C, 0x51, 0x03]) with
    params := { Config.params with fsqrOpcodes := [.single 0xC 5] } }

/-- R601: the ID in Ry, channel 15, the system handler's vector, enabled. -/
theorem test_createFun : does (.createFun 1 3 0) (base.setReg 3 0x64) (fun t =>
    t.reg 1 == 0 && t.reg 3 == 0x64 && t.funnelEnabled 0x64 &&
      t.funnel 0x64 == some { channel := 15, vector := Config.params.sysHandlerPc, queue := [] }) = true := by
  decide +kernel

/-- R601: the free list's head for Ry = 0. -/
theorem test_createFun_2 : does (.createFun 1 3 0) (base.setReg 3 0) (fun t => t.reg 1 == 0 && t.reg 3 == 21) = true := by
  decide +kernel

/-- R606: an enabled funnel is not deleted, status 3. -/
theorem test_delFun : does (.delFun 1 3 0) (office.setReg 3 5) (fun t => t.reg 1 == 3) = true := by decide +kernel

/-- R602: channel 0 is refused with status 34. -/
theorem test_attFunToChan : does (.attFunToChan 1 3 4) ((office.setReg 3 5).setReg 4 0) (fun t => t.reg 1 == 34) =
    true := by decide +kernel

/-- R602: the channel is changed. -/
theorem test_attFunToChan_2 : does (.attFunToChan 1 3 4) ((office.setReg 3 5).setReg 4 2)
    (fun t => t.reg 1 == 0 && t.funnel 5 == some { five with channel := 2 }) = true := by decide +kernel

/-- R633: the head message is deleted. -/
theorem test_delMsg : does (.delMsg 1 3 0) (waiting.setReg 3 5) (fun t => t.reg 1 == 0 && t.funnel 5 == some five) =
    true := by decide +kernel

/-- R635: status 21 for an enabled funnel. -/
theorem test_enableFun : does (.enableFun 1 3 0) (office.setReg 3 5) (fun t => t.reg 1 == 21) = true := by decide +kernel

/-- R636: status 17 for funnel 1. -/
theorem test_disableFun : does (.disableFun 1 3 0) (office.setReg 3 1) (fun t => t.reg 1 == 17) = true := by
  decide +kernel

/-- R644: the vectors are exchanged. -/
theorem test_setFunIntVector : does (.setFunIntVector 1 3 4) ((office.setReg 3 5).setReg 4 0x21000)
    (fun t => t.reg 1 == 0 && t.reg 4 == 0x20000 && t.funnel 5 == some { five with vector := 0x21000 }) = true := by
  decide +kernel

/-- R642: channel 0 cannot be disabled, status 15. -/
theorem test_disableChanInt : does (.disableChanInt 1 3 0) (base.setReg 3 0x8000)
    (fun t => t.reg 1 == 15 && t.chanMask == 0xC000) = true := by decide +kernel

/-- R643: the old mask in Ry. -/
theorem test_enableChanInt : does (.enableChanInt 1 3 0) (base.setReg 3 0x0001)
    (fun t => t.reg 1 == 0 && t.reg 3 == 0xC000 && t.chanMask == 0xC001) = true := by decide +kernel

/-- R645, R640: the active channel 0 holds the priority at 0; the old one goes to Ry; no status. -/
theorem test_setLocalPri : does (.setLocalPri 1 3 0 0 0) (waiting.setReg 3 4)
    (fun t => t.reg 1 == 0x11 && t.reg 3 == 15 && t.lp == 0) = true := by decide +kernel

/-- R600: link 50 into funnel 5; To Hardware is not given. -/
theorem test_createLink : does (.createLink 1 2 0)
    (office.poke 0x2000 [5, 0x4F, 0, 50, 0, 0, 0, 0, 0x12, 0x34, 0, 0, 0, 0, 0, 9])
    (fun t => t.reg 1 == 0 && readBytes t.mem 0x2002 2 == [0, 50] &&
      t.link 50 == some { toFunnel := 5, rights := 0x4E, toProcess := Config.processId, versionId := Config.versionId,
                          linkCode := 0x1234, linkGrail := 9 }) = true := by decide +kernel

/-- R571, D18: a block whose ID may not be written back is an access violation, and no link is made. -/
theorem test_createLink_2 : does (.createLink 1 2 0)
    ({ (office.poke 0x2000 [5, 0x4F, 0, 50]) with pages := Assoc.set office.pages 4 (Page.plain true false false) })
    (fun t => t.pswBit 59 && t.reg 1 == 0x11 && t.link 50 == none && t.links == office.links) = true := by decide +kernel

/-- R605: the link is gone. -/
theorem test_delLink : does (.delLink 1 2 0 0 0) (office.poke 0x2002 [0, 31])
    (fun t => t.reg 1 == 0 && t.link 31 == none) = true := by decide +kernel

/-- R611, R578: the message at the tail of funnel 5, its link code, funnel, type 0, sender and length. -/
theorem test_send : does (.send 1 2 3 4 5) (((office.poke 0x2000 [0, 0, 0, 31]).poke 0x2010 [0x48, 0x49, 0x21]).setReg 3 3)
    (fun t => t.reg 1 == 0 && t.lp == 9 &&
      t.funnel 5 == some { five with queue := [{ hello with rci := 0xABCD050000420003 }] }) = true := by decide +kernel

/-- R610: status 6 for more than 888 bytes. -/
theorem test_send_2 : does (.send 1 2 3 4 5) (office.setReg 3 889) (fun t => t.reg 1 == 6) = true := by decide +kernel

/-- R614: a link without the right to copy, status 51 (link 31's right is taken away). -/
theorem test_copyLink : does (.copyLink 1 2 3 4 5)
    ((office.putLink 31 { home with rights := 0xFA }).poke 0x2000 [0, 0, 0, 30, 0, 0, 0, 31])
    (fun t => t.reg 1 == 51) = true := by decide +kernel

/-- R614, R55: the message with the link stands on funnel 5, the sender keeps the link. -/
theorem test_copyLink_2 : does (.copyLink 1 2 3 4 5)
    ((office.putLink 32 { home with rights := 0x0C }).poke 0x2000 [0, 0, 0, 31, 0, 0, 0, 32])
    (fun t => t.reg 1 == 0 && t.link 32 == some { home with rights := 0x0C } &&
      (match t.funnel 5 with | some e => e.queue.map (fun m => (m.link, m.rci)) | none => []) ==
        [(some { home with rights := 0x0C }, 0xABCD050100420000)]) = true := by decide +kernel

/-- R615: the same without the right to pass. -/
theorem test_passLink : does (.passLink 1 2 3 4 5)
    ((office.putLink 31 { home with rights := 0xF6 }).poke 0x2000 [0, 0, 0, 30, 0, 0, 0, 31])
    (fun t => t.reg 1 == 51) = true := by decide +kernel

/-- R613: status 31 without the hardware right. -/
theorem test_sendToHardware : does (.sendToHardware 1 3 4) (office.setReg 3 31) (fun t => t.reg 1 == 31) = true := by
  decide +kernel

/-- R620, R621: two bytes to the block, one to the second block, the message taken off, Dismiss to priority 15 but for
the active channel 0. -/
theorem test_rcv : does (.rcv 1 2 3 4 5)
    ((((waiting.poke 0x2000 [5, 0, 4]).setReg 3 2).setReg 4 0x2100).setReg 5 8)
    (fun t => t.reg 1 == 0 && readBytes t.mem 0x2008 8 == [0x12, 0x34, 5, 0, 0, 0x42, 0, 3] &&
      readBytes t.mem 0x2010 2 == [0x48, 0x49] && readBytes t.mem 0x2100 1 == [0x21] && t.funnel 5 == some five &&
      t.lp == 0) = true := by decide +kernel

/-- R579: a synchronous receive of an empty funnel waits where it is. -/
theorem test_rcv_2 : does (.rcv 1 2 3 4 5) (office.poke 0x2000 [5, 0, 1]) (fun t => t.blocked && t.pc == 0x10000) =
    true := by decide +kernel

/-- R622: of the selected channels 0 and 9, channel 9's funnel (funnel 1 is never received from); interrogated. -/
theorem test_rcvChan : does (.rcvChan 1 2 3 4 5) (waiting.poke 0x2000 [0x80, 0x40, 2])
    (fun t => t.reg 1 == 0 && t.funnel 5 == some { five with queue := [hello] }) = true := by decide +kernel

/-- R623: no link in the message, status 30. -/
theorem test_rcvLink : does (.rcvLink 1 2 3 4 5) (waiting.poke 0x2000 [5, 0, 0])
    (fun t => t.reg 1 == 30 && t.funnel 5 == some five) = true := by decide +kernel

/-- R624: nothing on channel 15, status 29. -/
theorem test_rcvLinkOnChan : does (.rcvLinkOnChan 1 2 3 4 5) (waiting.poke 0x2000 [0, 1, 0]) (fun t => t.reg 1 == 29) =
    true := by decide +kernel

/-- R650, R51: channel 9, one message, the vector. -/
theorem test_readFte : does (.readFte 1 3 4 6 0) (waiting.setReg 3 5)
    (fun t => t.reg 1 == 0 && t.reg 4 == 0x8900000100020000) = true := by decide +kernel

/-- R651, R46: the second word; the first word's unused bits are any value. -/
theorem test_readLte : does (.readLte 1 3 4 6 0) (office.setReg 3 30)
    (fun t => t.reg 1 == 0 && t.reg 6 == 0xABCD000000000000) = true := by decide +kernel

/-- R651, R44: ID 200 lies on a page of the table that is not allocated, status 41. -/
theorem test_readLte_2 : does (.readLte 1 3 4 6 0) (office.setReg 3 200) (fun t => t.reg 1 == 41 && t.reg 4 == 0) =
    true := by decide +kernel

/-- D14: an opcode this edition does not implement is illegal, PSW bit 61. -/
theorem test_exchLinkForward : does (.exchLinkForward 1 2 3) base (fun t => t.pswBit 61 && t.pc == 0x10003) = true := by
  decide +kernel
/-- R631: the message's link goes to the preferred ID, "link to be sent" goes out in its place. -/
theorem test_exchLinkForward_2 : does (.exchLinkForward 1 2 3) (exchanging away 31 40 31 office) (fun t =>
    t.reg 1 == 0 && t.link 40 == some away && t.link 31 == some home &&
      (t.funnel 5).any fun e => e.queue.map (fun m => (m.data, m.link)) == [(hello.data, some home)]) = true := by
  decide +kernel
theorem test_forwardMsg : does (.forwardMsg 1 2 3) base (fun t => t.pswBit 61 && t.pc == 0x10003) = true := by
  decide +kernel
theorem test_sendSmallMsg : does (.sendSmallMsg 1 2 3) base (fun t => t.pswBit 61 && t.pc == 0x10003) = true := by
  decide +kernel

/-- R673, R676: the trace bits of a page, where MODIFY.PME is implemented. -/
theorem test_modifyPme_2 : does (.modifyPme 1 3 2)
    ({ base with params := { base.params with impl701 := true } }.setReg 3 2)
    (fun t => match t.pageAt 0x2000 with
      | some p => p.writeTrace && !p.readTrace && !p.executeTrace
      | none => false) = true := by decide +kernel
theorem test_readPme : does (.readPme 1) (base.setReg 1 0x2000) (fun t => t.pc == 0x10002 && !t.pswBit 59) = true := by
  decide +kernel

/-- R674, R677. -/
theorem test_readCpuTimer : does (.readCpuTimer 1) { base with cpuTimer := 77 } (fun t => t.reg 1 == 77) = true := by
  decide +kernel
theorem test_readRealTimer : does (.readRealTimer 1) { base with clock := 78 } (fun t => t.reg 1 == 78) = true := by
  decide +kernel

/-- R554, R709: the Debugger's entry: the frame of 136 bytes, the reason 0, the address of the BREAKPOINT. -/
theorem test_breakpoint : does .breakpoint base (fun t =>
    t.pc == Config.params.debuggerPc && t.reg 15 == 0x7FF38 && t.reg 0 == 0x7FFB8 && t.reg 1 == 0x7FF38 &&
      t.reg 2 == 0 && t.reg 3 == 0x10000 && t.reg 4 == 0 && readBytes t.mem 0x7FFB8 8 == [0, 0, 0, 0, 0, 1, 0, 1]) =
    true := by decide +kernel

/-- R556: R0 = 1 arms a single step; the registers and the pc come from the frame. -/
theorem test_bxit : does (.bxit 0 0) (((base.poke 0x7FF08 [0, 0, 0, 0, 0, 0, 0, 0x55]).setReg 0 1).setReg 15 0x7FF00)
    (fun t => t.pswBit 12 && t.reg 1 == 0x55 && t.reg 0 == 0 && t.pc == 0) = true := by decide +kernel

/-- R557: the local priority and the pc from the frame. -/
theorem test_ixit : does (.ixit 0 8) ((base.poke 0x7FF08 (List.replicate 135 0 ++ [3, 0, 0, 0, 0, 0, 1, 0, 7])).setReg 15 0x7FF00)
    (fun t => t.lp == 3 && t.pc == 0x10007 && t.reg 15 == 0) = true := by decide +kernel

/-- R720, R726, R706: an enabled software exception interrupts through funnel 2: the frame, the vector, the message. -/
theorem test_exception_taken : does (.exception 1 2 3) { base with psw := 0x80 } (fun t =>
    t.pc == Config.dispatcherPc && t.reg 15 == 0x7FF30 && t.reg 0 == 0x7FFB8 && t.reg 2 == 2 && t.lp == 1 &&
      t.psw == 0xC0 && readBytes t.mem 0x7FFB0 16 == [0, 0, 0, 0, 0, 0, 0, 15, 0, 0, 0, 0, 0, 1, 0, 3] &&
      (match t.funnel 2 with
        | some e => e.queue.map (fun m => (m.data.length, m.data.getD 15 0, m.data.take 4)) ==
            [(104, 20, [0x00, 0x01, 0x23, 0])]
        | none => false)) = true := by decide +kernel

/-- R740: an operand on page zero is an access violation, PSW bit 59, and Rx is as before. -/
theorem test_accessViolation : does (.ld64 (.m4 1 0)) base (fun t => t.pswBit 59 && t.reg 1 == 0x11) = true := by
  decide +kernel

/-- R671, R579: a synchronous FORCE stops the process where it is, its request sent. -/
theorem test_memoryMan_2 : does (.memoryMan 1 2 3) (forcing.setReg 1 1)
    (fun t => t.blocked && t.pc == 0x10000 && t.manager == .waiting && t.outputs == [.memoryManager 1 0x2000 0]) = true := by
  decide +kernel

/-- R671: the Memory Manager restarts it; the next step ends the instruction. -/
theorem test_restart : (match applyEvent .restart { forcing.setReg 1 1 with manager := .waiting, blocked := true } with
    | .next t => t.manager == .restarted && runs (t.poke 0x10000 [0x70, 0x01, 0x23])
        (fun u => u.pc == 0x10003 && !u.blocked && u.manager == .idle && u.outputs == [])
    | _ => false) = true := by decide +kernel

/-- R675, R764: a process that goes on on another CPU reads that CPU's code. -/
theorem test_migrate : (match applyEvent (.migrate 3) { base with params := { base.params with impl603 := true } } with
    | .next t => does (.readMachId 1) t (fun u => u.reg 1 == 3)
    | _ => false) = true := by decide +kernel

/-- R44, R591: a link on a page that is not allocated, 41; that cannot be, 42; R55: no buffer left. -/
theorem test_linkPages : (office.lookup 200).toOption = none ∧ (match office.lookup 200 with | .error n => n | _ => 0) = 41 ∧
    (match pageless.lookup 200 with | .error n => n | _ => 0) = 42 ∧ (office.putLink 200 home).links.pages = [1] ∧
    (office.putLink 200 home).links.allocatablePageCount = 510 ∧ full.poolFull = true ∧ waiting.poolFull = false := by
  decide +kernel

/-- R733: an opcode that is not implemented is illegal although its last byte may not be fetched. -/
theorem test_illegalFirst : (match ((base.setPc 0x10FFE).poke 0x10FFE [0x70, 0x01]).fetch with
    | .illegal bs => decide (bs = [0x70, 0x01, 0])
    | _ => false) = true := by decide +kernel

/-- R23, R733: so is an extended FSQR whose destination pair is R14, its last byte not fetched. -/
theorem test_illegalFirst_2 : (match ({ (base.setPc 0x10FFE).poke 0x10FFE [0xF0, 0xEE] with
      params := { Config.params with fsqrOpcodes := [.extended 0xE] } } : State).fetch with
    | .illegal bs => decide (bs = [0xF0, 0xEE, 0])
    | _ => false) = true := by decide +kernel

/-- R355, D36: FSQR by an opcode of the parameter: the square root of 4 is 2. -/
theorem test_fsqr : runs (rooted.setReg 3 0x40800000) (fun t => t.reg 1 == 0x40000000 && t.pc == 0x10003) = true := by
  decide +kernel

/-- R355: the square root of a negative number is invalid. -/
theorem test_fsqr_2 : runs (rooted.setReg 3 0xC0800000) (fun t => t.reg 1 == 0x7F800001 && t.pswBit 27) = true := by
  decide +kernel

/-! ### Witnesses: the hypotheses of the statements can be met -/

/-- A NOP at the start-up pc, with the exception handlers disabled. -/
def nopped : State := start 0x10000 0 [(15, 0x7FFC0)] [] [0x50]

/-- The base state with the stack pointer at `a` and every handler enabled. -/
def stacked (a : Word) : State := { base.setReg 15 a with psw := 0x0000AAAAAAAAAAAA }

/-- The link without the rights to copy and to notify. -/
def away2 : Lte := { away with rights := 0xDB }

theorem witness_DecodeEncode : Config.params.valid = true ∧
    (Instr.insert 15 15 15 { u0 := 3, start := 63, u1 := 3, len := 63 }).wellFormed Config.params = true ∧
    (Instr.delLink 15 15 15 15 15).wellFormed Config.params = true := by decide +kernel

theorem witness_EncodeDecode : Config.params.valid = true ∧ decode Config.params [0x50, 0x50] = .ok (.nop, [0x50]) :=
  ⟨by decide +kernel, rfl⟩

theorem witness_StepRunsDecoded : nopped.ended = false ∧
    nopped.fetchBytes nopped.pc (instrLen (nopped.byteAt nopped.pc)) = some [0x50] ∧
    decode nopped.params [0x50] = .ok (.nop, []) := ⟨by decide +kernel, by decide +kernel, rfl⟩

theorem witness_StepRunsDecoded_2 : rooted.ended = false ∧
    rooted.fetchBytes rooted.pc (instrLen (rooted.byteAt rooted.pc)) = some [0x3C, 0x51, 0x03] ∧
    (decode rooted.params [0x3C, 0x51, 0x03]).toOption = none ∧
    decodeFsqr rooted.params [0x3C, 0x51, 0x03] = some (.general .single (.m3 1 0 3)) := by decide +kernel

/-- Bytes at the end of the last page that may be fetched, with an FSQR F0E and handlers as asked. -/
def edge (psw : Word) (bs : List Byte) : State :=
  let a : Addr := 0x11000 - BitVec.ofNat 32 bs.length
  { (base.poke a bs).setPc a with psw := psw, params := { base.params with fsqrOpcodes := [.extended 0xE] } }

/-- The bytes before the page's end can be fetched, of an instruction of `n` bytes, and the next cannot. -/
def cut (n : Nat) (s : State) (bs : List Byte) : Bool :=
  decide (instrLen (s.byteAt s.pc) = n) && decide (s.fetchBytes s.pc bs.length = some bs) &&
  !(s.allowed .fetch (s.pc + BitVec.ofNat 32 bs.length)) && !s.ended

theorem witness_FailedFetches :
    (base.setPc 0).ended = false ∧ (base.setPc 0).fetchBytes (base.setPc 0).pc 1 = none ∧
    (base.setPc 0).excEnabled .accessViolation = false ∧ ({ base with psw := 0x20 } : State).excEnabled .accessViolation = true ∧
    base.excEnabled .illegal = false ∧ ({ base with psw := 8 } : State).excEnabled .illegal = true ∧
    (let s := start 0x10000 0 [] [] [0x30, 0xFF, 0]
     s.fetchBytes s.pc (instrLen (s.byteAt s.pc)) = some [0x30, 0xFF, 0] ∧ (decode s.params [0x30, 0xFF, 0]).toOption = none ∧
       decodeFsqr s.params [0x30, 0xFF, 0] = none) := by decide +kernel

/-- A short format that no table lists, and one that the table lists; a listed instruction, one with a bad pair, an FSQR
with and without a bad pair, and no row of the table, all cut short. -/
theorem witness_FailedFetches_2 :
    cut 2 (edge 0 [0x83]) [0x83] = true ∧ hiNib (0x83 : Byte) = 8 ∧ cut 2 (edge 0 [0x04]) [0x04] = true ∧
    (decode (edge 0 []).params ([0x04] ++ [0x3F])).toOption = some (.addi64 (.m0 3 0xF), []) ∧
    cut 3 (edge 0 [0xF0, 0x92]) [0xF0, 0x92] = true ∧ cut 3 (edge 0 [0xF0, 0x9E]) [0xF0, 0x9E] = true ∧
    (decode (edge 0 []).params [0xF0, 0x92, 0]).toOption = some (.fadd80 2 0 0, []) ∧
    (decode (edge 0 []).params [0xF0, 0x9E, 0]).toOption = some (.fadd80 14 0 0, []) ∧ 14 ≤ (14 : Reg).toNat ∧
    cut 3 (edge 0 [0xF0, 0xED]) [0xF0, 0xED] = true ∧ cut 3 (edge 0 [0xF0, 0xEE]) [0xF0, 0xEE] = true ∧
    (decode (edge 0 []).params [0xF0, 0xEE, 0]).toOption = none ∧
    decodeFsqr (edge 0 []).params [0xF0, 0xED, 0] = some (.pair 13 0) ∧
    decodeFsqr (edge 0 []).params [0xF0, 0xEE, 0] = some (.pair 14 0) ∧
    cut 3 (edge 0 [0x30, 0xFF]) [0x30, 0xFF] = true ∧ (decode (edge 0 []).params [0x30, 0xFF, 0]).toOption = none ∧
    decodeFsqr (edge 0 []).params [0x30, 0xFF, 0] = none := by decide +kernel

/-- A key found in a table stands in it. -/
theorem mem_of_get {α : Type} {l : List (Nat × α)} {n : Nat} {a : α} (h : Assoc.get l n = some a) : (n, a) ∈ l := by
  induction l with
  | nil => simp [Assoc.get] at h
  | cons p t ih =>
    obtain ⟨k, b⟩ := p
    simp only [Assoc.get] at h
    split at h
    · simp_all
    · exact List.mem_cons_of_mem _ (ih h)

/-- An arrival on `f` is accepted if the table of funnels says so. -/
theorem accepts_of {s : State} {f : Nat} {e : Funnel}
    (h : chanBit s.chanMask e.channel = true ∧ e.channel < s.lp ∧
      ∀ p ∈ s.funnels.entries, p.1 = f ∨ p.2.queue = [] ∨ e.channel ≤ p.2.channel) : Accepts s f e :=
  ⟨h.1, h.2.1, fun g k hg hk hq => by
    rcases h.2.2 _ (mem_of_get hk) with h1 | h1 | h1
    · exact absurd h1 hg
    · exact absurd h1 hq
    · exact h1⟩

/-- The list of active funnels is as the table of funnels says. -/
theorem activeOk_of {s : State} (h : s.funnels.active.Nodup ∧
    (∀ f ∈ s.funnels.active, (s.funnel f).any (fun e => !e.queue.isEmpty) = true) ∧
    ∀ p ∈ s.funnels.entries, p.2.queue ≠ [] → p.1 ∈ s.funnels.active) : s.activeOk := by
  refine ⟨h.1, fun f => ⟨fun hf => ?_, fun ⟨e, he, hq⟩ => h.2.2 _ (mem_of_get he) hq⟩⟩
  have := h.2.1 f hf
  cases hs : s.funnel f with
  | none => simp [hs] at this
  | some e => exact ⟨e, rfl, by simpa [hs] using this⟩

/-- Every channel is enabled. -/
def inviting : State := { office with chanMask := 0xFFFF }

theorem witness_StepKeepsInvariant : nopped.Inv ∧ ∃ t, Sys2Proof.Machine.step nopped = .next t := by
  refine ⟨⟨?_, ?_, ⟨⟨_, rfl, rfl⟩, ?_, ?_⟩, ?_, ⟨?_, ?_⟩, ?_, activeOk_of (by decide +kernel)⟩, ?_⟩
  · show _ = true
    decide +kernel
  · show _ = true
    decide +kernel
  · decide +kernel
  · intro f e h hc
    have := mem_of_get h
    revert hc
    revert this
    have h2 : ∀ p ∈ nopped.funnels.entries, p.2.channel = 0 → p.1 = 1 := by decide +kernel
    exact fun hm hc => h2 _ hm hc
  · refine ⟨?_, ?_, ?_⟩ <;> decide +kernel
  · have h2 : ∀ n ∈ nopped.links.free ++ nopped.links.freeTail, n ≠ 0 ∧ nopped.link n = none := by decide +kernel
    exact fun n hn => h2 n (by simpa using hn)
  · have h2 : ∀ n ∈ nopped.funnels.free ++ nopped.funnels.freeTail, n ≠ 0 ∧ nopped.funnel n = none := by decide +kernel
    exact fun n hn => h2 n (by simpa using hn)
  · have h2 : ∀ p ∈ nopped.links.entries, nopped.links.pageAllocated (p.1 / linksPerPage) = true := by decide +kernel
    exact fun n e h => h2 _ (mem_of_get h)
  · have h : runs nopped (fun _ => true) = true := by decide +kernel
    unfold runs at h
    cases hs : Sys2Proof.Machine.step nopped with
    | next t => exact ⟨t, rfl⟩
    | fault f => simp [hs] at h
    | refused r => simp [hs] at h

theorem witness_StepKeepsIdentityAndClocks : runs nopped (fun _ => true) = true := by decide +kernel

theorem witness_ModesOnlyByWriteStat : does .nop nopped (fun _ => true) = true ∧ (stacked 0).pswBit 63 = false ∧
    ({ base with psw := 1 } : State).pswBit 63 = true := by decide +kernel

theorem witness_PriorityAndMaskRules : does .nop base (fun _ => true) = true ∧
    does (.send 1 2 3 4 5) (((office.poke 0x2000 [0, 0, 0, 31]).poke 0x2010 [0x48, 0x49, 0x21]).setReg 3 3)
      (fun t => decide (t.lp ≤ 15)) = true := by decide +kernel

theorem witness_StoreReadsBack : base.memOk ∧ (base.poke 0xFFFFFFFC [1, 2, 3]).memOk := by
  constructor <;> (show _ = true; decide +kernel)

theorem witness_LastOperandByMode : base.allowedRange .read 0x2000 8 = true ∧ base.allowedRange .read 0x27FC 8 = false ∧
    base.allowedRange .read 0x27FF 1 = true ∧ base.ea (.mA 2 1) = 0x2000 := by decide +kernel

theorem witness_DisabledExceptionGoesOn : base.excEnabled .software = false := by decide +kernel

theorem witness_EnabledExceptionInterrupts :
    ({ base with psw := 0x80 } : State).excEnabled .software = true ∧ (base.link 1).isSome = true ∧
    (base.openFunnel 2).map (·.channel) = some 1 ∧ chanBit base.chanMask 1 = true ∧ (1 : Chan) < base.lp ∧
    (∀ p ∈ base.funnels.entries, p.2.queue = []) ∧
    base.allowedRange .write (lo32 (base.reg 15) - 144) 144 = true ∧
    (base.setReg 15 0x80000).allowedRange .write (lo32 ((base.setReg 15 0x80000).reg 15) - 144) 144 = true := by
  decide +kernel

theorem witness_EnabledExceptionInterrupts_2 :
    let s := stacked 0x7FFC0
    s.excEnabled .software = true ∧ (s.link 1).isSome = true ∧ s.tablesOk ∧
    ∃ fe, s.openFunnel 2 = some fe ∧ Accepts s 2 fe :=
  ⟨by decide +kernel, by decide +kernel, ⟨by decide +kernel, by decide +kernel, by decide +kernel⟩,
    _, rfl, accepts_of (by decide +kernel)⟩

theorem witness_DeliveriesAndEvents : base.openFunnel 3 = none ∧ office.openFunnel 5 = some five ∧
    chanBit office.chanMask five.channel = false ∧ ({ office with lp := 9 } : State).lp ≤ five.channel ∧
    (waiting.funnel 1).map (fun e => (e.queue.isEmpty, e.channel)) = some (false, 0) ∧
    (waiting.openFunnel 5).map (·.channel) = some 9 := by decide +kernel

theorem witness_DeliveriesAndEvents_2 :
    Memory.wf base.mem = true ∧ Assoc.sorted base.links.entries = true ∧ Assoc.sorted base.funnels.entries = true ∧
    Assoc.sorted base.pages = true ∧ base.arrivals.headD [] = [] ∧
    ({ base with arrivals := [[.terminate, .restart], []] } : State).arrivals = (.terminate :: [.restart]) :: [[]] ∧
    base.blocked = false ∧ ({ base with blocked := true } : State).blocked = true ∧
    base.allowedRange .write (lo32 (base.reg 15) - 136) 136 = true ∧ base.manager ≠ .waiting ∧
    ({ base with manager := .waiting } : State).manager = .waiting ∧ (base.pageAt 0x2000).isSome = true ∧
    base.pageAt 0x3000 = none := by decide +kernel

/-- Funnel 5 accepts with every channel enabled, and neither with channel 9 disabled nor while funnel 1 is active on channel
0; a frame fits and does not. -/
theorem witness_DeliveriesAndEvents_3 : inviting.openFunnel 5 = some five ∧ Accepts inviting 5 five ∧ inviting.tablesOk ∧
    ¬ Accepts office 5 five ∧ ¬ Accepts { waiting with chanMask := 0xFFFF, lp := 15 } 5 five ∧
    inviting.allowedRange .write (lo32 (inviting.reg 15) - 144) 144 = true ∧
    (base.setReg 15 0x7808F).allowedRange .write (lo32 ((base.setReg 15 0x7808F).reg 15) - 144) 144 = false := by
  refine ⟨by decide +kernel, accepts_of (by decide +kernel), ⟨by decide +kernel, by decide +kernel, by decide +kernel⟩,
    fun h => absurd h.1 (by decide +kernel), fun h => ?_, by decide +kernel, by decide +kernel⟩
  exact absurd (h.2.2 1 { channel := 0, vector := 0x50000, queue := [hello] } (by decide) (by decide +kernel) (by decide))
    (by decide)

/-- R703, R706: an accepted arrival on funnel 5 enters its handler, the funnel's number in R2, the local priority before the
arrival in the frame; the funnel is active. -/
theorem test_deliver : (match deliver 5 hello inviting with
    | .next t => decide (t.pc = 0x20000) && decide (t.reg 2 = 5) && decide (t.lp = 9) &&
        decide (t.funnels.active = [5]) && decide (wordAt t (lo32 (inviting.reg 15) - 16) = 15)
    | _ => false) = true := by decide +kernel

/-- The interrupt of a funnel in the base state. -/
def interrupted : Res := interruptEntry 2 0x30000 15 base

theorem witness_InterruptReturns : (match interrupted with | .next t => t.pc == 0x30000 | _ => false) = true ∧
    base.allowedRange .read (lo32 (base.reg 15) - 144) 144 = true ∧
    (let s := base.setReg 15 0x7FE71
     s.allowedRange .read (lo32 (s.reg 15 + (0xFF : BitVec 8).setWidth 64)) 144 = true ∧
       s.allowedRange .read (lo32 (s.reg 15 + (0 : BitVec 8).setWidth 64)) 144 = true ∧
       (wordAt s (lo32 (s.reg 15 + (0xFF : BitVec 8).setWidth 64) + 128)).toNat % 16 = (0 : Chan).val) := by decide +kernel

theorem witness_BreakpointReturns : base.allowedRange .write (lo32 (base.reg 15) - 136) 136 = true ∧
    base.allowedRange .read (lo32 (base.reg 15) - 136) 136 = true ∧
    (base.setReg 15 0x78088).allowedRange .write (lo32 ((base.setReg 15 0x78088).reg 15) - 136) 136 = true ∧
    (let s := (base.setReg 15 0x7FE79).setReg 0 1
     s.reg 0 = (if true then 1 else 0) ∧ base.reg 0 = (if false then 1 else 0) ∧
       s.allowedRange .read (lo32 (s.reg 15 + (0xFF : BitVec 8).setWidth 64)) 136 = true) ∧
    base.blocked = false ∧ base.ss = false ∧ ({ base with psw := 0x8000000000000 } : State).ss = true ∧
    ({ base with blocked := true } : State).blocked = true := by decide +kernel

theorem witness_ViolatingAccessChangesNothing : base.lastVal .sign 8 (.m4 1 0) = none ∧
    base.lastVal .zero 4 (.m4 14 0x2800) = none ∧ base.lastVal .zero 8 (.m4 13 0x27F9) = none ∧
    base.allowedRange .write (base.ea (.m4 1 0x27FF)) 2 = false ∧ base.excEnabled .accessViolation = false ∧
    (GOp.m4 1 0).last = .mem ∧ base.allowedRange .write (base.ea (.m4 1 0)) 1 = false ∧
    (lo32 ((base.setReg 3 8).reg 3)).toNat % 8 = 0 ∧ base.allowedRange .read (lo32 ((base.setReg 3 8).reg 3)) 8 = false ∧
    (base.setReg 15 0x80000).allowedRange .write (lo32 ((base.setReg 15 0x80000).reg 15)) 4 = false ∧
    (base.setReg 15 0x7FFFE).allowedRange .read (lo32 ((base.setReg 15 0x7FFFE).reg 15 + (2 : BitVec 8).setWidth 64)) 4 =
      false ∧
    base.allowedRange .read (lo32 (base.reg 15 + (0 : BitVec 8).setWidth 64)) 144 = false ∧
    base.allowedRange .read (lo32 (base.reg 15 + (0 : BitVec 8).setWidth 64)) 136 = false ∧ base.reg 0 = 0 ∧
    (base.setReg 15 0x78087).allowedRange .write (lo32 ((base.setReg 15 0x78087).reg 15) - 136) 136 = false ∧
    base.pageAt (lo32 (base.reg 1)) = none ∧ base.allowedRange .read (lo32 (base.reg 1)) 1 = false ∧
    base.allowedRange .read (lo32 ((base.setReg 2 0x27FF).reg 2)) 2 = false ∧
    base.allowedRange .read (lo32 ((base.setReg 2 0x27FD).reg 2) + 2) 2 = false ∧
    (let p := { office.params with impl701 := true, impl809 := true, impl80A := true }
     ({ office with params := p } : State).params.impl809 = true) ∧
    (let s := { (office.poke 0x2000 [5, 0x4F, 0, 50]) with pages := Assoc.set office.pages 4 (Page.plain true false false) }
     s.excEnabled .accessViolation = false ∧ s.allowedRange .read (lo32 (s.reg 2)) 16 = true ∧
       s.allowedRange .write (lo32 (s.reg 2) + 2) 2 = false ∧ beNat (readBytes s.mem (lo32 (s.reg 2)) 1) = 5 ∧
       s.funnel 5 = some five ∧ (s.linkSlot (beNat (readBytes s.mem (lo32 (s.reg 2) + 2) 2))).toOption = some 50) := by
  decide +kernel

theorem witness_ViolatingAccessChangesNothing_2 :
    (let s := (((base.poke 0x27F8 [0, 0, 0, 31]).setReg 2 0x27F8).setReg 3 888).setReg 5 0
     0 ≤ (s.reg 3).toInt ∧ 0 ≤ (s.reg 5).toInt ∧ (s.reg 3).toInt + (s.reg 5).toInt = 888 ∧
       s.allowedRange .read (lo32 (s.reg 2) + 2) 6 = true ∧ s.allowedRange .read (lo32 (s.reg 2) + 16) 888 = false) ∧
    (let s := base.setReg 2 0x27FB
     s.allowedRange .read (lo32 (s.reg 2) + 2) 2 = true ∧ s.allowedRange .read (lo32 (s.reg 2) + 6) 2 = false) ∧
    (let s := ((base.setReg 3 0).setReg 4 0x27FF).setReg 5 2
     s.allowedRange .read (lo32 (s.reg 2) + 16) (s.reg 3).toInt.toNat = true ∧
       s.allowedRange .read (lo32 (s.reg 4)) (s.reg 5).toInt.toNat = false) ∧
    (let s := (((waiting.poke 0x27F0 [5, 0x40, 0]).setReg 2 0x27F0).setReg 3 2).setReg 5 0
     s.excEnabled .accessViolation = false ∧ s.allowedRange .read (lo32 (s.reg 2)) 3 = true ∧
       (s.byteAt (lo32 (s.reg 2))).toNat = 5 ∧ s.funnel 5 = some { five with queue := [hello] } ∧
       bestCandidate (s.candidates (BitVec.ofNat 16 (beNat (readBytes s.mem (lo32 (s.reg 2)) 2)))) =
         some { funnel := 5, entry := { five with queue := [hello] }, message := hello } ∧
       s.allowedRange .write (lo32 (s.reg 2) + 8) 8 = true ∧ (hello.data.take 2).length = 2 ∧
       s.allowedRange .write (lo32 (s.reg 2) + 16) (hello.data.take 2).length = false) := by decide +kernel

/-- The forwards' and CREATE.LINK's blocks cut short by the end of a page, and a block that may not be written. -/
theorem witness_ViolatingAccessChangesNothing_5 :
    let m : Message := { hello with link := some away }
    let u := exchanging away 30 0 0 office
    let s := (u.poke 0x27FC [5, 0, 0, 30]).setReg 2 0x27FC
    let s1 := { u with pages := Assoc.set u.pages 4 (Page.plain true false false) }
    (base.setReg 2 0x27FD).allowedRange .read (lo32 ((base.setReg 2 0x27FD).reg 2)) 4 = false ∧
    s.params.impl809 = true ∧ s.allowedRange .read (lo32 (s.reg 2)) 1 = true ∧
    beNat (readBytes s.mem (lo32 (s.reg 2)) 1) = 5 ∧ s.funnel 5 = some { five with queue := [m] } ∧
    (s.setReg 2 0x27FF).allowedRange .read (lo32 ((s.setReg 2 0x27FF).reg 2) + 2) 2 = false ∧
    s.allowedRange .read (lo32 (s.reg 2) + 2) 2 = true ∧ beNat (readBytes s.mem (lo32 (s.reg 2) + 2) 2) = 30 ∧
    (s.lookup 30).toOption = some away ∧ away.rights.getLsbD 1 = true ∧ m.link ≠ none ∧
    s.allowedRange .read (lo32 (s.reg 2) + 4) 2 = false ∧ s1.allowedRange .read (lo32 (s1.reg 2) + 4) 2 = true ∧
    beNat (readBytes s1.mem (lo32 (s1.reg 2) + 4) 2) = 0 ∧ s1.links.nextFree = some 21 ∧
    s1.allowedRange .write (lo32 (s1.reg 2) + 4) 2 = false := by decide +kernel

/-- A message with a link, and a block whose preferred ID lies on a page that may not be read. -/
theorem witness_ViolatingAccessChangesNothing_3 :
    let m : Message := { hello with link := some home }
    let s := (((((office.enqueue 5 five m).poke 0x27FC [5, 0, 0]).setReg 2 0x27FC).setReg 3 0).setReg 5 0)
    let u := { s with pages := Assoc.set s.pages 5 (Page.plain false true false) }
    u.allowedRange .read (lo32 (u.reg 2)) 3 = true ∧ m.link ≠ none ∧ (u.funnel 5).map (·.queue) = some [m] ∧
    u.allowedRange .write (lo32 (u.reg 2) + 8) 8 = true ∧ u.allowedRange .read (lo32 (u.reg 2) + 4) 2 = false := by
  decide +kernel

theorem witness_ViolatingAccessChangesNothing_4 :
    let s := stacked 0x7FFC0
    s.excEnabled .accessViolation = true ∧ s.lastVal .sign 8 (.m4 1 0) = none := by decide +kernel

theorem witness_IllegalForms : 14 ≤ (14 : Reg).toNat ∧ 14 ≤ (GOp.m3 15 2 3).x.toNat ∧ base.excEnabled .illegal = false ∧
    base.params.impl603 = false ∧ base.params.impl700 = false ∧ base.params.impl701 = false ∧
    base.params.impl809 = false ∧ base.params.impl80A = false ∧ base.params.impl80E = false := by decide +kernel

theorem witness_UndefinedStops : 64 < (1 : BitVec 6).toNat + (64 - (0 : BitVec 6).toNat) ∧
    64 < (63 : BitVec 6).toNat + (2 : BitVec 6).toNat ∧ 2 ^ (1 : BitVec 6).toNat ≤ ((base.setReg 3 2).reg 3).toNat ∧
    (lo32 ((base.setReg 3 0x2001).reg 3)).toNat % 8 ≠ 0 ∧ (2 : Int) ^ 31 - 1 < ((base.setReg 3 0x80000000).reg 3).toInt ∧
    (base.setReg 0 2).reg 0 ≠ 0 ∧ (base.setReg 0 2).reg 0 ≠ 1 := by decide +kernel

theorem witness_LoadsAndStoresComplete : base.lastVal .sign 8 (.m4 1 0x27F8) = some 0 ∧
    base.allowedRange .write (base.ea (.m4 1 0x27F8)) 8 = true ∧ (GOp.m3 15 0 15).last = .reg 15 ∧
    (GOp.m4 15 0x2000).last = .mem := by decide +kernel

theorem witness_CheckedStoresComplete : base.allowedRange .write (base.ea (.m4 1 0x27FF)) 1 = true ∧
    base.excEnabled .intOverflow = false ∧ ((base.setReg 1 127).reg 1).toInt < 2 ^ (8 * 1 - 1) ∧
    (2 : Int) ^ (8 * 1 - 1) ≤ ((base.setReg 1 128).reg 1).toInt ∧
    ((base.setReg 1 (-129)).reg 1).toInt < -(2 ^ (8 * 1 - 1) : Int) := by decide +kernel

theorem witness_CheckedStoresComplete_2 :
    let s := (stacked 0x7FFC0).setReg 1 128
    s.excEnabled .intOverflow = true ∧ s.allowedRange .write (s.ea (.m4 1 0x27FF)) 1 = true ∧
    (2 : Int) ^ (8 * 1 - 1) ≤ (s.reg 1).toInt := by decide +kernel

theorem witness_BitFieldsComplete : (0 : BitVec 6).toNat + (64 - (0 : BitVec 6).toNat) ≤ 64 ∧
    (63 : BitVec 6).toNat + (64 - (63 : BitVec 6).toNat) ≤ 64 ∧ (1 : BitVec 6).toNat + (63 : BitVec 6).toNat ≤ 64 ∧
    ((base.setReg 3 0).reg 3).toNat < 2 ^ (0 : BitVec 6).toNat ∧
    ((base.setReg 3 0x7FFFFFFFFFFFFFFF).reg 3).toNat < 2 ^ (63 : BitVec 6).toNat := by decide +kernel

theorem witness_ExchangesComplete : (lo32 ((base.setReg 3 0x27F8).reg 3)).toNat % 8 = 0 ∧
    base.allowedRange .read (lo32 ((base.setReg 3 0x27F8).reg 3)) 8 = true ∧
    base.allowedRange .write (lo32 ((base.setReg 3 0x27F8).reg 3)) 8 = true := by decide +kernel

theorem witness_StringCopiesComplete : base.allowedRange .write (lo32 (base.reg 2)) 0x800 = true ∧
    base.allowedRange .read (lo32 (base.reg 2)) 0x800 = true ∧ ((base.setReg 3 0x800).reg 3).toInt.toNat = 0x800 ∧
    ((base.setReg 3 (-1)).reg 3).toInt.toNat = 0 ∧ base.allowedRange .write 0 0 = true := by decide +kernel

theorem witness_SignedArithmetic : base.lastVal .sign 8 (.m3 1 2 3) = some 0 ∧ base.excEnabled .intOverflow = false ∧
    (-(2 ^ 63 : Int) ≤ ((base.setReg 1 0x7FFFFFFFFFFFFFFF).reg 1).toInt + 0 ∧
      ((base.setReg 1 0x7FFFFFFFFFFFFFFF).reg 1).toInt + 0 < 2 ^ 63) ∧
    ¬ (((base.setReg 1 0x7FFFFFFFFFFFFFFF).reg 1).toInt + 1 < 2 ^ 63) := by decide +kernel

/-- The two result words of MUL's overflow message, R2 = R3 = 0000 0001 0000 0000 (95_test_vectors.md, 3B8123: word 9 is
0000 0000 0000 0001), by R724 and by R275. -/
theorem test_mul64_2 :
    let s := ((stacked 0x7FFC0).setReg 2 0x100000000).setReg 3 0x100000000
    let words := fun b : Bool => does (.mul64 (.m3 1 2 3)) { s with params := { s.params with mulHighInLow := b } } fun t =>
      decide ((t.funnel 2).map (fun e => e.queue.map fun m => (m.data.drop 64).take 16) =
        some [beBytes 8 (if b then 0 else 1) ++ beBytes 8 (if b then 1 else 0)])
    words true = true ∧ words false = true := by decide +kernel

theorem witness_SignedArithmetic_2 : (stacked 0x7FFC0).excEnabled .intOverflow = true ∧
    (stacked 0x7FFC0).params.mulHighInLow = true ∧
    ({ base with params := { base.params with mulHighInLow := false } } : State).params.mulHighInLow = false ∧
    (let s := ((stacked 0x7FFC0).setReg 2 0x100000000).setReg 3 0x100000000
     s.lastVal .sign 8 (.m3 1 2 3) = some 0x100000000 ∧ ¬ ((s.reg 2).toInt * (s.reg 3).toInt < 2 ^ 63)) := by decide +kernel

theorem witness_UnsignedAndImmediateArithmetic : base.lastVal .sign 8 (.m3 1 2 3) = some 0 ∧
    base.excEnabled .intOverflow = false ∧ ((base.setReg 1 0x7FFFFFFFFFFFFFF0).reg 1).toInt + (15 : Nib).toNat < 2 ^ 63 ∧
    ¬ (((base.setReg 1 0x7FFFFFFFFFFFFFF1).reg 1).toInt + (15 : Nib).toNat < 2 ^ 63) ∧
    ¬ (-(2 ^ 63 : Int) ≤ ((base.setReg 1 0x800000000000000F).reg 1).toInt - (15 : Nib).toNat - 1) := by decide +kernel

theorem witness_UnsignedAndImmediateArithmetic_2 :
    let s := ((stacked 0x7FFC0).setReg 1 0x7FFFFFFFFFFFFFF1).setReg 2 0x800000000000000F
    s.excEnabled .intOverflow = true ∧ ¬ ((s.reg 1).toInt + (15 : Nib).toNat < 2 ^ 63) ∧
    ¬ (-(2 ^ 63 : Int) ≤ (s.reg 2).toInt - (15 : Nib).toNat - 1) := by decide +kernel

theorem witness_ProductsAndQuotients :
    (let s := (base.setReg 2 0x8000000000000000).setReg 3 (-1)
     s.lastVal .sign 8 (.m3 1 2 3) = some (-1) ∧ ¬ ((s.reg 2).toInt.tdiv (s.reg 3).toInt < 2 ^ 63)) ∧
    (let s := (base.setReg 2 0x8000000000000000).setReg 3 1
     s.lastVal .sign 8 (.m3 1 2 3) = some 1 ∧ -(2 ^ 63 : Int) ≤ (s.reg 2).toInt.tdiv (s.reg 3).toInt) ∧
    base.lastVal .sign 8 (.m3 1 2 3) = some 0 ∧ base.excEnabled .intOverflow = false ∧
    base.excEnabled .intDivZero = false ∧ (13 : Reg).toNat < 14 := by decide +kernel

theorem witness_ProductsAndQuotients_2 :
    let s := ((stacked 0x7FFC0).setReg 2 0x8000000000000000).setReg 3 (-1)
    s.excEnabled .intOverflow = true ∧ s.excEnabled .intDivZero = true ∧ s.lastVal .sign 8 (.m3 1 2 3) = some (-1) ∧
    ¬ ((s.reg 2).toInt.tdiv (s.reg 3).toInt < 2 ^ 63) ∧ s.lastVal .sign 8 (.m3 1 2 4) = some 0 := by decide +kernel

theorem witness_FloatInstructionsComplete :
    (∀ c ∈ [ExcCode.fpOverflow, .fpUnderflow, .fpDivZero, .fpInvalid, .fpInexact], base.excEnabled c = false) ∧
    base.lastVal .zero 8 (.m3 1 2 3) = some 0 ∧ (13 : Reg).toNat < 14 ∧ (14 : Reg) ≠ 15 := by decide +kernel

/-- One in the single format. -/
theorem classify_one : classify .single (wordDatum .single 0x3F800000) = .fin false 0x800000 (-23) := by decide +kernel

theorem witness_ExactResultsDelivered :
    let s := (base.setReg 2 0x3F800000).setReg 3 0x3F800000
    s.lastVal .zero Fmt.single.bytes (.m3 1 2 3) = some 0x3F800000 ∧
    ratOf (classify .single (wordDatum .single (s.reg (GOp.m3 1 2 3).a))) = some 1 ∧
    Normal .single (1 + 1) ∧ Normal .double 1 ∧ Normal .extended (1 + 1) := by
  have h : ((base.setReg 2 0x3F800000).setReg 3 0x3F800000).reg 2 = 0x3F800000 := by decide +kernel
  refine ⟨by decide +kernel, ?_, ⟨false, 0x800000, -22, by decide +kernel, by decide +kernel, by decide +kernel,
    by decide +kernel, ?_⟩, ⟨false, 2 ^ 52, -52, by decide +kernel, by decide +kernel, by decide +kernel,
    by decide +kernel, ?_⟩, ⟨false, 2 ^ 63, -62, by decide +kernel, by decide +kernel, by decide +kernel,
    by decide +kernel, ?_⟩⟩
  · show ratOf (classify .single (wordDatum .single (State.reg _ 2))) = some 1
    rw [h, classify_one]
    norm_num [ratOf]
  all_goals norm_num [ratOf]

/-- One and one in the double and the extended format, and two integers: operands of the conversions and of FREM. -/
theorem witness_ExactResultsDelivered_2 :
    let s := ((base.setReg 2 0x3FF0000000000000).setReg 4 0x3FFF000000000000).setReg 5 0x8000000000000000
    s.lastVal .zero 8 (.m3 1 0 2) = some 0x3FF0000000000000 ∧
    ratOf (classify .double (wordDatum .double (s.reg 2))) = some 1 ∧
    ratOf (classify .extended (s.pair 4)) = some 1 ∧ (1 : Word).toInt = 1 ∧ s.excEnabled .fpInexact = false ∧
    roundRat .nearest (1 / 1) ≠ 0 ∧ roundRat .nearest (0 / 1) = 0 := by
  have h : classify .double (wordDatum .double ((((base.setReg 2 0x3FF0000000000000).setReg 4
      0x3FFF000000000000).setReg 5 0x8000000000000000).reg 2)) = .fin false (2 ^ 52) (-52) := by decide +kernel
  have h' : classify .extended ((((base.setReg 2 0x3FF0000000000000).setReg 4
      0x3FFF000000000000).setReg 5 0x8000000000000000).pair 4) = .fin false (2 ^ 63) (-63) := by decide +kernel
  refine ⟨by decide +kernel, ?_, ?_, by decide +kernel, by decide +kernel, ?_, ?_⟩
  · rw [h]
    norm_num [ratOf]
  · rw [h']
    norm_num [ratOf]
  all_goals norm_num [roundRat]

/-- Two registers set: the operands of the arithmetic, of FREM and, the first, of the conversions. -/
def two (p q : Word) : State := (base.setReg 2 p).setReg 3 q

/-- The arithmetic, a conversion of each kind, FINP and FREM in one form each: what the statements about their results are
about is met in every state. -/
theorem witness_ExactResultsDelivered_3 (s : State) :
    (∀ e ∈ floatOps, Computes s (e.1 (.m3 1 2 3)) e.2.2 e.2.1 1 (wordDatum e.2.1 (s.reg 2)) (wordDatum e.2.1 (s.reg 3))) ∧
    (∀ e ∈ floatPairOps, Computes s (e.1 13 2 4) e.2 .extended 13 (s.pair 2) (s.pair 4)) ∧
    Converts s (.cvtDs (.m3 1 0 2)) .double (wordDatum .double (s.reg 2)) .single 1 ∧
    Converts s (.cvtSe (.m3 13 0 2)) .single (wordDatum .single (s.reg 2)) .extended 13 ∧
    Converts s (.cvtEd 1 0 14) .extended (s.pair 14) .double 1 ∧
    FromInteger s (.cvtIs (.m3 1 0 2)) (s.reg 2).toInt .single 1 ∧ FromInteger s (.cvtIe 13 0 2) (s.reg 2).toInt .extended 13 ∧
    TakesPart s (.finp32 (.m3 1 0 2)) (wordDatum .single (s.reg 2)) .single 1 ∧
    TakesPart s (.finp80 13 0 14) (s.pair 14) .extended 13 ∧
    Divides s (.frem64 1 2 3) .double 1 3 (wordDatum .double (s.reg 2)) (wordDatum .double (s.reg 3)) ∧
    Divides s (.frem80 1 2 13) .extended 1 13 (s.pair 2) (s.pair 13) := by
  refine ⟨fun e he => .inl ⟨e, he, .m3 1 2 3, s.reg 3, rfl, rfl, rfl, rfl, rfl, rfl, rfl⟩,
    fun e he => .inr ⟨e, he, 13, 2, 4, rfl, rfl, rfl, rfl, by decide, by decide, by decide, rfl, rfl⟩,
    .inl ⟨.m3 1 0 2, s.reg 2, rfl, rfl, rfl, rfl, .inr ⟨rfl, rfl⟩⟩,
    .inr (.inl ⟨.m3 13 0 2, s.reg 2, rfl, rfl, rfl, rfl, .inl ⟨rfl, rfl, by decide⟩⟩),
    .inr (.inr ⟨0, 14, by decide, rfl, rfl, .inl ⟨rfl, rfl⟩⟩),
    .inl ⟨.m3 1 0 2, s.reg 2, rfl, rfl, rfl, .inr ⟨rfl, rfl⟩⟩, .inr ⟨0, 2, rfl, rfl, by decide, rfl⟩,
    .inl ⟨.m3 1 0 2, s.reg 2, rfl, rfl, rfl, .inl ⟨rfl, rfl⟩⟩, .inr ⟨0, 14, rfl, rfl, by decide, by decide, rfl⟩,
    ⟨(Instr.frem64, .double), .tail _ (.head _), 2, rfl, rfl, by decide, fun h => absurd h (by decide), fun _ => ⟨rfl, rfl⟩⟩,
    ⟨(Instr.frem80, .extended), .tail _ (.tail _ (.head _)), 2, rfl, rfl, by decide,
      fun _ => ⟨by decide, by decide, by decide, rfl, rfl⟩, fun h => absurd rfl h⟩⟩

/-- A denormalized number and a zero, unlike ones, unlike zeros, an infinity and a one, quiet NaNs in A and B: single format. -/
theorem witness_ExactResultsDelivered_4 :
    let x := fun p => classify .single (wordDatum .single ((two p 0).reg 2))
    let y := fun q => classify .single (wordDatum .single ((two 0 q).reg 3))
    x 1 = .fin false 1 (-149) ∧ y 0x80000000 = .zero true ∧ x 0x3F800000 = .fin false 0x800000 (-23) ∧
    y 0xBF800000 = .fin true 0x800000 (-23) ∧ base.rmode = .nearest ∧
    Arith.cell .add .nearest (x 0) (y 0x80000000) = some (.zero false) ∧
    Arith.cell .subr .minus (x 0) (y 0) = some (.zero true) ∧
    Arith.cell .mul .plus (x 0x80000000) (y 0x3F800000) = some (.zero true) ∧
    Arith.cell .div .zero (x 0x3F800000) (y 0xFF800000) = some (.zero true) ∧
    Arith.cell .divr .zero (x 0x80000000) (y 0x7F800000) = some (.inf true) ∧
    x 0x7F800001 = .nan true false 1 ∧ y 0xFF800002 = .nan true true 2 ∧ x 0x7F800000 = .inf false := by decide +kernel

/-- Their values: one and minus one cancel; the smallest denormalized number by itself. -/
theorem witness_ExactResultsDelivered_5 : ratOf (.fin false 0x800000 (-23)) = some 1 ∧
    ratOf (.fin true 0x800000 (-23)) = some (-1) ∧ (1 : Rat) ≠ 0 ∧ Arith.exact .add 1 (-1) = 0 ∧ Arith.add ∈ sums ∧
    ratOf (.zero true) = some 0 ∧ ratOf (.fin false 1 (-149)) = some (1 / 2 ^ 149) ∧
    Arith.exact .subr (1 / 2 ^ 149) 0 ≠ 0 := by
  refine ⟨?_, ?_, by decide, ?_, by decide, rfl, ?_, ?_⟩ <;> norm_num [ratOf, Arith.exact]

/-- The operands of the conversions from double to single: a signed zero, an infinity, a quiet NaN of which a fraction is left
and one of which nothing is; an integer zero. -/
theorem witness_ExactResultsDelivered_6 :
    let v := fun p => classify .double (wordDatum .double ((two p 0).reg 2))
    v 0x8000000000000000 = .zero true ∧ v 0xFFF0000000000000 = .inf true ∧
    v 0x7FF0000020000000 = .nan true false 0x20000000 ∧ 0x20000000 * 2 ^ 23 / 2 ^ 52 = 1 ∧
    v 0xFFF0000000000001 = .nan true true 1 ∧ 1 * 2 ^ 23 / 2 ^ 52 = 0 ∧
    classify .single (canonicalNan .single) = .nan true false 1 ∧ ((two 0 0).reg 2).toInt = 0 := by decide +kernel

/-- FINP of one, of minus a quarter and of five halves; FREM of 4 by 2, of 1 by 4, of 1 by an infinity, and of quiet NaNs. -/
theorem witness_ExactResultsDelivered_7 :
    ratOf (.fin true 0x800000 (-25)) = some (-1 / 4) ∧ roundRat .nearest 1 = 1 ∧ roundRat .nearest (-1 / 4) = 0 ∧
    roundRat .nearest (5 / 2) = 2 ∧ ((2 : Int) : Rat) ≠ 5 / 2 ∧ roundRat .nearest (4 / 2) = 2 ∧ (4 : Rat) = 2 * 2 ∧
    roundRat .nearest (1 / 4) = 0 ∧ (2 : Rat) ≠ 0 ∧ classify .single (wordDatum .single 0xBE800000) = .fin true 0x800000 (-25) ∧
    (let s := two 0x7FF0000000000000 0x3FF0000000000000
     classify .double (wordDatum .double (s.reg 2)) = .inf false ∧
       classify .double (wordDatum .double (s.reg 3)) = .fin false (2 ^ 52) (-52)) ∧
    (let s := two 0x7FF0000020000000 0xFFF0000000000001
     classify .double (wordDatum .double (s.reg 2)) = .nan true false 0x20000000 ∧
       classify .double (wordDatum .double (s.reg 3)) = .nan true true 1) := by
  refine ⟨?_, ?_, ?_, ?_, ?_, ?_, ?_, ?_, ?_, by decide +kernel, by decide +kernel, by decide +kernel⟩ <;>
    norm_num [roundRat, ratOf]

theorem witness_RoundingModes : 0 < 1 ∧ 2 * (1 % 2 ^ 1) = 2 ^ 1 := by decide

theorem witness_FloatExceptions : base.excEnabled .fpInvalid = false ∧ base.excEnabled .fpDivZero = false ∧
    (let t := stacked 0x7FFC0
     t.excEnabled .fpInvalid = true ∧ t.excEnabled .fpDivZero = true ∧ t.excEnabled .fpOverflow = true ∧
       t.excEnabled .fpUnderflow = true ∧ t.excEnabled .fpInexact = true) ∧
    ((classify .single (wordDatum .single 0x7FC00000)).isSignaling = true) ∧
    classify .single (wordDatum .single 0x7F800000) = .inf false ∧
    classify .single (wordDatum .single 0xFF800000) = .inf true ∧
    classify .single (wordDatum .single 0x80000000) = .zero true ∧
    classify .single (wordDatum .single 0x3F800000) = .fin false 0x800000 (-23) ∧
    classify .single (wordDatum .single 0xBF800000) = .fin true 0x800000 (-23) ∧
    base.lastVal .zero Fmt.single.bytes (.m3 1 2 3) = some 0 := by decide +kernel

/-- The invalid cells: unlike infinities added, like ones subtracted, a zero by an infinity, like operands divided. -/
theorem witness_FloatExceptions_2 : Arith.invalid .add (.inf true) (.inf false) ∧
    Arith.invalid .subr (.inf true) (.inf true) ∧ Arith.invalid .mul (.zero true) (.inf false) ∧
    Arith.invalid .mul (.inf false) (.zero true) ∧ Arith.invalid .div (.inf false) (.inf true) ∧
    Arith.invalid .divr (.zero false) (.zero true) ∧
    Arith.operands (.zero true) (.fin false 0x800000 (-23)) .divr = (.fin false 0x800000 (-23), .zero true) :=
  ⟨⟨true, rfl⟩, ⟨true, rfl⟩, ⟨true, false, .inl rfl⟩, ⟨false, true, .inr rfl⟩, ⟨false, true, .inr rfl⟩,
    ⟨true, false, .inl rfl⟩, rfl⟩

/-- The largest single number by itself and with half a unit added; the smallest normal number by itself and by a half; a
third: an overflow, one by rounding alone, a tiny result that loses information, one that loses none, and one in range that
the format does not hold. -/
theorem witness_FloatExceptions_3 :
    classify .single (wordDatum .single 0x7F7FFFFF) = .fin false 0xFFFFFF 104 ∧
    classify .single (wordDatum .single 0x73000000) = .fin false 0x800000 80 ∧
    classify .single (wordDatum .single 0x00800000) = .fin false 0x800000 (-149) ∧
    classify .single (wordDatum .single 0x3F000000) = .fin false 0x800000 (-24) ∧
    roundRat .nearest ((2 ^ 24 - 1) * (2 ^ 24 - 1) * 2 ^ 208 / 2 ^ (127 - 23)) = (2 ^ 24 - 1) * (2 ^ 24 - 1) * 2 ^ 104 ∧
    roundRat .nearest (((2 ^ 24 - 1) * 2 ^ 104 + 2 ^ 103) / 2 ^ (127 - 23)) = 2 ^ 24 ∧
    roundRat .nearest (1 / 2 ^ 252 * 2 ^ 149) = 0 ∧ roundRat .nearest (1 / 2 ^ 127 * 2 ^ 149) = 2 ^ 22 ∧
    roundRat .nearest (1 / 3 * 2 ^ 25) = 11184811 ∧ (11184811 : Rat) / 2 ^ 25 ≠ 1 / 3 := by
  refine ⟨by decide +kernel, by decide +kernel, by decide +kernel, by decide +kernel, ?_, ?_, ?_, ?_, ?_, ?_⟩
  all_goals norm_num [roundRat]

/-- The handlers of underflow, overflow and inexact are disabled, FZ off and on. -/
theorem witness_FloatExceptions_4 : base.excEnabled .fpOverflow = false ∧ base.excEnabled .fpUnderflow = false ∧
    base.excEnabled .fpInexact = false ∧ base.pswBit 11 = false ∧ base.rmode = .nearest ∧
    (let s : State := { base with psw := 0x10000000000000 }
     s.pswBit 11 = true ∧ s.excEnabled .fpUnderflow = false ∧ s.excEnabled .fpInexact = false) ∧
    (let s : State := { base with psw := 0x800000000 }
     s.excEnabled .fpInexact = true ∧ s.excEnabled .fpUnderflow = false ∧ s.excEnabled .fpOverflow = false) := by
  decide +kernel

/-- A signaling NaN to convert, in FREM and in FINP, FREM of an infinity and by zero, with the handlers disabled and enabled. -/
theorem witness_FloatExceptions_5 :
    let v := fun p => classify .double (wordDatum .double ((two p 0).reg 2))
    v 0x7FF8000000000000 = .nan false false 0x8000000000000 ∧ v 0x7FF0000000000000 = .inf false ∧
    v 0x8000000000000000 = .zero true ∧ v 0x3FF0000000000000 = .fin false (2 ^ 52) (-52) ∧
    ({ two 0 0 with psw := 0x0000AAAAAAAAAAAA } : State).excEnabled .fpInvalid = true ∧
    ({ two 0 0 with psw := 0x800000000 } : State).excEnabled .fpInexact = true ∧ (two 0 0).excEnabled .fpInvalid = false := by
  decide +kernel

/-- Conversions whose number is not the format's: 2^128 and its half unit below to single, 2^-150 and 2^-130 and 3 times 2^-150 to
single, the integer 2^24 + 1 to single; the scaled results are normal numbers. -/
theorem witness_FloatExceptions_6 :
    classify .double (wordDatum .double ((two 0x47F0000000000000 0).reg 2)) = .fin false (2 ^ 52) 76 ∧
    classify .double (wordDatum .double ((two 0x3690000000000000 0).reg 2)) = .fin false (2 ^ 52) (-202) ∧
    classify .double (wordDatum .double ((two 0x37D0000000000000 0).reg 2)) = .fin false (2 ^ 52) (-182) ∧
    ((two 0x1000001 0).reg 2).toInt = 2 ^ 24 + 1 ∧
    ratOf (.fin false (2 ^ 52) 76) = some (2 ^ 128) ∧ ratOf (.fin false (2 ^ 52) (-202)) = some (1 / 2 ^ 150) ∧
    roundRat .nearest ((2 ^ 128 : Rat) / 2 ^ 104) = 2 ^ 24 ∧ roundRat .nearest ((1 / 2 ^ 150 : Rat) * 2 ^ 149) = 0 ∧
    roundRat .nearest ((2 ^ 24 + 1 : Rat) / 2) = 2 ^ 23 ∧ ((2 ^ 23 : Int) : Rat) * 2 ≠ 2 ^ 24 + 1 ∧
    Normal .single ((2 ^ 128 : Rat) / 2 ^ 192) ∧ Normal .single ((1 / 2 ^ 150 : Rat) * 2 ^ 192) := by
  refine ⟨by decide +kernel, by decide +kernel, by decide +kernel, by decide +kernel, ?_, ?_, ?_, ?_, ?_, ?_,
    ⟨false, 0x800000, -87, by decide +kernel, by decide +kernel, by decide +kernel, by decide +kernel, ?_⟩,
    ⟨false, 0x800000, 19, by decide +kernel, by decide +kernel, by decide +kernel, by decide +kernel, ?_⟩⟩
  all_goals norm_num [roundRat, ratOf]

theorem witness_ConversionsToInteger : (base.setReg 3 0x3F800000).lastVal .zero 4 (.m3 1 2 3) = some 0x3F800000 ∧
    ratOf (classify .single (wordDatum .single 0x3F800000)) = some 1 ∧
    classify .single (wordDatum .single 0x7F800000) = .inf false ∧ base.excEnabled .fpInvalid = false ∧
    base.excEnabled .intOverflow = false ∧
    ratOf (classify .single (wordDatum .single 0x5F000000)) = some (2 ^ 63) := by
  have h : classify .single (wordDatum .single 0x5F000000) = .fin false 0x800000 40 := by decide +kernel
  refine ⟨by decide +kernel, ?_, by decide +kernel, by decide +kernel, by decide +kernel, ?_⟩
  · rw [classify_one]
    norm_num [ratOf]
  · rw [h]
    norm_num [ratOf]

theorem witness_ConversionsToInteger_2 :
    let s := (stacked 0x7FFC0).setReg 3 0x5F000000
    let t := (stacked 0x7FFC0).setReg 3 0xFF800000
    s.excEnabled .intOverflow = true ∧ s.lastVal .zero 4 (.m3 1 2 3) = some 0x5F000000 ∧ t.excEnabled .fpInvalid = true ∧
    t.lastVal .zero 4 (.m3 1 2 3) = some 0xFF800000 ∧ classify .single (wordDatum .single 0xFF800000) = .inf true := by
  decide +kernel

theorem witness_DecimalConversions : (base.setReg 3 99999999).reg 3 = BitVec.ofNat 64 99999999 ∧
    99999999 < 10 ^ 8 ∧ NumericString ((base.setReg 3 0x3939393939393939).reg 3) 99999999 ∧
    NumericString ((base.setReg 3 0x0039003800003700).reg 3) 9080070 := by
  unfold NumericString; decide +kernel

theorem witness_AsciiInstructions :
    let s := (base.setReg 2 0x3939393939393939).setReg 3 0x3030303030303030
    NumericString (s.reg 2) 99999999 ∧ NumericString (s.reg 3) 0 ∧ (4 : Reg) ≠ 1 ∧ 0 + 1 - 0 < 10 ^ 8 ∧
    ({ s with psw := 0x20000000000000 } : State).pswBit 10 = true ∧ 99999999 + 1 - 0 = 10 ^ 8 := by
  unfold NumericString; decide +kernel

/-- The operands of R372's worked example, one with seven bytes 00. -/
theorem witness_AsciiInstructions_2 :
    let s := (base.setReg 2 0x3030303030303939).setReg 3 0x31
    NumericString (s.reg 2) 99 ∧ NumericString (s.reg 3) 1 ∧ s.pswBit 10 = false ∧ 1 < 99 + 0 := by
  unfold NumericString; decide +kernel

theorem witness_LogicalInstructions : (base.setReg 3 1).lastVal .zero 8 (.m3 1 2 3) = some 1 ∧
    base.lastVal .zero 8 (.m3 1 2 3) = some 0 ∧ (1 : Word).getMsbD 63 = true ∧
    (∀ j, j < 63 → (1 : Word).getMsbD j = false) := by decide +kernel

theorem witness_IntegerCompares : base.lastVal .sign 8 (.m3 1 2 3) = some 0 ∧
    selects 0xF (wordRel .sign (base.reg 2) 0) = true ∧ selects 0 (wordRel .sign (base.reg 2) 0) = false ∧
    (0x800 : BitVec 12).getLsbD 11 = true ∧ (0x7FF : BitVec 12).getLsbD 11 = false ∧
    base.excEnabled .software = false := by decide +kernel

theorem witness_IntegerCompares_2 : (stacked 0x7FFC0).excEnabled .software = true ∧
    (stacked 0x7FFC0).lastVal .sign 8 (.m3 1 2 3) = some 0 ∧ selects 0x1 (wordRel .sign ((stacked 0x7FFC0).reg 2) 0) = true ∧
    (0x8FF : BitVec 12).getLsbD 11 = true := by decide +kernel

theorem witness_FloatCompares : (base.setReg 3 0x7F800000).lastVal .zero Fmt.single.bytes (.m3 1 2 3) = some 0x7F800000 ∧
    classify .single (wordDatum .single 0x7F800000) = .inf false ∧
    classify .single (wordDatum .single ((base.setReg 2 0x3F800000).reg 2)) = .fin false 0x800000 (-23) ∧
    (classify .single (wordDatum .single 0x7F800001)).isNan = true ∧
    (classify .single (wordDatum .single 0x7F800001)).isSignaling = false ∧
    (classify .single (wordDatum .single 0x7FC00000)).isSignaling = true ∧ (14 : Reg) ≠ 15 ∧
    classify .extended (base.pair 14) ≠ .undef ∧ base.excEnabled .fpInvalid = false ∧
    base.excEnabled .software = false := by decide +kernel

theorem witness_FloatCompares_2 :
    let s := ((stacked 0x7FFC0).setReg 2 0x3F800000).setReg 3 0x7FC00000
    s.excEnabled .fpInvalid = true ∧ s.excEnabled .software = true ∧
    s.lastVal .zero Fmt.single.bytes (.m3 1 2 3) = some 0x7FC00000 ∧
    (classify .single (wordDatum .single 0x7FC00000)).isSignaling = true ∧
    classify .single (wordDatum .single (s.reg 2)) ≠ .undef := by decide +kernel

theorem witness_StringCompares :
    let s := (((base.poke 0x2000 [1, 2, 1, 3]).setReg 1 0x2000).setReg 2 0x2002).setReg 3 2
    (s.reg 3).toInt.toNat = 2 ∧ s.byteAt (lo32 (s.reg 1) + BitVec.ofNat 32 1) = 2 ∧
    s.byteAt (lo32 (s.reg 2) + BitVec.ofNat 32 1) = 3 ∧
    (∀ j, j < 1 → s.byteAt (lo32 (s.reg 1) + BitVec.ofNat 32 j) = s.byteAt (lo32 (s.reg 2) + BitVec.ofNat 32 j)) ∧
    s.allowedRange .read (lo32 (s.reg 1)) 2 = true ∧ s.allowedRange .read (lo32 (s.reg 2)) 2 = true ∧
    ((s.reg 2).extractLsb' (8 * (7 - 0 % 8)) 8 : Byte) = 0 := by decide +kernel

theorem witness_LongConditionalBranches : 0 < ((base.setReg 1 1).reg 1).toInt ∧ ((base.setReg 1 0).reg 1).toInt = 0 ∧
    ((base.setReg 1 (-1)).reg 1).toInt < 0 := by decide +kernel

theorem witness_ShortConditionalBranches : 0 < ((base.setReg 1 0x7FFFFFFFFFFFFFFF).reg 1).toInt ∧
    ((base.setReg 1 0).reg 1).toInt = 0 ∧ ((base.setReg 1 0x8000000000000000).reg 1).toInt < 0 := by decide +kernel

theorem witness_CallsReturnsAndException : base.allowedRange .write (lo32 (base.reg 15)) 4 = true ∧
    (base.setReg 15 0x7FF00).allowedRange .read (lo32 ((base.setReg 15 0x7FF00).reg 15 + (0xFC : BitVec 8).setWidth 64)) 4 =
      true ∧ base.pswBit 56 = false := by decide +kernel

/-- Funnel 5 is disabled. -/
def closed : State := { office with enabled := office.enabled &&& ~~~BitVec.twoPow 256 5 }

theorem witness_FunnelInstructions :
    ((office.setReg 2 5).reg 2).toNat = 5 ∧ office.funnel 5 = some five ∧ closed.funnelEnabled 5 = false ∧
    office.funnelEnabled 5 = true ∧ ((office.setReg 3 15).reg 3).toNat = (15 : Chan).val ∧
    waiting.funnel 5 = some { five with queue := [hello] } ∧ hello.link = none ∧ closed.funnel 5 = some five ∧
    Assoc.sorted closed.links.entries = true ∧ Assoc.sorted closed.funnels.entries = true ∧
    Assoc.sorted closed.pages = true ∧
    ((office.putFunnel 255 five).funnel 255) = some five ∧
    (waiting.funnel 1).map (fun e => e.queue.map (·.link)) = some [none] := by decide +kernel

theorem witness_FunnelRefusals : office.funnel 3 = none ∧ ((office.setReg 2 256).reg 2).toNat = 256 ∧
    ((office.setReg 2 1).reg 2).toNat = 1 ∧ (office.funnel 1).isSome = true ∧ closed.funnelEnabled 5 = false ∧
    office.funnelEnabled 5 = true ∧ 15 < ((office.setReg 3 16).reg 3).toNat ∧ ((office.setReg 3 0).reg 3).toNat = 0 ∧
    five.queue = [] ∧ (waiting.funnel 5).map (·.queue.isEmpty) = some false ∧
    (office.funnel 1).map (·.queue) = some [] ∧
    ((office.putFunnel 1 { five with queue := [{ hello with link := some home }] }).funnel 1).isSome = true ∧
    (office.putFunnel 6 { five with queue := [{ hello with link := some home }] }).funnel 6 =
      some { five with queue := [{ hello with link := some home }] } := by decide +kernel

theorem witness_CreateFunnel : ((base.setReg 2 127).reg 2).toNat = 127 ∧ base.funnel 127 = none ∧
    base.funnels.page2 = true ∧ base.funnel 255 = none ∧ office.funnel 5 ≠ none ∧
    ((base.setReg 2 256).reg 2).toNat = 256 ∧
    ({ base with funnels := { base.funnels with page2 := false } } : State).funnels.page2 = false := by decide +kernel

/-- A free list with a head, and a table in which every ID above 20 is defined. -/
theorem witness_CreateFunnel_2 : ((base.setReg 2 0).reg 2).toNat = 0 ∧ base.funnels.nextFree = some 21 ∧ 21 ≤ 255 ∧
    ({ base.funnels with
      entries := (List.range' 1 255).map fun f => (f, five), free := [], freeTail := [] } : FunnelTable).nextFree = none := by
  decide +kernel

theorem witness_ChannelInstructions : ((base.setReg 2 0x7FFF).reg 2).setWidth 16 = (0x7FFF : BitVec 16) ∧
    ((0x8000 : BitVec 16).getLsbD 15 = true) ∧ ((0x7FFF : BitVec 16).getLsbD 15 = false) ∧
    ((base.setReg 2 0x1F).reg 2).toNat % 16 = (15 : Chan).val ∧
    (∀ p ∈ base.funnels.entries, p.2.queue = []) ∧
    (waiting.funnel 1).map (fun e => (e.queue.isEmpty, e.channel)) = some (false, 0) := by decide +kernel

theorem witness_LinksCreatedAndDeleted :
    (let s := office.poke 0x2000 [5, 0xFF, 0xFF, 0xFF]
     s.allowedRange .read (lo32 (s.reg 2)) 16 = true ∧ s.allowedRange .write (lo32 (s.reg 2) + 2) 2 = true ∧
       beNat (readBytes s.mem (lo32 (s.reg 2)) 1) = 5 ∧ s.funnel 5 = some five ∧
       beNat (readBytes s.mem (lo32 (s.reg 2) + 2) 2) = 65535 ∧ 65535 ≤ s.links.limit ∧ s.link 65535 = none) ∧
    (let s := office.poke 0x2002 [0, 30]
     Assoc.sorted s.links.entries = true ∧ Assoc.sorted s.funnels.entries = true ∧ Assoc.sorted s.pages = true ∧
       beNat (readBytes s.mem (lo32 (s.reg 2) + 2) 2) = 30 ∧ s.link 30 = some away ∧ s.link 31 = some home ∧
       away.toProcess ≠ s.processId ∧ home.toProcess = s.processId ∧ away.rights.getLsbD 4 = true) := by decide +kernel

theorem witness_LinksCreatedAndDeleted_2 :
    let s := office.poke 0x2000 [5, 0xFF, 0, 0]
    let s1 := office.poke 0x2000 [5, 0xFF, 0, 200]
    let s2 := pageless.poke 0x2000 [5, 0xFF, 0, 200]
    let s3 := ({ office with links := { office.links with limit := 50 } } : State).poke 0x2000 [5, 0xFF, 0, 51]
    let s4 := office.poke 0x2000 [3, 0xFF, 0, 30]
    beNat (readBytes s.mem (lo32 (s.reg 2) + 2) 2) = 0 ∧ s.links.nextFree = some 21 ∧
    beNat (readBytes s1.mem (lo32 (s1.reg 2) + 2) 2) = 200 ∧ s1.links.canAllocate = true ∧ s1.link 200 = none ∧
    s2.links.canAllocate = false ∧ 200 ≤ s2.links.limit ∧ s2.link 200 = none ∧ 200 / 128 ∉ s2.links.pages ∧
    s2.allowedRange .read (lo32 (s2.reg 2)) 4 = true ∧ s3.links.limit < beNat (readBytes s3.mem (lo32 (s3.reg 2) + 2) 2) ∧
    s3.funnel 5 ≠ none ∧ s4.funnel 3 = none ∧ s4.link 30 ≠ none := by decide +kernel

/-- With the first page full the next ID is the first of the second page, or there is none; and a block names funnel 1. -/
theorem witness_LinksCreatedAndDeleted_3 : LinkIdFor crowded 0 128 ∧
    NoLinkIdFor { crowded with links := { crowded.links with allocatablePages := false } } 0 11 ∧
    NoLinkIdFor { crowded with links := { crowded.links with limit := 127 } } 0 11 ∧ office.funnel 1 ≠ none ∧
    beNat (readBytes (office.poke 0x2000 [1]).mem (lo32 (office.reg 2)) 1) = 1 := by
  refine ⟨.inl ⟨rfl, .inr ⟨by decide +kernel, by decide +kernel, fun n e h => ?_, by decide +kernel,
    1, rfl, by decide +kernel, by decide +kernel, by decide +kernel, fun k h1 h2 => by omega⟩⟩,
    .inl ⟨rfl, rfl, by decide +kernel, fun h => absurd h (by decide +kernel)⟩,
    .inl ⟨rfl, rfl, by decide +kernel, fun _ q h _ _ => ?_⟩, by decide +kernel, by decide +kernel⟩
  · have h2 : ∀ p ∈ crowded.links.entries, crowded.links.pageAllocated (p.1 / linksPerPage) = true := by decide +kernel
    exact h2 _ (mem_of_get h)
  · show 127 < 128 * q
    omega

theorem witness_Send :
    let s := ((office.poke 0x2000 [0, 0, 0, 31]).setReg 3 888).setReg 5 0
    let s2 := office.poke 0x2000 [0, 0, 0, 30]
    s.allowedRange .read (lo32 (s.reg 2) + 2) 2 = true ∧ (s.reg 3).toInt + (s.reg 5).toInt = 888 ∧
    s.allowedRange .read (lo32 (s.reg 2) + 16) 888 = true ∧ s.allowedRange .read (lo32 (s.reg 4)) 0 = true ∧
    beNat (readBytes s.mem (lo32 (s.reg 2) + 2) 2) = 31 ∧ (s.lookup 31).toOption = some home ∧
    home.toProcess = s.processId ∧ home.versionId = s.versionId ∧ s.openFunnel home.toFunnel.toNat = some five ∧
    chanBit s.chanMask five.channel = false ∧ beNat (readBytes s2.mem (lo32 (s2.reg 2) + 2) 2) = 30 ∧
    (s2.lookup 30).toOption = some away ∧ away.toProcess ≠ s.processId := by decide +kernel

theorem witness_Send_2 :
    let s := (full.poke 0x2000 [0, 0, 0, 31]).setReg 5 0
    s.poolFull = true ∧ s.openFunnel home.toFunnel.toNat = some { five with queue := [hello] } ∧
    (s.lookup 31).toOption = some home ∧ home.toProcess = s.processId ∧ home.versionId = s.versionId ∧
    waiting.poolFull = false ∧ ({ waiting with params := { waiting.params with msgBufferLimit := some 3 } } : State).poolFull =
      false := by decide +kernel

/-- Link 31 into funnel 5 of this process, with every channel enabled: the arrival is accepted. -/
theorem witness_Send_3 :
    let s := ((inviting.poke 0x2000 [0, 0, 0, 31]).setReg 3 888).setReg 5 0
    (s.lookup 31).toOption = some home ∧ s.openFunnel home.toFunnel.toNat = some five ∧ s.poolFull = false ∧ s.tablesOk ∧
    Accepts s home.toFunnel.toNat five ∧ ¬ Accepts ({ s with chanMask := 0xC000 } : State) home.toFunnel.toNat five :=
  ⟨by decide +kernel, by decide +kernel, by decide +kernel, ⟨by decide +kernel, by decide +kernel, by decide +kernel⟩,
    accepts_of (by decide +kernel), fun h => absurd h.1 (by decide +kernel)⟩

/-- The status of a lookup, 0 where it finds the link. -/
def statusOf (r : Except Nat Lte) : Nat :=
  match r with
  | .error n => n
  | .ok _ => 0

theorem witness_SendRefusals :
    let s := ((office.poke 0x2000 [0, 0, 0, 31]).setReg 3 889).setReg 5 0
    office.link 2 = none ∧ ({ office with links := { office.links with limit := 31 } } : State).links.limit < 32 ∧
    s.allowedRange .read (lo32 (s.reg 2) + 2) 2 = true ∧ s.allowedRange .read (lo32 (s.reg 2) + 6) 2 = true ∧
    ((s.setReg 3 (-1)).reg 3).toInt < 0 ∧
    888 < (s.reg 3).toInt + (s.reg 5).toInt ∧ 672 < ((s.setReg 3 673).reg 3).toInt + (s.reg 5).toInt ∧
    s.allowedRange .read (lo32 (s.reg 2) + 16) 888 = true ∧
    (s.lookup 31).toOption = some home ∧ home.toProcess = s.processId ∧ home.versionId = s.versionId ∧
    ({ s with versionId := 1 } : State).versionId ≠ home.versionId ∧ closed.openFunnel home.toFunnel.toNat = none ∧
    full.poolFull = true ∧ full.openFunnel home.toFunnel.toNat ≠ none := by decide +kernel

theorem witness_SendRefusals_2 : 200 ≤ office.links.limit ∧ office.link 200 = none ∧ 200 / 128 ∉ office.links.pages ∧
    office.links.canAllocate = true ∧ pageless.links.canAllocate = false ∧ pageless.link 200 = none ∧
    ({ office with links := { office.links with allocatablePageCount := 0 } } : State).links.canAllocate = false ∧
    127 / 128 = 0 ∧ office.link 127 = none := by decide +kernel

/-- A link ID in a register whose number is no readable address: without the hardware right, and refused by the lookup. -/
theorem witness_SendRefusals_3 :
    let s := office.setReg 2 31
    s.allowedRange .read (lo32 (s.reg 2) + 2) 6 = false ∧ (s.lookup (s.reg 2).toNat).toOption = some home ∧
    home.rights.getLsbD 0 = false ∧ statusOf ((s.setReg 2 0).lookup ((s.setReg 2 0).reg 2).toNat) = 45 ∧
    statusOf ((s.setReg 2 65536).lookup ((s.setReg 2 65536).reg 2).toNat) = 43 ∧
    ({ s with params := { s.params with impl80E := true } } : State).params.impl80E = true := by decide +kernel

/-- A first link that is found, and a second that is found with the right or refused; data of no length. -/
theorem witness_SendRefusals_4 :
    let s := ((office.poke 0x2000 [0, 0, 0, 31, 0, 0, 0, 2]).setReg 3 672).setReg 5 0
    let s1 := s.poke 0x2006 [0, 30]
    (s.reg 3).toInt + (s.reg 5).toInt = 672 ∧ s.allowedRange .read (lo32 (s.reg 2) + 16) 672 = true ∧
    s.allowedRange .read (lo32 (s.reg 4)) 0 = true ∧
    (s.lookup (beNat (readBytes s.mem (lo32 (s.reg 2) + 2) 2))).toOption = some home ∧
    statusOf (s.lookup (beNat (readBytes s.mem (lo32 (s.reg 2) + 6) 2))) = 40 ∧
    (s1.lookup (beNat (readBytes s1.mem (lo32 (s1.reg 2) + 6) 2))).toOption = some away ∧
    away.rights.getLsbD 2 = true ∧ away.rights.getLsbD 3 = true := by decide +kernel

/-- The forwards: funnels 0, undefined and empty, heads with and without a link, links refused, without the right, and with it. -/
theorem witness_SendRefusals_5 :
    let s := exchanging away 31 0 0 office
    let plain : State := ({ office with params := { office.params with impl80A := true } }.enqueue 5 five hello).poke 0x2000
      [5, 0, 0, 31]
    let weak := s.putLink 31 { home with rights := 0xFD }
    s.params.impl809 = true ∧ plain.params.impl80A = true ∧ s.allowedRange .read (lo32 (s.reg 2)) 4 = true ∧
    beNat (readBytes (s.poke 0x2000 [0]).mem (lo32 (s.reg 2)) 1) = 0 ∧ s.funnel 3 = none ∧ office.funnel 5 = some five ∧
    five.queue = [] ∧ beNat (readBytes s.mem (lo32 (s.reg 2)) 1) = 5 ∧
    s.funnel 5 = some { five with queue := [{ hello with link := some away }] } ∧
    plain.funnel 5 = some { five with queue := [hello] } ∧ hello.link = none ∧
    beNat (readBytes s.mem (lo32 (s.reg 2) + 2) 2) = 31 ∧ (s.lookup 31).toOption = some home ∧
    home.rights.getLsbD 1 = true ∧ (weak.lookup 31).toOption = some { home with rights := 0xFD } ∧
    ({ home with rights := 0xFD } : Lte).rights.getLsbD 1 = false ∧ statusOf (s.lookup 2) = 40 := by decide +kernel

theorem witness_ShareLinks :
    let s := ((office.poke 0x2000 [0, 0, 0, 30, 0, 0, 0, 31]).setReg 3 672).setReg 5 0
    let s2 := s.putLink 32 away2
    Assoc.sorted s.links.entries = true ∧ Assoc.sorted s.funnels.entries = true ∧ Assoc.sorted s.pages = true ∧
    s.allowedRange .read (lo32 (s.reg 2) + 2) 6 = true ∧ (s.reg 3).toInt + (s.reg 5).toInt = 672 ∧
    s.allowedRange .read (lo32 (s.reg 2) + 16) 672 = true ∧
    s.allowedRange .read (lo32 (s.reg 4)) 0 = true ∧ (s.lookup 30).toOption = some away ∧
    (s.lookup 31).toOption = some home ∧ away.toProcess ≠ s.processId ∧ home.rights.getLsbD 2 = true ∧
    home.rights.getLsbD 3 = true ∧ home.toProcess = s.processId ∧ away.rights.getLsbD 5 = true ∧
    (s2.lookup 32).toOption = some away2 ∧ away2.rights.getLsbD 2 = false ∧
    ({ away with rights := 0xF7 } : Lte).rights.getLsbD 3 = false ∧ ({ away with rights := 0xDF } : Lte).rights.getLsbD 5 = false := by
  decide +kernel

theorem witness_ShareLinks_2 :
    let s := ((office.putLink 32 { away with toProcess := 9 }).poke 0x2000 [0, 0, 0, 31, 0, 0, 0, 32]).setReg 5 0
    (s.lookup 31).toOption = some home ∧ home.toProcess = s.processId ∧ home.versionId = s.versionId ∧
    s.openFunnel home.toFunnel.toNat = some five ∧ s.poolFull = false ∧ chanBit s.chanMask five.channel = false ∧
    (s.lookup 32).toOption = some { away with toProcess := 9 } ∧ (9 : BitVec 16) ≠ s.processId ∧
    away.rights.getLsbD 5 = true ∧ away.rights.getLsbD 6 = true ∧ away.rights.getLsbD 3 = true ∧
    (s.lookup 30).toOption = some away := by decide +kernel

theorem witness_ShareLinks_3 :
    let s := ((inviting.poke 0x2000 [0, 0, 0, 31, 0, 0, 0, 30]).setReg 3 672).setReg 5 0
    (s.lookup 31).toOption = some home ∧ (s.lookup 30).toOption = some away ∧ s.poolFull = false ∧ s.tablesOk ∧
    away.rights.getLsbD 2 = true ∧ away.rights.getLsbD 3 = true ∧ s.openFunnel home.toFunnel.toNat = some five ∧
    Accepts s home.toFunnel.toNat five :=
  ⟨by decide +kernel, by decide +kernel, by decide +kernel, ⟨by decide +kernel, by decide +kernel, by decide +kernel⟩,
    by decide +kernel, by decide +kernel, by decide +kernel, accepts_of (by decide +kernel)⟩

theorem witness_RegisterSendsAndForwards :
    let s := ({ waiting with params := { waiting.params with impl80E := true, impl80A := true, impl809 := true } } : State).poke
      0x2000 [5, 0, 0, 30]
    ((s.setReg 2 30).lookup ((s.setReg 2 30).reg 2).toNat).toOption = some away ∧ away.rights.getLsbD 0 = true ∧
    s.params.impl80E = true ∧ away.toProcess ≠ s.processId ∧ s.allowedRange .read (lo32 (s.reg 2)) 4 = true ∧
    beNat (readBytes s.mem (lo32 (s.reg 2)) 1) = 5 ∧ s.funnel 5 = some { five with queue := [hello] } ∧
    hello.link = none ∧ ((s.funnel 1).map fun e => e.queue.map (·.link)) = some [none] ∧
    beNat (readBytes (s.poke 0x2000 [1]).mem (lo32 (s.reg 2)) 1) = 1 ∧
    beNat (readBytes s.mem (lo32 (s.reg 2) + 2) 2) = 30 ∧ away.rights.getLsbD 1 = true ∧
    s.params.impl80A = true ∧ s.params.impl809 = true := by decide +kernel

/-- A message on funnel 5 forwarded, and four bytes sent, into funnel 5 of this process, every channel enabled. -/
theorem witness_RegisterSendsAndForwards_2 :
    let p := { base.params with impl80E := true, impl80A := true, impl809 := true }
    let s := (({ inviting with params := p } : State).enqueue 5 five hello).poke 0x2000 [5, 0, 0, 31]
    s.params.impl80E = true ∧ s.poolFull = false ∧ s.funnel 5 = some { five with queue := [hello] } ∧
    (s.lookup 31).toOption = some home ∧ home.rights.getLsbD 1 = true ∧
    (s.dequeue 5 { five with queue := [hello] }).openFunnel home.toFunnel.toNat = some five ∧
    (s.dequeue 5 { five with queue := [hello] }).tablesOk ∧ ({ s with lp := 15 } : State).tablesOk ∧
    Accepts ({ s with lp := 15 }.dequeue 5 { five with queue := [hello] }) 5 five ∧
    Accepts { s with lp := 15 } 5 { five with queue := [hello] } :=
  ⟨by decide +kernel, by decide +kernel, by decide +kernel, by decide +kernel, by decide +kernel, by decide +kernel,
    ⟨by decide +kernel, by decide +kernel, by decide +kernel⟩, ⟨by decide +kernel, by decide +kernel, by decide +kernel⟩,
    accepts_of (by decide +kernel), accepts_of (by decide +kernel)⟩

/-- An exchange whose ID can be had, preferred or the next free one, and one whose ID cannot; "link to be sent" found with a
right, without one, and refused. -/
theorem witness_RegisterSendsAndForwards_3 :
    let s := exchanging away 30 40 31 office
    let p : State := { s.putLink 40 away with mem := writeBytes s.mem (lo32 (s.reg 2) + 4) (beBytes 2 40) }
    s.params.impl809 = true ∧ s.allowedRange .read (lo32 (s.reg 2)) 8 = true ∧
    beNat (readBytes s.mem (lo32 (s.reg 2)) 1) = 5 ∧
    s.funnel 5 = some { five with queue := [{ hello with link := some away }] } ∧
    beNat (readBytes s.mem (lo32 (s.reg 2) + 2) 2) = 30 ∧ (s.lookup 30).toOption = some away ∧ away.rights.getLsbD 1 = true ∧
    away.toProcess ≠ s.processId ∧ beNat (readBytes s.mem (lo32 (s.reg 2) + 4) 2) = 40 ∧ LinkIdFor s 40 40 ∧
    s.links.nextFree = some 21 ∧ NoLinkIdFor s 30 12 ∧ s.allowedRange .write (lo32 (s.reg 2) + 4) 2 = true ∧
    beNat (readBytes s.mem (lo32 (s.reg 2) + 6) 2) = 31 ∧ (p.lookup 31).toOption = some home ∧
    home.rights.getLsbD 2 = true ∧ (p.lookup 40).toOption = some away ∧ statusOf (p.lookup 2) = 40 ∧
    ((p.putLink 32 { home with rights := 0xF3 }).lookup 32).toOption = some { home with rights := 0xF3 } ∧
    ({ home with rights := 0xF3 } : Lte).rights.getLsbD 2 = false ∧
    ({ home with rights := 0xF3 } : Lte).rights.getLsbD 3 = false :=
  ⟨by decide +kernel, by decide +kernel, by decide +kernel, by decide +kernel, by decide +kernel, by decide +kernel,
    by decide +kernel, by decide +kernel, by decide +kernel, .inr (by decide +kernel), by decide +kernel,
    .inr (.inr (.inl (by decide +kernel))), by decide +kernel, by decide +kernel, by decide +kernel, by decide +kernel,
    by decide +kernel, by decide +kernel, by decide +kernel, by decide +kernel, by decide +kernel⟩

/-- An exchange on a link into funnel 5 of this process: delivered and accepted as an interrupt, or turned away. -/
theorem witness_RegisterSendsAndForwards_4 :
    let s := exchanging away 31 40 31 inviting
    let p : State := { s.putLink 40 away with mem := writeBytes s.mem (lo32 (s.reg 2) + 4) (beBytes 2 40), lp := 15 }
    let fe : Funnel := { five with queue := [{ hello with link := some away }] }
    home.toProcess = s.processId ∧ home.versionId = s.versionId ∧ s.poolFull = false ∧
    (p.dequeue 5 fe).openFunnel home.toFunnel.toNat = some five ∧ (p.dequeue 5 fe).tablesOk ∧
    Accepts (p.dequeue 5 fe) 5 five ∧ ({ s with versionId := 1 } : State).versionId ≠ home.versionId ∧
    ({ s with enabled := 0 } : State).openFunnel home.toFunnel.toNat = none ∧
    ({ s with params := { s.params with msgBufferLimit := some 1 } } : State).poolFull = true :=
  ⟨by decide +kernel, by decide +kernel, by decide +kernel, by decide +kernel,
    ⟨by decide +kernel, by decide +kernel, by decide +kernel⟩, accepts_of (by decide +kernel), by decide +kernel,
    by decide +kernel, by decide +kernel⟩

/-- The base state's receives with a block of 8 bytes and a second block. -/
def receiving (ty : Byte) : State :=
  (((waiting.poke 0x2000 [5, 0, ty]).setReg 3 2).setReg 4 0x2100).setReg 5 8

theorem witness_ReceivesComplete :
    (let s := receiving 4
     s.allowedRange .read (lo32 (s.reg 2)) 3 = true ∧ s.byteAt (lo32 (s.reg 2) + 2) = 4 ∧ hello.link = none ∧
       0 ≤ (s.reg 3).toInt ∧ 0 ≤ (s.reg 5).toInt ∧ s.funnel 5 = some { five with queue := [hello] } ∧
       (s.byteAt (lo32 (s.reg 2))).toNat = 5 ∧
       ((s.store (lo32 (s.reg 2) + 8) (wordBytes hello.rci)).bind fun s1 =>
         (s1.store (lo32 (s.reg 2) + 16) (hello.data.take 2)).bind fun s2 =>
           s2.store (lo32 (s.reg 4)) ((hello.data.drop 2).take 8)).isSome = true) ∧
    bestCandidate (waiting.candidates 0x8040) =
      some { funnel := 5, entry := { five with queue := [hello] }, message := hello } := by decide +kernel

/-- A negative length of either block with a message on the funnel. -/
theorem witness_ReceivesComplete_2 :
    let s := (receiving 4).setReg 3 (-1)
    let s1 := (receiving 4).setReg 5 0x8000000000000000
    s.allowedRange .read (lo32 (s.reg 2)) 3 = true ∧ (s.reg 3).toInt < 0 ∧ (s1.reg 5).toInt < 0 ∧
    (s.byteAt (lo32 (s.reg 2))).toNat = 5 ∧ s.funnel 5 = some { five with queue := [hello] } ∧
    (bestCandidate (waiting.candidates 0x0040)).isSome = true := by decide +kernel

/-- A message with link `home` waits on funnel 5 for a receive with a type byte and a preferred ID: the hypotheses of
ReceivesOfLinks hold, by funnel and by channel. -/
def offered (ty : Byte) (pref : Nat) (u : State) : Bool :=
  let m : Message := { hello with link := some home }
  let s := (((u.enqueue 5 five m).poke 0x2000 ([5, 0x40, ty, 0] ++ beBytes 2 pref)).setReg 3 2).setReg 4 0x2100
  let pb := lo32 (s.reg 2)
  decide (s.allowedRange .read pb 3 = true) && decide (s.byteAt (pb + 2) = ty) &&
  decide (s.funnel 5 = some { five with queue := [m] }) && decide ((s.byteAt pb).toNat = 5) &&
  decide (bestCandidate (s.candidates (BitVec.ofNat 16 (beNat (readBytes s.mem pb 2)))) =
    some { funnel := 5, entry := { five with queue := [m] }, message := m }) &&
  match (s.store (pb + 8) (wordBytes m.rci)).bind fun s1 =>
      (s1.store (pb + 16) (m.data.take 2)).bind fun s2 => s2.store (lo32 (s.reg 4)) ((m.data.drop 2).take 0) with
  | some s3 => s3.allowedRange .read (pb + 4) 2 && decide (beNat (readBytes s3.mem (pb + 4) 2) = pref) &&
      ((s3.putLink (if pref = 0 then 21 else pref) home).store (pb + 4) (beBytes 2 pref)).isSome
  | none => false

theorem witness_ReceivesOfLinks : offered 0 40 office = true ∧ offered 6 0 office = true ∧ office.links.nextFree = some 21 ∧
    offered 0 30 office = true ∧ office.link 30 ≠ none ∧ office.link 40 = none ∧ offered 4 200 pageless = true ∧
    pageless.link 200 = none ∧ 200 / 128 ∉ pageless.links.pages ∧ pageless.links.canAllocate = false ∧
    offered 0 51 { office with links := { office.links with limit := 50 } } = true := by decide +kernel

/-- The next free ID on a page that can be allocated, and no free ID (`crowded`: LinkIdFor and NoLinkIdFor). -/
theorem witness_ReceivesOfLinks_2 : offered 0 0 crowded = true ∧ crowded.links.nextFree = none ∧
    offered 4 0 { crowded with links := { crowded.links with allocatablePages := false } } = true := by decide +kernel

/-- Blocks that name funnel 0 and an undefined funnel, at the last byte of a page. -/
theorem witness_ReceivesOfNothing_2 :
    let s := (base.poke 0x27FF [3]).setReg 2 0x27FF
    s.allowedRange .read (lo32 (s.reg 2)) 1 = true ∧ s.funnel (s.byteAt (lo32 (s.reg 2))).toNat = none ∧
    (base.poke 0x2000 [0]).byteAt (lo32 (base.reg 2)) = 0 := by decide +kernel

theorem witness_ReceivesOfNothing :
    let s := office.poke 0x2000 [5, 0, 1]
    let s1 := waiting.poke 0x2000 [1, 0, 0]
    s.allowedRange .read (lo32 (s.reg 2)) 3 = true ∧ s.byteAt (lo32 (s.reg 2) + 2) = 1 ∧ s.funnel 5 = some five ∧
    (s.byteAt (lo32 (s.reg 2))).toNat = 5 ∧ (s1.byteAt (lo32 (s1.reg 2))).toNat = 1 ∧ (s1.funnel 1).isSome = true ∧
    s1.byteAt (lo32 (s1.reg 2) + 2) = 0 ∧ (office.poke 0x2000 [5, 0, 4]).byteAt (lo32 (office.reg 2) + 2) = 4 ∧
    bestCandidate (s1.candidates (BitVec.ofNat 16 (beNat (readBytes s1.mem (lo32 (s1.reg 2)) 2)))) = none := by
  decide +kernel

theorem witness_ChannelReceiveChooses :
    bestCandidate (waiting.candidates 0xFFFF) =
      some { funnel := 5, entry := { five with queue := [hello] }, message := hello } ∧
    waiting.funnels.active = [5] ++ 1 :: [] := by decide +kernel

/-- Funnel 5 is active, holds a message and stands on a selected channel, and the list of active funnels is right. -/
theorem witness_ChannelReceiveChooses_2 : waiting.activeOk ∧ 5 ∈ waiting.funnels.active ∧
    waiting.funnel 5 = some { five with queue := [hello] } ∧ chanBit 0x8040 five.channel = true :=
  ⟨activeOk_of (by decide +kernel), by decide +kernel, by decide +kernel, by decide +kernel⟩

theorem witness_TableEntriesRead : office.funnel 5 = some five ∧
    (waiting.funnel 5).map (·.queue.isEmpty) = some false ∧ ((base.setReg 2 256).reg 2).toNat = 256 ∧
    (office.putFunnel 255 five).funnel 255 = some five ∧ office.funnels.page2 = true ∧ office.funnel 127 = none ∧
    office.link 30 = some away ∧ ((base.setReg 2 65536).reg 2).toNat = 65536 ∧ ((base.setReg 2 0).reg 2).toNat = 0 ∧
    (let s : State := { base with funnels := { base.funnels with page2 := false } }
     s.funnels.page2 = false ∧ ((s.setReg 2 128).reg 2).toNat = 128) := by decide +kernel

theorem witness_TableEntriesRead_2 : 200 ≤ office.links.limit ∧ office.link 200 = none ∧ 200 / 128 ≠ 0 ∧
    200 / 128 ∉ office.links.pages ∧ ((office.setReg 2 200).reg 2).toNat = 200 ∧ five.queue = [] ∧
    office.link 127 = none ∧ 127 / 128 = 0 ∧
    (let s : State := { office with links := { office.links with limit := 50 } }
     s.links.limit < ((s.setReg 2 51).reg 2).toNat ∧ ((s.setReg 2 51).reg 2).toNat ≤ 65535) := by decide +kernel

theorem witness_StatusAndSystemInstructions :
    let s := ({ base with params := { base.params with impl603 := true, impl700 := true, impl701 := true } } : State)
    let t := forcing.setReg 1 1
    (s.pageAt (lo32 (s.reg 2))).isSome = true ∧ s.params.impl603 = true ∧ s.params.impl700 = true ∧
    s.params.impl701 = true ∧ s.reg 1 ≠ s.params.mmTouch ∧ s.reg 1 ≠ s.params.mmForce ∧ s.reg 1 ≠ s.params.mmCleanse ∧
    (s.setReg 1 2).reg 1 = s.params.mmCleanse ∧ s.params.mmCleanseSync = false ∧
    t.params.impl700 = true ∧ t.reg 1 = t.params.mmForce ∧ t.reg 1 ≠ t.params.mmCleanse ∧ t.params.mmForceSync = true ∧
    t.manager = .idle ∧ ({ t with manager := .waiting } : State).manager = .waiting ∧
    ({ t with manager := .restarted } : State).manager = .restarted := by decide +kernel

end Sys2Proof.Machine
end

/-! SUPPORT. Flow of control: the encodings of the branches, what a conditional branch does when its condition holds
and when it does not, and the statements of 47_control_flow.md. -/

namespace Sys2Proof.Machine

open Sys2Proof Sys2Proof.Stmt

/-! ### Encodings -/

/-- The encoder lays a 32-bit field out big-endian (R81, R153). -/
theorem bytes32_eq_beBytes (d : BitVec 32) : bytes32 d = beBytes 4 d.toNat := by
  have hbyte (k : Nat) : d.extractLsb' k 8 = BitVec.ofNat 8 (d.toNat / 2 ^ k) := by
    rw [BitVec.extractLsb', Nat.shiftRight_eq_div_pow]
  simp [bytes32, beBytes, hbyte]

/-- A long form: nibble 3, a byte and a 32-bit field after the opcode (R522, R523, R526 to R537). -/
theorem encode_long {p : Config.Params} {i : Instr} {n x : Nib} {u : Byte} {d : BitVec 32}
    (henc : i.enc p = nonEnc 0xE n x (u :: bytes32 d)) :
    encode p i = [0xE0, byteOf n x, u] ++ beBytes 4 d.toNat := by
  rw [encode, henc, bytes32_eq_beBytes]
  rfl

/-- A long form without a register: 12 free bits over nibble 3 and the byte after it (R522, R523). -/
theorem encode_long_free {p : Config.Params} {i : Instr} {n : Nib} {u : BitVec 12} {d : BitVec 32}
    (henc : i.enc p = nonEnc 0xE n (u.extractLsb' 8 4) (u.extractLsb' 0 8 :: bytes32 d)) :
    encode p i = [0xE0, byteOf n (u.extractLsb' 8 4), u.setWidth 8] ++ beBytes 4 d.toNat := by
  have hlow : u.setWidth 8 = u.extractLsb' 0 8 := by
    ext k
    simp
  rw [hlow]
  exact encode_long henc

/-! ### Unconditional branches -/

theorem goes_of_exec_jump {i : Instr} {s : State} {a : Addr} (hexec : exec i s = jump a s) : Goes i s s a := hexec

/-! ### Conditional branches -/

/-- The relation to zero a register condition stands for (R521). -/
def Cond.rel : Cond → Int → Prop
  | .gt, n => 0 < n
  | .eq, n => n = 0
  | .ge, n => 0 ≤ n
  | .lt, n => n < 0
  | .ne, n => n ≠ 0
  | .le, n => n ≤ 0

theorem Cond.holds_iff (c : Cond) (w : Word) : c.holds w = true ↔ c.rel w.toInt := by
  cases c <;> exact decide_eq_true_iff

theorem condBranch_of_rel {c : Cond} {x : Reg} {s : State} (i : Instr) (a : Addr) (h : c.rel (s.reg x).toInt) :
    condBranch i c x a s = jump a s :=
  if_pos ((c.holds_iff _).2 h)

theorem condBranch_of_not_rel {c : Cond} {x : Reg} {s : State} (i : Instr) (a : Addr)
    (h : ¬ c.rel (s.reg x).toInt) : condBranch i c x a s = advance i s :=
  if_neg (mt (c.holds_iff _).1 h)

/-- Instruction `i` transfers control to `a` when the relation holds of the whole of Rx, and goes on `n` bytes after its
own address when it does not (R520). -/
def BranchesTo (i : Instr) (r : Int → Prop) (x : Reg) (n : Nat) (s : State) (a : Addr) : Prop :=
  (r (s.reg x).toInt → Goes i s s a) ∧ (¬ r (s.reg x).toInt → Goes i s s (s.pc + BitVec.ofNat 32 n))

theorem branchesTo_of_exec {i : Instr} {c : Cond} {x : Reg} {a : Addr} {s : State}
    (hexec : exec i s = condBranch i c x a s) : BranchesTo i c.rel x i.ilen s a := by
  constructor
  · intro hrel
    exact goes_of_exec_jump (hexec.trans (condBranch_of_rel i a hrel))
  · intro hrel
    exact (hexec.trans (condBranch_of_not_rel i a hrel)).trans advance_eq

/-- A conditional branch of the long form: its bytes, and where it goes (R526 to R537). -/
theorem long_branch {p : Config.Params} {i : Instr} {n : Nib} {x : Reg} {u : BitVec 8} {d : BitVec 32} {a : Addr}
    {s : State} (c : Cond) (henc : i.enc p = nonEnc 0xE n x (u :: bytes32 d))
    (hexec : exec i s = condBranch i c x a s) (hlen : i.ilen = 7) :
    encode p i = [0xE0, byteOf n x, u] ++ beBytes 4 d.toNat ∧ BranchesTo i c.rel x 7 s a :=
  ⟨encode_long henc, hlen ▸ branchesTo_of_exec hexec⟩

/-- A conditional branch of the short form (R538 to R543, R560 to R565). -/
theorem short_branch {p : Config.Params} {i : Instr} {n : Nib} {x : Reg} {b0 b : Byte} {a : Addr}
    {s : State} (c : Cond) (henc : i.enc p = .bytes [b0, byteOf n x, b])
    (hexec : exec i s = condBranch i c x a s) (hlen : i.ilen = 3) :
    encode p i = [b0, byteOf n x, b] ∧ BranchesTo i c.rel x 3 s a :=
  ⟨congrArg Enc.toBytes henc, hlen ▸ branchesTo_of_exec hexec⟩

/-! ### The statements -/

/-- Settles O42: every entry of the two tables is a conditional branch of the long form, under the condition of its
place in the table. -/
theorem longConditionalBranches : Obligations.LongConditionalBranches := by
  intro p x u d s
  simp only [absBranches, relBranches, List.forall_mem_cons, List.not_mem_nil, false_imp_iff, implies_true,
    and_true]
  exact
    ⟨⟨long_branch .gt rfl rfl rfl, long_branch .eq rfl rfl rfl, long_branch .ge rfl rfl rfl,
      long_branch .lt rfl rfl rfl, long_branch .ne rfl rfl rfl, long_branch .le rfl rfl rfl⟩,
     ⟨long_branch .gt rfl rfl rfl, long_branch .eq rfl rfl rfl, long_branch .ge rfl rfl rfl,
      long_branch .lt rfl rfl rfl, long_branch .ne rfl rfl rfl, long_branch .le rfl rfl rfl⟩⟩

/-- Settles O43: every entry of the two tables is a conditional branch of the short form, backward under nibble 0 = B
and forward under nibble 0 = 3. -/
theorem shortConditionalBranches : Obligations.ShortConditionalBranches := by
  intro p x b s
  simp only [backBranches, forwardBranches, List.forall_mem_cons, List.not_mem_nil, false_imp_iff, implies_true,
    and_true]
  exact
    ⟨⟨short_branch .gt rfl rfl rfl, short_branch .eq rfl rfl rfl, short_branch .ge rfl rfl rfl,
      short_branch .lt rfl rfl rfl, short_branch .ne rfl rfl rfl, short_branch .le rfl rfl rfl⟩,
     ⟨short_branch .gt rfl rfl rfl, short_branch .eq rfl rfl rfl, short_branch .ge rfl rfl rfl,
      short_branch .lt rfl rfl rfl, short_branch .ne rfl rfl rfl, short_branch .le rfl rfl rfl⟩⟩

/-- Settles O41: the long forms lay their 12 free bits out over nibble 3 and the byte after it, and each of the four
is a jump. -/
theorem unconditionalBranches : Obligations.UnconditionalBranches := by
  intro p s
  refine ⟨fun u d => ?_, fun u d => ?_, fun b => ?_, fun b => ?_⟩
  · exact ⟨encode_long_free rfl, goes_of_exec_jump rfl⟩
  · exact ⟨encode_long_free rfl, goes_of_exec_jump rfl⟩
  · exact ⟨rfl, goes_of_exec_jump rfl⟩
  · exact ⟨rfl, goes_of_exec_jump rfl⟩

end Sys2Proof.Machine

/-! SUPPORT. General instructions: the statements of 49_general.md. -/

namespace Sys2Proof.Machine

open Sys2Proof Sys2Proof.Stmt

theorem encode_nop (p : Config.Params) : encode p .nop = [0x50] := rfl

theorem exec_nop (s : State) : exec .nop s = advance .nop s := rfl

/-- NOP is one byte long, so the next instruction stands one byte on (R680). -/
theorem nextPc_nop (s : State) : s.nextPc .nop = s.pc + 1 := rfl

/-- Settles O59: the meaning of NOP is to go on to the next instruction, which stands one byte on. -/
theorem nopOnlyAdvances : Obligations.NopOnlyAdvances := by
  intro p s
  have hgoes : exec .nop s = .next (s.setPc (s.pc + 1)) := by
    rw [exec_nop, advance_eq, nextPc_nop]
  exact ⟨encode_nop p, hgoes⟩

end Sys2Proof.Machine

/-! SUPPORT. Decoding and encoding: what the decoder makes of each layout of the encoder, the rows of the opcode tables as
the encoder lays them out, and the two statements of the round trip (30_encoding.md). -/

namespace Sys2Proof

open Config Sys2Proof.Stmt

/-! ### Nibbles, fields and bytes put together again -/

theorem nibs_hiNib_loNib (b : Byte) : nibs (hiNib b) (loNib b) = b := by
  unfold nibs hiNib loNib
  ext i hi
  simp only [BitVec.getElem_append, BitVec.getElem_extractLsb']
  split
  · simp [BitVec.getLsbD_eq_getElem hi]
  · rw [show 4 + (i - 4) = i by omega, BitVec.getLsbD_eq_getElem hi]

/-- A field of two parts comes back from its halves. -/
theorem append_extractLsb' {n m : Nat} (v : BitVec (m + n)) :
    v.extractLsb' n m ++ v.extractLsb' 0 n = v := by
  ext i hi
  simp only [BitVec.getElem_append, BitVec.getElem_extractLsb']
  split
  · simp [BitVec.getLsbD_eq_getElem hi]
  · rw [show n + (i - n) = i by omega, BitVec.getLsbD_eq_getElem hi]

/-- The high half of two fields put together. -/
theorem extractLsb'_append_high {n m : Nat} (a : BitVec m) (b : BitVec n) : (a ++ b).extractLsb' n m = a := by
  ext i hi
  simp [BitVec.getLsbD_append, BitVec.getLsbD_eq_getElem hi]

/-- The low half. -/
theorem extractLsb'_append_low {n m : Nat} (a : BitVec m) (b : BitVec n) : (a ++ b).extractLsb' 0 n = b := by
  ext i hi
  simp [BitVec.getLsbD_append, hi]

@[simp] theorem hiNib_append (h l : Nib) : hiNib (h ++ l) = h := hiNib_nibs h l
@[simp] theorem loNib_append (h l : Nib) : loNib (h ++ l) = l := loNib_nibs h l

@[simp] theorem field12_parts (v : BitVec 12) : field12 (v.extractLsb' 8 4) (v.extractLsb' 0 8) = v :=
  append_extractLsb' (n := 8) (m := 4) v

@[simp] theorem field16_parts (v : BitVec 16) : field16 (v.extractLsb' 8 8) (v.extractLsb' 0 8) = v :=
  append_extractLsb' (n := 8) (m := 8) v

@[simp] theorem field32_parts (v : BitVec 32) :
    field32 (v.extractLsb' 24 8) (v.extractLsb' 16 8) (v.extractLsb' 8 8) (v.extractLsb' 0 8) = v := by
  unfold field32
  ext i hi
  simp only [BitVec.getElem_append, BitVec.getElem_extractLsb']
  split_ifs
  · simp [BitVec.getLsbD_eq_getElem hi]
  · rw [show 8 + (i - 8) = i by omega, BitVec.getLsbD_eq_getElem hi]
  · rw [show 16 + (i - 8 - 8) = i by omega, BitVec.getLsbD_eq_getElem hi]
  · rw [show 24 + (i - 8 - 8 - 8) = i by omega, BitVec.getLsbD_eq_getElem hi]

theorem bytes12_field12 (h n : Nib) (b : Byte) : bytes12 h (field12 n b) = [nibs h n, b] := by
  unfold bytes12 field12
  rw [extractLsb'_append_high, extractLsb'_append_low]

theorem bytes16_field16 (a b : Byte) : bytes16 (field16 a b) = [a, b] := by
  unfold bytes16 field16
  rw [extractLsb'_append_high, extractLsb'_append_low]

theorem bytes32_field32 (a b c d : Byte) : bytes32 (field32 a b c d) = [a, b, c, d] := by
  unfold bytes32 field32
  congr 1
  · ext i hi
    simp only [BitVec.getElem_extractLsb', BitVec.getLsbD_append]
    rw [if_neg (by omega), if_neg (by omega), if_neg (by omega), ← BitVec.getLsbD_eq_getElem]
    congr 1; omega
  congr 1
  · ext i hi
    simp only [BitVec.getElem_extractLsb', BitVec.getLsbD_append]
    rw [if_neg (by omega), if_neg (by omega), if_pos (by omega), ← BitVec.getLsbD_eq_getElem]
    congr 1; omega
  congr 1
  · ext i hi
    simp only [BitVec.getElem_extractLsb', BitVec.getLsbD_append]
    rw [if_neg (by omega), if_pos (by omega), ← BitVec.getLsbD_eq_getElem]
    congr 1; omega
  congr 1
  exact extractLsb'_append_low _ _

/-! ### Tables -/

theorem findRow_append {α : Type} (l l' : List (Nat × α)) (n : Nat) :
    findRow (l ++ l') n = (findRow l n).or (findRow l' n) := by
  induction l with
  | nil => rfl
  | cons e t ih =>
    obtain ⟨k, a⟩ := e
    by_cases h : k = n
    · simp [findRow, h]
    · simp [findRow, h, ih]

theorem mem_of_findRow {α : Type} {l : List (Nat × α)} {n : Nat} {a : α} (h : findRow l n = some a) : (n, a) ∈ l := by
  induction l with
  | nil => cases h
  | cons e t ih =>
    obtain ⟨k, b⟩ := e
    simp only [findRow] at h
    split_ifs at h with hk
    · cases h; exact hk ▸ List.mem_cons_self
    · exact List.mem_cons_of_mem _ (ih h)

/-- In a table without two rows under a key every row is the one found under its key. -/
theorem findRow_of_mem {α : Type} {l : List (Nat × α)} {n : Nat} {a : α} (hl : (l.map Prod.fst).Nodup)
    (h : (n, a) ∈ l) : findRow l n = some a := by
  induction l with
  | nil => cases h
  | cons e t ih =>
    obtain ⟨k, b⟩ := e
    simp only [List.map_cons, List.nodup_cons] at hl
    rcases List.mem_cons.mp h with h | h
    · cases h; simp [findRow]
    · have hk : k ≠ n := fun e => hl.1 (e ▸ List.mem_map_of_mem (f := Prod.fst) h)
      simp [findRow, hk, ih hl.2 h]

/-! ### Generalized and short-op instructions (R142, R143, R150) -/

/-- The modes of the short-ops (R141). -/
def shortModes : List Nat := [0, 1, 8, 9, 10]

/-- A short-op: its bank has a row for the nibble after the mode (R143, R169). -/
theorem decode_short {p : Params} {m n : Nib} {row : Row} (b1 : Byte) (r : List Byte) (hn : n ≠ 0)
    (hm : isShortMode m = true) (hr : shortRow p m.toNat n = some row) :
    decode p (nibs m n :: b1 :: r) = finishRow p row (shortOperand m b1) r := by
  have h2 : m ≠ 2 := by rintro rfl; cases hm
  simp only [decode, hiNib_nibs, loNib_nibs, if_neg hn, if_neg h2, if_pos hm, hr]

/-- A long form: the table has a row for OP1 and OP2, and the operand of the mode follows (R142, R169). -/
theorem decode_long {p : Params} {m x : Nib} {op : Byte} {row : Row} {o : GOp} {r r' : List Byte}
    (hm : isShortMode m = false) (h2 : m ≠ 2) (hr : findRow longRows op.toNat = some row) (h0 : hiNib op ≠ 0)
    (ho : longOperand m x r = some (o, r')) :
    decode p (nibs m (hiNib op) :: nibs (loNib op) x :: r) = finishRow p row o r' := by
  simp only [decode, hiNib_nibs, loNib_nibs, nibs_hiNib_loNib, if_neg h0, if_neg h2, hm, Bool.false_eq_true, if_false,
    hr, ho]

/-- An operand laid out is read back: by the long opcode in a long mode, by the mode's short opcode in a short mode. -/
theorem decode_encodeOp {p : Params} {op : Byte} {sh : List (Nat × Nib)} {row : Row} {o : GOp} (rest : List Byte)
    (hlong : o.mode ∉ shortModes → findRow longRows op.toNat = some row ∧ hiNib op ≠ 0)
    (hshort : o.mode ∈ shortModes →
      shortRow p o.mode (shortNib sh o.mode) = some row ∧ shortNib sh o.mode ≠ 0) :
    decode p (encodeOp op sh o ++ rest) = finishRow p row o rest := by
  have short : ∀ {m : Nib} {b1 : Byte}, m.toNat = o.mode → isShortMode m = true → o.mode ∈ shortModes →
      shortOperand m b1 = o → decode p (nibs m (shortNib sh o.mode) :: b1 :: rest) = finishRow p row o rest := by
    intro m b1 hm hs ho hb
    obtain ⟨hr, h0⟩ := hshort ho
    rw [decode_short b1 rest h0 hs (by rw [hm]; exact hr), hb]
  have long : ∀ {m x : Nib} {r : List Byte}, o.mode ∉ shortModes → isShortMode m = false → m ≠ 2 →
      longOperand m x r = some (o, rest) →
      decode p (nibs m (hiNib op) :: nibs (loNib op) x :: r) = finishRow p row o rest := by
    intro m x r ho hs h2 hb
    obtain ⟨hr, h0⟩ := hlong ho
    exact decode_long hs h2 hr h0 hb
  cases o with
  | m0 w x => exact short rfl rfl (by simp [GOp.mode, shortModes]) (by simp [shortOperand])
  | m1 w x => exact short rfl rfl (by simp [GOp.mode, shortModes]) (by simp [shortOperand])
  | m8 w x => exact short rfl rfl (by simp [GOp.mode, shortModes]) (by simp [shortOperand])
  | m9 w x => exact short rfl rfl (by simp [GOp.mode, shortModes]) (by simp [shortOperand])
  | mA w x => exact short rfl rfl (by simp [GOp.mode, shortModes]) (by simp [shortOperand])
  | m3 x y z => exact long (by simp [GOp.mode, shortModes]) rfl (by decide) (by simp [longOperand])
  | m4 x e => exact long (by simp [GOp.mode, shortModes]) rfl (by decide) (by simp [longOperand, bytes16])
  | m5 x y e => exact long (by simp [GOp.mode, shortModes]) rfl (by decide) (by simp [longOperand, bytes12])
  | m6 x y u e => exact long (by simp [GOp.mode, shortModes]) rfl (by decide) (by simp [longOperand, bytes32])
  | m7 x y u e => exact long (by simp [GOp.mode, shortModes]) rfl (by decide) (by simp [longOperand, bytes32])
  | mB x y z => exact long (by simp [GOp.mode, shortModes]) rfl (by decide) (by simp [longOperand])
  | mC x y z => exact long (by simp [GOp.mode, shortModes]) rfl (by decide) (by simp [longOperand])
  | mD x y e => exact long (by simp [GOp.mode, shortModes]) rfl (by decide) (by simp [longOperand, bytes12])
  | mE x y z e => exact long (by simp [GOp.mode, shortModes]) rfl (by decide) (by simp [longOperand, bytes32])
  | mF x y z e => exact long (by simp [GOp.mode, shortModes]) rfl (by decide) (by simp [longOperand, bytes32])

/-- A row and the encoder's opcodes agree on the modes `ms`: the row stands in the long table if one of them is a long mode,
and in the bank of each short one. -/
structure Row.Fits (p : Params) (row : Row) (op : Byte) (sh : List (Nat × Nib)) (ms : List Nat) : Prop where
  long : (∃ m ∈ ms, m ∉ shortModes) → findRow longRows op.toNat = some row ∧ hiNib op ≠ 0
  short : ∀ e ∈ sh, e.1 ∈ ms → shortRow p e.1 e.2 = some row ∧ e.2 ≠ 0
  modes : ∀ m ∈ ms, m ∈ shortModes → (findRow sh m).isSome

theorem Row.Fits.decode {p : Params} {row : Row} {op : Byte} {sh : List (Nat × Nib)} {ms : List Nat} {o : GOp}
    (hf : row.Fits p op sh ms) (ho : modeIn ms o = true) (rest : List Byte) :
    decode p (encodeOp op sh o ++ rest) = finishRow p row o rest := by
  have hm : o.mode ∈ ms := of_decide_eq_true ho
  refine decode_encodeOp rest (fun h => hf.long ⟨_, hm, h⟩) fun h => ?_
  obtain ⟨n, hn⟩ := Option.isSome_iff_exists.mp (hf.modes _ hm h)
  have := hf.short _ (mem_of_findRow hn) hm
  rwa [shortNib, hn, Option.getD_some]

/-- An operation with no short opcode. -/
theorem Row.fits_long {p : Params} {row : Row} {op : Byte} {sh : List (Nat × Nib)} {ms : List Nat}
    (hr : findRow longRows op.toNat = some row) (h0 : hiNib op ≠ 0) (hm : ∀ m ∈ ms, m ∉ shortModes)
    (hs : ∀ e ∈ sh, e.1 ∉ ms) : row.Fits p op sh ms :=
  ⟨fun _ => ⟨hr, h0⟩, fun e he h => absurd h (hs e he), fun m h h' => absurd h' (hm m h)⟩

/-- An operation with one short opcode. -/
theorem Row.fits_one {p : Params} {row : Row} {op : Byte} {m : Nat} {n : Nib} {ms : List Nat}
    (hr : findRow longRows op.toNat = some row) (h0 : hiNib op ≠ 0) (hn : n ≠ 0) (hs : shortRow p m n = some row)
    (hm : ∀ k ∈ ms, k ∈ shortModes → k = m) : row.Fits p op [(m, n)] ms :=
  ⟨fun _ => ⟨hr, h0⟩, fun e he _ => by rw [List.mem_singleton.mp he]; exact ⟨hs, hn⟩,
    fun k h h' => by simp [findRow, hm k h h']⟩

/-- An operation with two short opcodes. -/
theorem Row.fits_two {p : Params} {row : Row} {op : Byte} {m m' : Nat} {n n' : Nib} {ms : List Nat}
    (hr : findRow longRows op.toNat = some row) (h0 : hiNib op ≠ 0) (hn : n ≠ 0) (hn' : n' ≠ 0)
    (hs : shortRow p m n = some row) (hs' : shortRow p m' n' = some row)
    (hm : ∀ k ∈ ms, k ∈ shortModes → k = m ∨ k = m') : row.Fits p op [(m, n), (m', n')] ms :=
  ⟨fun _ => ⟨hr, h0⟩,
    List.forall_mem_cons.mpr ⟨fun _ => ⟨hs, hn⟩, List.forall_mem_singleton.mpr fun _ => ⟨hs', hn'⟩⟩, fun k h h' => by
    by_cases hk : m = k
    · simp [findRow, hk]
    · simp only [findRow, if_neg hk, if_pos ((hm k h h').resolve_left fun e => hk e.symm).symm, Option.isSome_some]⟩

/-- An operation that has its short form alone. -/
theorem Row.fits_short {p : Params} {row : Row} {op : Byte} {m : Nat} {n : Nib} {sh : List (Nat × Nib)}
    (hm : m ∈ shortModes) (hf : findRow sh m = some n) (hn : n ≠ 0) (hs : shortRow p m n = some row)
    (hu : ∀ e ∈ sh, e.1 = m → e.2 = n) : row.Fits p op sh [m] :=
  ⟨fun ⟨k, hk, h⟩ => absurd (by simpa [List.mem_singleton.mp hk] using hm) h,
    fun e he h => by
      have h1 := List.mem_singleton.mp h
      rw [h1, hu e he h1]
      exact ⟨hs, hn⟩,
    fun k h _ => by simp [List.mem_singleton.mp h, hf]⟩

theorem decode_plain {p : Params} {c : GOp → Instr} {op : Byte} {sh : List (Nat × Nib)} {ms : List Nat} {o : GOp}
    {rest : List Byte} (henc : (c o).enc p = .gen op sh o none) (hf : (Row.plain c).Fits p op sh ms)
    (hm : modeIn ms o = true) (hw : (c o).wellFormed p = true) :
    decode p (encode p (c o) ++ rest) = .ok (c o, rest) := by
  rw [encode, henc, Enc.toBytes, hf.decode hm, finishRow, if_pos hw]

theorem decode_cmp {p : Params} {c : GOp → App → Instr} {op : Byte} {sh : List (Nat × Nib)} {ms : List Nat} {o : GOp}
    {a : App} {rest : List Byte} (henc : (c o a).enc p = .gen op sh o (some a)) (hf : (Row.cmp c).Fits p op sh ms)
    (hm : modeIn ms o = true) (hw : (c o ⟨0, 0⟩).wellFormed p = true) :
    decode p (encode p (c o a) ++ rest) = .ok (c o a, rest) := by
  rw [encode, henc, Enc.toBytes, List.append_assoc, hf.decode hm]
  simp only [App.bytes, bytes12, List.cons_append, List.nil_append, finishRow, if_pos hw, hiNib_nibs, loNib_nibs,
    field12_parts]

/-! ### Non-generalized instructions (R141, R144, R164) -/

/-- All rows of the non-generalized tables. -/
def allNonRows (p : Params) : List (Nat × NRow) := nonRows ++ paramNonRows p

theorem nonRow_eq (p : Params) (op0 op2 : Nib) :
    nonRow p op0 op2 = findRow (allNonRows p) (op0.toNat * 16 + op2.toNat) := by
  rw [allNonRows, findRow_append, nonRow]
  cases findRow nonRows (op0.toNat * 16 + op2.toNat) <;> rfl

/-- The keys of the rows with a lost nibble, by group (R655, R670). -/
theorem paramNonRows_keys (p : Params) : (paramNonRows p).map Prod.fst =
    (p.opc.group80.drop 3).map (fun n => 0x80 + n.toNat) ++ ((p.opc.group90.drop 2).map (fun n => 0x90 + n.toNat) ++
      (p.opc.group60.drop 2).map (fun n => 0x60 + n.toNat)) := rfl

/-- A group's keys are apart from each other and from the listed keys, if its nibbles are apart from each other and from
the listed ones. -/
theorem group_keys {known free : List Nib} {base : Nat} (h : (known ++ free).Nodup)
    (hk : ∀ k ∈ nonRows.map Prod.fst, ∀ n : Nib, k = base + n.toNat → n ∈ known) :
    (free.map fun n => base + n.toNat).Nodup ∧
      ∀ k ∈ nonRows.map Prod.fst, k ∉ free.map fun n => base + n.toNat := by
  rw [List.nodup_append] at h
  obtain ⟨-, hf, hd⟩ := h
  refine ⟨hf.map fun a b hab => BitVec.eq_of_toNat_eq (by simpa using hab), fun k hk' hm => ?_⟩
  obtain ⟨n, hn, rfl⟩ := List.mem_map.mp hm
  exact hd n (hk _ hk' n rfl) n hn rfl

/-- No two rows of the non-generalized tables share a key (R655, R670). -/
theorem allNonRows_nodup {p : Params} (h : p.valid = true) : ((allNonRows p).map Prod.fst).Nodup := by
  have hv : p.opc.valid = true := by
    simp only [Params.valid, Bool.and_eq_true] at h
    exact h.1.1.1.1.1
  simp only [OpcodeMap.valid, Bool.and_eq_true, decide_eq_true_eq] at hv
  obtain ⟨⟨h8, h9⟩, h6⟩ := hv
  obtain ⟨n8, d8⟩ := group_keys (base := 0x80) (known := [9, 0xA, 0xE]) (free := p.opc.group80.drop 3) h8 (by decide)
  obtain ⟨n9, d9⟩ := group_keys (base := 0x90) (known := [1, 0xE]) (free := p.opc.group90.drop 2) h9 (by decide)
  obtain ⟨n6, d6⟩ := group_keys (base := 0x60) (known := [0, 3]) (free := p.opc.group60.drop 2) h6 (by decide)
  have apart : ∀ {l l' : List Nib} {b b' : Nat}, b + 16 ≤ b' ∨ b' + 16 ≤ b → ∀ k ∈ l.map (fun n => b + n.toNat),
      ∀ k' ∈ l'.map (fun n => b' + n.toNat), k ≠ k' := by
    intro l l' b b' hb k hk k' hk' he
    obtain ⟨n, -, rfl⟩ := List.mem_map.mp hk
    obtain ⟨n', -, rfl⟩ := List.mem_map.mp hk'
    have := n.isLt
    have := n'.isLt
    omega
  rw [allNonRows, List.map_append, paramNonRows_keys, List.nodup_append]
  refine ⟨by decide, ?_, fun k hk k' hk' he => ?_⟩
  · rw [List.nodup_append, List.nodup_append]
    refine ⟨n8, ⟨n9, n6, apart (by omega)⟩, fun k hk k' hk' => ?_⟩
    rcases List.mem_append.mp hk' with hk' | hk'
    · exact apart (by omega) k hk k' hk'
    · exact apart (by omega) k hk k' hk'
  · subst he
    rcases List.mem_append.mp hk' with hk' | hk'
    · exact d8 k hk hk'
    · rcases List.mem_append.mp hk' with hk' | hk'
      · exact d9 k hk hk'
      · exact d6 k hk hk'

/-- A row with a lost nibble is found at its key. -/
theorem nonRow_of_param {p : Params} (h : p.valid = true) {op0 op2 : Nib} {row : NRow}
    (hm : (op0.toNat * 16 + op2.toNat, row) ∈ paramNonRows p) : nonRow p op0 op2 = some row := by
  rw [nonRow_eq]
  exact findRow_of_mem (allNonRows_nodup h) (List.mem_append_right _ hm)

/-- A row whose OP0 is that of a three-nibble format is found, and its fields follow (R164, R169). -/
theorem decode_non {p : Params} {i : Instr} {op0 op2 x : Nib} {r rest : List Byte} {row : NRow}
    (henc : i.enc p = nonEnc op0 op2 x r) (h0 : op0 ∉ ([1, 5, 4, 0xC, 2, 0xA] : List Nib))
    (hr : nonRow p op0 op2 = some row) (hf : finishNon row x (r ++ rest) = .ok (i, rest)) :
    decode p (encode p i ++ rest) = .ok (i, rest) := by
  simp only [List.mem_cons, List.not_mem_nil, or_false, not_or] at h0
  obtain ⟨h1, h5, h4, hC, h2, hA⟩ := h0
  rw [encode, henc, nonEnc, Enc.toBytes, List.cons_append, List.cons_append, decode]
  simp only [loNib_nibs, hiNib_nibs, if_true]
  rw [decodeNon, if_neg h1, if_neg h5, if_neg (by simp only [h4, hC, or_self, not_false_iff])]
  simp only [if_neg h2, if_neg hA, hiNib_nibs, loNib_nibs, hr, hf]

/-! ### The fields of each shape, read back -/

section
variable (x y z t v : Nib) (b : Byte) (d : BitVec 32) (rest : List Byte)

theorem finishNon_x (c : Reg → Instr) : finishNon (.x c) x ([] ++ rest) = .ok (c x, rest) := rfl

theorem finishNon_xyz (c : Reg → Reg → Reg → Instr) :
    finishNon (.xyz c) x ([nibs y z] ++ rest) = .ok (c x y z, rest) := by simp [finishNon]

theorem finishNon_xb (c : Nib → BitVec 8 → Instr) : finishNon (.xb c) x ([b] ++ rest) = .ok (c x b, rest) := rfl

theorem finishNon_xyztv (c : Reg → Reg → Reg → Reg → Reg → Instr) :
    finishNon (.xyztv c) x ([nibs y z, nibs t v] ++ rest) = .ok (c x y z t v, rest) := by simp [finishNon]

theorem finishNon_xud (c : Reg → BitVec 8 → BitVec 32 → Instr) :
    finishNon (.xud c) x ((b :: bytes32 d) ++ rest) = .ok (c x b d, rest) := by simp [finishNon, bytes32]

theorem finishNon_ud (c : BitVec 12 → BitVec 32 → Instr) (u : BitVec 12) :
    finishNon (.ud c) (u.extractLsb' 8 4) ((u.extractLsb' 0 8 :: bytes32 d) ++ rest) = .ok (c u d, rest) := by
  simp [finishNon, bytes32]

theorem finishNon_xyza (c : Reg → Reg → Reg → App → Instr) (a : App) :
    finishNon (.xyza c) x ((nibs y z :: a.bytes) ++ rest) = .ok (c x y z a, rest) := by
  simp [finishNon, App.bytes, bytes12]

theorem finishNon_xyzf (c : Reg → Reg → Reg → FieldApp → Instr) (f : FieldApp) :
    finishNon (.xyzf c) x ((nibs y z :: f.bytes) ++ rest) = .ok (c x y z f, rest) := by
  have hi : ∀ (a : BitVec 2) (b : BitVec 6), (a ++ b : Byte).extractLsb' 6 2 = a := extractLsb'_append_high
  have lo : ∀ (a : BitVec 2) (b : BitVec 6), (a ++ b : Byte).extractLsb' 0 6 = b := extractLsb'_append_low
  simp [finishNon, FieldApp.bytes, hi, lo]

end

/-! ### The short opcodes that a parameter fixes (R203, R206, R267, R334, R412) -/

theorem shortRow_ldz {p : Params} : (p.sh91 = .w8 → shortRow p 9 1 = some (.plain .ldz8)) ∧
    (p.sh91 = .w32 → shortRow p 9 1 = some (.plain .ldz32)) := by
  unfold shortRow paramShortRow
  exact ⟨fun h => by rw [h]; rfl, fun h => by rw [h]; rfl⟩

theorem shortRow_st {p : Params} : (p.sh87 = .w8 → shortRow p 8 7 = some (.plain .st8)) ∧
    (p.sh87 = .w64 → shortRow p 8 7 = some (.plain .st64)) := by
  unfold shortRow paramShortRow
  exact ⟨fun h => by rw [h]; rfl, fun h => by rw [h]; rfl⟩

theorem shortRow_sll2 {p : Params} : (p.sh8D = .w32 → shortRow p 8 0xD = some (.plain .sll2w32)) ∧
    (p.sh8D = .w64 → shortRow p 8 0xD = some (.plain .sll2w64)) := by
  unfold shortRow paramShortRow
  exact ⟨fun h => by rw [h]; rfl, fun h => by rw [h]; rfl⟩

theorem findRow_bank0 {n : Nib} (h : n ∉ bank0Taken) : findRow shortRows (0 * 16 + n.toNat) = none := by
  have hall : ∀ n : Nib, n ∉ bank0Taken → (findRow shortRows (0 * 16 + n.toNat)).isNone = true := by decide
  exact Option.isNone_iff_eq_none.mp (hall n h)

/-- The bank-0 nibbles of ADD.64 and MUL.64 are apart, not zero, and no other instruction's (R267). -/
theorem short64_of_valid {p : Params} (h : p.valid = true) : p.shortAdd64 ≠ 0 ∧ p.shortMul64 ≠ 0 ∧
    p.shortMul64 ≠ p.shortAdd64 ∧ p.shortAdd64 ∉ bank0Taken ∧ p.shortMul64 ∉ bank0Taken := by
  simp only [Params.valid, Bool.and_eq_true, decide_eq_true_eq] at h
  obtain ⟨⟨⟨⟨⟨-, ha⟩, hm⟩, hne⟩, ha'⟩, hm'⟩ := h
  exact ⟨ha, hm, hne.symm, ha', hm'⟩

theorem shortRow_add64 {p : Params} (h : p.valid = true) :
    p.shortAdd64 ≠ 0 ∧ shortRow p 0 p.shortAdd64 = some (.plain .add64) := by
  obtain ⟨h0, -, -, hf, -⟩ := short64_of_valid h
  refine ⟨h0, ?_⟩
  rw [shortRow, findRow_bank0 hf]
  exact if_pos ⟨rfl, rfl⟩

theorem shortRow_mul64 {p : Params} (h : p.valid = true) :
    p.shortMul64 ≠ 0 ∧ shortRow p 0 p.shortMul64 = some (.plain .mul64) := by
  obtain ⟨-, h0, hne, -, hf⟩ := short64_of_valid h
  refine ⟨h0, ?_⟩
  rw [shortRow, findRow_bank0 hf]
  exact (if_neg fun e => hne e.2).trans (if_pos ⟨rfl, rfl⟩)

/-- An operation whose modes a parameter widens. -/
theorem decode_plain_or {p : Params} {c : GOp → Instr} {op : Byte} {sh : List (Nat × Nib)} {ms ms' : List Nat} {o : GOp}
    {b : Bool} {rest : List Byte} (henc : (c o).enc p = .gen op sh o none) (hf : (Row.plain c).Fits p op sh ms)
    (hf' : b = true → (Row.plain c).Fits p op sh ms') (hm : (modeIn ms o || (b && modeIn ms' o)) = true)
    (hw : (c o).wellFormed p = true) : decode p (encode p (c o) ++ rest) = .ok (c o, rest) := by
  rcases Bool.or_eq_true_iff.mp hm with hm | hm
  · exact decode_plain henc hf hm hw
  · obtain ⟨hb, hm⟩ := Bool.and_eq_true_iff.mp hm
    exact decode_plain henc (hf' hb) hm hw

/-- SLL2.64's rows but mode 8 (R412). -/
theorem fits_sll2w64 {p : Params} : (Row.plain .sll2w64).Fits p 0xB5 [(0, 0xD), (8, 0xD)] [0, 3, 4, 6, 11, 12, 13, 14, 15] :=
  ⟨fun _ => ⟨rfl, by decide⟩, List.forall_mem_cons.mpr ⟨fun _ => ⟨rfl, by decide⟩,
    List.forall_mem_singleton.mpr fun h => absurd h (by decide)⟩, by decide⟩

/-! ### The round trip -/

set_option maxRecDepth 1000 in
/-- Every instruction of the table is read back from its encoding, whatever follows: one case per constructor, over the
opcodes of its row. -/
theorem decode_encode {p : Params} {i : Instr} (rest : List Byte) (hv : p.valid = true) (h : i.wellFormed p = true) :
    decode p (encode p i ++ rest) = .ok (i, rest) := by
  cases i with
  | ld8 o => exact decode_plain rfl (Row.fits_long rfl (by decide) (by decide) (by decide)) h h
  | ld16 o => exact decode_plain rfl (Row.fits_long rfl (by decide) (by decide) (by decide)) h h
  | ld32 o => exact decode_plain rfl (Row.fits_two rfl (by decide) (by decide) (by decide) rfl rfl (by decide)) h h
  | ld64 o => exact decode_plain rfl (Row.fits_one rfl (by decide) (by decide) rfl (by decide)) h h
  | ldz8 o => exact decode_plain_or rfl (Row.fits_long rfl (by decide) (by decide) (by decide)) (fun hp =>
      Row.fits_short (by decide) rfl (by decide) (shortRow_ldz.1 (of_decide_eq_true hp)) (by decide)) h h
  | ldz16 o => exact decode_plain rfl (Row.fits_long rfl (by decide) (by decide) (by decide)) h h
  | ldz24 o => exact decode_plain rfl (Row.fits_long rfl (by decide) (by decide) (by decide)) h h
  | ldz32 o => exact decode_plain_or rfl (Row.fits_long rfl (by decide) (by decide) (by decide)) (fun hp =>
      Row.fits_short (by decide) rfl (by decide) (shortRow_ldz.2 (of_decide_eq_true hp)) (by decide)) h h
  | ldz40 o => exact decode_plain rfl (Row.fits_long rfl (by decide) (by decide) (by decide)) h h
  | ldz48 o => exact decode_plain rfl (Row.fits_long rfl (by decide) (by decide) (by decide)) h h
  | ldz56 o => exact decode_plain rfl (Row.fits_long rfl (by decide) (by decide) (by decide)) h h
  | st8 o => exact decode_plain_or rfl (Row.fits_long rfl (by decide) (by decide) (by decide)) (fun hp =>
      Row.fits_short (by decide) rfl (by decide) (shortRow_st.1 (of_decide_eq_true hp)) (by decide)) h h
  | st16 o => exact decode_plain rfl (Row.fits_long rfl (by decide) (by decide) (by decide)) h h
  | st24 o => exact decode_plain rfl (Row.fits_long rfl (by decide) (by decide) (by decide)) h h
  | st32 o => exact decode_plain rfl (Row.fits_two rfl (by decide) (by decide) (by decide) rfl rfl (by decide)) h h
  | st40 o => exact decode_plain rfl (Row.fits_long rfl (by decide) (by decide) (by decide)) h h
  | st48 o => exact decode_plain rfl (Row.fits_long rfl (by decide) (by decide) (by decide)) h h
  | st56 o => exact decode_plain rfl (Row.fits_long rfl (by decide) (by decide) (by decide)) h h
  | st64 o => exact decode_plain_or rfl (Row.fits_long rfl (by decide) (by decide) (by decide)) (fun hp =>
      Row.fits_short (by decide) rfl (by decide) (shortRow_st.2 (of_decide_eq_true hp)) (by decide)) h h
  | stv8 o => exact decode_plain rfl (Row.fits_long rfl (by decide) (by decide) (by decide)) h h
  | stv16 o => exact decode_plain rfl (Row.fits_long rfl (by decide) (by decide) (by decide)) h h
  | stv32 o => exact decode_plain rfl (Row.fits_two rfl (by decide) (by decide) (by decide) rfl rfl (by decide)) h h
  | sti8 o => exact decode_plain rfl (Row.fits_long rfl (by decide) (by decide) (by decide)) h h
  | sti16 o => exact decode_plain rfl (Row.fits_long rfl (by decide) (by decide) (by decide)) h h
  | sti32 o => exact decode_plain rfl (Row.fits_one rfl (by decide) (by decide) rfl (by decide)) h h
  | sti64 o => exact decode_plain rfl (Row.fits_one rfl (by decide) (by decide) rfl (by decide)) h h
  | stin8 o => exact decode_plain rfl (Row.fits_long rfl (by decide) (by decide) (by decide)) h h
  | stin16 o => exact decode_plain rfl (Row.fits_long rfl (by decide) (by decide) (by decide)) h h
  | stin32 o => exact decode_plain rfl (Row.fits_long rfl (by decide) (by decide) (by decide)) h h
  | stin64 o => exact decode_plain rfl (Row.fits_one rfl (by decide) (by decide) rfl (by decide)) h h
  | extract x y z f => exact decode_non rfl (by decide) rfl (finishNon_xyzf _ _ _ _ _ _)
  | extractz x y z f => exact decode_non rfl (by decide) rfl (finishNon_xyzf _ _ _ _ _ _)
  | insert x y z f => exact decode_non rfl (by decide) rfl (finishNon_xyzf _ _ _ _ _ _)
  | exch x y z => exact decode_non rfl (by decide) rfl (finishNon_xyz _ _ _ _ _)
  | exchAnd x y z => exact decode_non rfl (by decide) rfl (finishNon_xyz _ _ _ _ _)
  | exchOr x y z => exact decode_non rfl (by decide) rfl (finishNon_xyz _ _ _ _ _)
  | copyb x y z => exact decode_non rfl (by decide) rfl (finishNon_xyz _ _ _ _ _)
  | copybConst x y z => exact decode_non rfl (by decide) rfl (finishNon_xyz _ _ _ _ _)
  | add16 o => exact decode_plain rfl (Row.fits_long rfl (by decide) (by decide) (by decide)) h h
  | add32 o => exact decode_plain rfl (Row.fits_two rfl (by decide) (by decide) (by decide) rfl rfl (by decide)) h h
  | add64 o => exact decode_plain rfl (Row.fits_one rfl (by decide) (shortRow_add64 hv).1 (shortRow_add64 hv).2 (by decide)) h h
  | adduc64 o => exact decode_plain rfl (Row.fits_long rfl (by decide) (by decide) (by decide)) h h
  | addi64 o => exact decode_plain rfl (Row.fits_short (by decide) rfl (by decide) rfl (by decide)) h h
  | div16 o => exact decode_plain rfl (Row.fits_long rfl (by decide) (by decide) (by decide)) h h
  | div32 o => exact decode_plain rfl (Row.fits_long rfl (by decide) (by decide) (by decide)) h h
  | div64 o => exact decode_plain rfl (Row.fits_long rfl (by decide) (by decide) (by decide)) h h
  | divr16 o => exact decode_plain rfl (Row.fits_long rfl (by decide) (by decide) (by decide)) h h
  | divr32 o => exact decode_plain rfl (Row.fits_long rfl (by decide) (by decide) (by decide)) h h
  | divr64 o => exact decode_plain rfl (Row.fits_long rfl (by decide) (by decide) (by decide)) h h
  | rem16 o => exact decode_plain rfl (Row.fits_long rfl (by decide) (by decide) (by decide)) h h
  | rem32 o => exact decode_plain rfl (Row.fits_long rfl (by decide) (by decide) (by decide)) h h
  | rem64 o => exact decode_plain rfl (Row.fits_long rfl (by decide) (by decide) (by decide)) h h
  | remr16 o => exact decode_plain rfl (Row.fits_long rfl (by decide) (by decide) (by decide)) h h
  | remr32 o => exact decode_plain rfl (Row.fits_long rfl (by decide) (by decide) (by decide)) h h
  | remr64 o => exact decode_plain rfl (Row.fits_long rfl (by decide) (by decide) (by decide)) h h
  | mul16 o => exact decode_plain rfl (Row.fits_long rfl (by decide) (by decide) (by decide)) h h
  | mul32 o => exact decode_plain rfl (Row.fits_long rfl (by decide) (by decide) (by decide)) h h
  | mul64 o => exact decode_plain rfl (Row.fits_one rfl (by decide) (shortRow_mul64 hv).1 (shortRow_mul64 hv).2 (by decide)) h h
  | mul128 x y z => exact decode_non rfl (by decide) rfl (finishNon_xyz _ _ _ _ _)
  | mulu128 x y z => exact decode_non rfl (by decide) rfl (finishNon_xyz _ _ _ _ _)
  | neg16 o => exact decode_plain rfl (Row.fits_long rfl (by decide) (by decide) (by decide)) h h
  | neg32 o => exact decode_plain rfl (Row.fits_long rfl (by decide) (by decide) (by decide)) h h
  | neg64 o => exact decode_plain_or rfl (Row.fits_long rfl (by decide) (by decide) (by decide)) (fun _ =>
      Row.fits_long rfl (by decide) (by decide) (by decide)) h h
  | sub16 o => exact decode_plain rfl (Row.fits_long rfl (by decide) (by decide) (by decide)) h h
  | sub32 o => exact decode_plain rfl (Row.fits_two rfl (by decide) (by decide) (by decide) rfl rfl (by decide)) h h
  | sub64 o => exact decode_plain rfl (Row.fits_one rfl (by decide) (by decide) rfl (by decide)) h h
  | subr16 o => exact decode_plain rfl (Row.fits_long rfl (by decide) (by decide) (by decide)) h h
  | subr32 o => exact decode_plain rfl (Row.fits_two rfl (by decide) (by decide) (by decide) rfl rfl (by decide)) h h
  | subr64 o => exact decode_plain rfl (Row.fits_one rfl (by decide) (by decide) rfl (by decide)) h h
  | subuc64 o => exact decode_plain rfl (Row.fits_long rfl (by decide) (by decide) (by decide)) h h
  | subucr64 o => exact decode_plain rfl (Row.fits_long rfl (by decide) (by decide) (by decide)) h h
  | subi64 o => exact decode_plain rfl (Row.fits_short (by decide) rfl (by decide) rfl (by decide)) h h
  | sla o => exact decode_plain rfl (Row.fits_long rfl (by decide) (by decide) (by decide)) h h
  | sra o => exact decode_plain rfl (Row.fits_long rfl (by decide) (by decide) (by decide)) h h
  | fadd32 o => exact decode_plain rfl (Row.fits_two rfl (by decide) (by decide) (by decide) rfl rfl (by decide)) h h
  | fadd64 o => exact decode_plain rfl (Row.fits_one rfl (by decide) (by decide) rfl (by decide)) h h
  | fadd80 x y z => exact decode_non rfl (by decide) rfl (finishNon_xyz _ _ _ _ _)
  | fsub32 o => exact decode_plain rfl (Row.fits_two rfl (by decide) (by decide) (by decide) rfl rfl (by decide)) h h
  | fsub64 o => exact decode_plain rfl (Row.fits_one rfl (by decide) (by decide) rfl (by decide)) h h
  | fsubr32 o => exact decode_plain_or rfl (Row.fits_long rfl (by decide) (by decide) (by decide)) (fun hp =>
      Row.fits_two rfl (by decide) (by decide) (by decide) (if_pos hp) (if_pos hp) (by decide)) h h
  | fsubr64 o => exact decode_plain_or rfl (Row.fits_long rfl (by decide) (by decide) (by decide)) (fun hp =>
      Row.fits_one rfl (by decide) (by decide) (if_pos hp) (by decide)) h h
  | fsub80 x y z => exact decode_non rfl (by decide) rfl (finishNon_xyz _ _ _ _ _)
  | fmul32 o => exact decode_plain rfl (Row.fits_two rfl (by decide) (by decide) (by decide) rfl rfl (by decide)) h h
  | fmul64 o => exact decode_plain rfl (Row.fits_one rfl (by decide) (by decide) rfl (by decide)) h h
  | fmul80 x y z => exact decode_non rfl (by decide) rfl (finishNon_xyz _ _ _ _ _)
  | fdiv32 o => exact decode_plain rfl (Row.fits_long rfl (by decide) (by decide) (by decide)) h h
  | fdiv64 o => exact decode_plain rfl (Row.fits_long rfl (by decide) (by decide) (by decide)) h h
  | fdivr32 o => exact decode_plain rfl (Row.fits_long rfl (by decide) (by decide) (by decide)) h h
  | fdivr64 o => exact decode_plain rfl (Row.fits_long rfl (by decide) (by decide) (by decide)) h h
  | fdiv80 x y z => exact decode_non rfl (by decide) rfl (finishNon_xyz _ _ _ _ _)
  | frem32 x y z => exact decode_non rfl (by decide) rfl (finishNon_xyz _ _ _ _ _)
  | frem64 x y z => exact decode_non rfl (by decide) rfl (finishNon_xyz _ _ _ _ _)
  | frem80 x y z => exact decode_non rfl (by decide) rfl (finishNon_xyz _ _ _ _ _)
  | asciiAdd x y z => exact decode_non rfl (by decide) rfl (finishNon_xyz _ _ _ _ _)
  | asciiAddc x y z => exact decode_non rfl (by decide) rfl (finishNon_xyz _ _ _ _ _)
  | asciiSub x y z t u => exact decode_non rfl (by decide) rfl (finishNon_xyztv _ _ _ _ _ _ _)
  | asciiSubc x y z => exact decode_non rfl (by decide) rfl (finishNon_xyz _ _ _ _ _)
  | logAnd o => exact decode_plain rfl (Row.fits_long rfl (by decide) (by decide) (by decide)) h h
  | logOr o => exact decode_plain rfl (Row.fits_long rfl (by decide) (by decide) (by decide)) h h
  | logNot o => exact decode_plain rfl (Row.fits_long rfl (by decide) (by decide) (by decide)) h h
  | logXor o => exact decode_plain rfl (Row.fits_long rfl (by decide) (by decide) (by decide)) h h
  | setBit x b => exact decode_non rfl (by decide) rfl (finishNon_xb _ _ _ _)
  | clearBit x b => exact decode_non rfl (by decide) rfl (finishNon_xb _ _ _ _)
  | toggleBit x b => exact decode_non rfl (by decide) rfl (finishNon_xb _ _ _ _)
  | findFirst o => exact decode_plain rfl (Row.fits_long rfl (by decide) (by decide) (by decide)) h h
  | rol o => exact decode_plain rfl (Row.fits_long rfl (by decide) (by decide) (by decide)) h h
  | ror o => exact decode_plain rfl (Row.fits_long rfl (by decide) (by decide) (by decide)) h h
  | sll o => exact decode_plain rfl (Row.fits_long rfl (by decide) (by decide) (by decide)) h h
  | srl o => exact decode_plain rfl (Row.fits_long rfl (by decide) (by decide) (by decide)) h h
  | sll1w16 o => exact decode_plain rfl (Row.fits_long rfl (by decide) (by decide) (by decide)) h h
  | sll1w32 o => exact decode_plain rfl (Row.fits_long rfl (by decide) (by decide) (by decide)) h h
  | sll1w64 o => exact decode_plain rfl (Row.fits_long rfl (by decide) (by decide) (by decide)) h h
  | sll2w16 o => exact decode_plain rfl (Row.fits_long rfl (by decide) (by decide) (by decide)) h h
  | sll2w32 o => exact decode_plain_or rfl (Row.fits_long rfl (by decide) (by decide) (by decide)) (fun hp =>
      Row.fits_short (by decide) rfl (by decide) (shortRow_sll2.1 (of_decide_eq_true hp)) (by decide)) h h
  | sll2w64 o => exact decode_plain_or rfl (fits_sll2w64) (fun hp =>
      Row.fits_short (by decide) rfl (by decide) (shortRow_sll2.2 (of_decide_eq_true hp)) (by decide)) h h
  | sll3w16 o => exact decode_plain rfl (Row.fits_long rfl (by decide) (by decide) (by decide)) h h
  | sll3w32 o => exact decode_plain rfl (Row.fits_one rfl (by decide) (by decide) rfl (by decide)) h h
  | sll3w64 o => exact decode_plain rfl (Row.fits_one rfl (by decide) (by decide) rfl (by decide)) h h
  | cmpBr8 o a => exact decode_cmp rfl (Row.fits_long rfl (by decide) (by decide) (by decide)) h h
  | cmpBr16 o a => exact decode_cmp rfl (Row.fits_long rfl (by decide) (by decide) (by decide)) h h
  | cmpBr32 o a => exact decode_cmp rfl (Row.fits_one rfl (by decide) (by decide) rfl (by decide)) h h
  | cmpBr64 o a => exact decode_cmp rfl (Row.fits_one rfl (by decide) (by decide) rfl (by decide)) h h
  | cmpuBr8 o a => exact decode_cmp rfl (Row.fits_long rfl (by decide) (by decide) (by decide)) h h
  | cmpuBr16 o a => exact decode_cmp rfl (Row.fits_long rfl (by decide) (by decide) (by decide)) h h
  | cmpuBr32 o a => exact decode_cmp rfl (Row.fits_long rfl (by decide) (by decide) (by decide)) h h
  | cmpuBr64 o a => exact decode_cmp rfl (Row.fits_long rfl (by decide) (by decide) (by decide)) h h
  | cmp8 o a => exact decode_cmp rfl (Row.fits_long rfl (by decide) (by decide) (by decide)) h h
  | cmp16 o a => exact decode_cmp rfl (Row.fits_long rfl (by decide) (by decide) (by decide)) h h
  | cmp32 o a => exact decode_cmp rfl (Row.fits_long rfl (by decide) (by decide) (by decide)) h h
  | cmp64 o a => exact decode_cmp rfl (Row.fits_long rfl (by decide) (by decide) (by decide)) h h
  | cmpu8 o a => exact decode_cmp rfl (Row.fits_long rfl (by decide) (by decide) (by decide)) h h
  | cmpu16 o a => exact decode_cmp rfl (Row.fits_long rfl (by decide) (by decide) (by decide)) h h
  | cmpu32 o a => exact decode_cmp rfl (Row.fits_long rfl (by decide) (by decide) (by decide)) h h
  | cmpu64 o a => exact decode_cmp rfl (Row.fits_long rfl (by decide) (by decide) (by decide)) h h
  | fcmpBr32 o a => exact decode_cmp rfl (Row.fits_two rfl (by decide) (by decide) (by decide) rfl rfl (by decide)) h h
  | fcmpBr64 o a => exact decode_cmp rfl (Row.fits_one rfl (by decide) (by decide) rfl (by decide)) h h
  | fcmpxBr32 o a => exact decode_cmp rfl (Row.fits_long rfl (by decide) (by decide) (by decide)) h h
  | fcmpxBr64 o a => exact decode_cmp rfl (Row.fits_long rfl (by decide) (by decide) (by decide)) h h
  | fcmp32 o a => exact decode_cmp rfl (Row.fits_long rfl (by decide) (by decide) (by decide)) h h
  | fcmp64 o a => exact decode_cmp rfl (Row.fits_long rfl (by decide) (by decide) (by decide)) h h
  | fcmpx32 o a => exact decode_cmp rfl (Row.fits_long rfl (by decide) (by decide) (by decide)) h h
  | fcmpx64 o a => exact decode_cmp rfl (Row.fits_long rfl (by decide) (by decide) (by decide)) h h
  | fcmp80 x y z a => exact decode_non rfl (by decide) rfl (finishNon_xyza _ _ _ _ _ _)
  | fcmpBr80 x y z a => exact decode_non rfl (by decide) rfl (finishNon_xyza _ _ _ _ _ _)
  | fcmpx80 x y z a => exact decode_non rfl (by decide) rfl (finishNon_xyza _ _ _ _ _ _)
  | fcmpxBr80 x y z a => exact decode_non rfl (by decide) rfl (finishNon_xyza _ _ _ _ _ _)
  | cmpbBr x y z a => exact decode_non rfl (by decide) rfl (finishNon_xyza _ _ _ _ _ _)
  | cmpbBrConst x y z a => exact decode_non rfl (by decide) rfl (finishNon_xyza _ _ _ _ _ _)
  | cmpbTest x y z => exact decode_non rfl (by decide) rfl (finishNon_xyz _ _ _ _ _)
  | cvtDe o => exact decode_plain rfl (Row.fits_long rfl (by decide) (by decide) (by decide)) h h
  | cvtDi o => exact decode_plain rfl (Row.fits_long rfl (by decide) (by decide) (by decide)) h h
  | cvtDs o => exact decode_plain rfl (Row.fits_long rfl (by decide) (by decide) (by decide)) h h
  | cvtId o => exact decode_plain rfl (Row.fits_long rfl (by decide) (by decide) (by decide)) h h
  | cvtIs o => exact decode_plain rfl (Row.fits_long rfl (by decide) (by decide) (by decide)) h h
  | cvtSd o => exact decode_plain rfl (Row.fits_long rfl (by decide) (by decide) (by decide)) h h
  | cvtSi o => exact decode_plain rfl (Row.fits_long rfl (by decide) (by decide) (by decide)) h h
  | cvtSe o => exact decode_plain rfl (Row.fits_long rfl (by decide) (by decide) (by decide)) h h
  | finp32 o => exact decode_plain rfl (Row.fits_long rfl (by decide) (by decide) (by decide)) h h
  | finp64 o => exact decode_plain rfl (Row.fits_long rfl (by decide) (by decide) (by decide)) h h
  | cvtAi x y z => exact decode_non rfl (by decide) rfl (finishNon_xyz _ _ _ _ _)
  | cvtIa x y z => exact decode_non rfl (by decide) rfl (finishNon_xyz _ _ _ _ _)
  | cvtIe x y z => exact decode_non rfl (by decide) rfl (finishNon_xyz _ _ _ _ _)
  | cvtEi x y z => exact decode_non rfl (by decide) rfl (finishNon_xyz _ _ _ _ _)
  | cvtEs x y z => exact decode_non rfl (by decide) rfl (finishNon_xyz _ _ _ _ _)
  | cvtEd x y z => exact decode_non rfl (by decide) rfl (finishNon_xyz _ _ _ _ _)
  | finp80 x y z => exact decode_non rfl (by decide) rfl (finishNon_xyz _ _ _ _ _)
  | brAbs u d => exact decode_non rfl (by decide) rfl (finishNon_ud _ _ _ _)
  | brRel u d => exact decode_non rfl (by decide) rfl (finishNon_ud _ _ _ _)
  | brBackward b => rfl
  | brForward b => rfl
  | brGtAbs x u d => exact decode_non rfl (by decide) rfl (finishNon_xud _ _ _ _ _)
  | brGtRel x u d => exact decode_non rfl (by decide) rfl (finishNon_xud _ _ _ _ _)
  | brBGtShRel x b => exact decode_non rfl (by decide) rfl (finishNon_xb _ _ _ _)
  | brFGtShRel x b => exact decode_non rfl (by decide) rfl (finishNon_xb _ _ _ _)
  | brEqAbs x u d => exact decode_non rfl (by decide) rfl (finishNon_xud _ _ _ _ _)
  | brEqRel x u d => exact decode_non rfl (by decide) rfl (finishNon_xud _ _ _ _ _)
  | brBEqShRel x b => exact decode_non rfl (by decide) rfl (finishNon_xb _ _ _ _)
  | brFEqShRel x b => exact decode_non rfl (by decide) rfl (finishNon_xb _ _ _ _)
  | brGeAbs x u d => exact decode_non rfl (by decide) rfl (finishNon_xud _ _ _ _ _)
  | brGeRel x u d => exact decode_non rfl (by decide) rfl (finishNon_xud _ _ _ _ _)
  | brBGeShRel x b => exact decode_non rfl (by decide) rfl (finishNon_xb _ _ _ _)
  | brFGeShRel x b => exact decode_non rfl (by decide) rfl (finishNon_xb _ _ _ _)
  | brLtAbs x u d => exact decode_non rfl (by decide) rfl (finishNon_xud _ _ _ _ _)
  | brLtRel x u d => exact decode_non rfl (by decide) rfl (finishNon_xud _ _ _ _ _)
  | brBLtShRel x b => exact decode_non rfl (by decide) rfl (finishNon_xb _ _ _ _)
  | brFLtShRel x b => exact decode_non rfl (by decide) rfl (finishNon_xb _ _ _ _)
  | brNeAbs x u d => exact decode_non rfl (by decide) rfl (finishNon_xud _ _ _ _ _)
  | brNeRel x u d => exact decode_non rfl (by decide) rfl (finishNon_xud _ _ _ _ _)
  | brBNeShRel x b => exact decode_non rfl (by decide) rfl (finishNon_xb _ _ _ _)
  | brFNeShRel x b => exact decode_non rfl (by decide) rfl (finishNon_xb _ _ _ _)
  | brLeAbs x u d => exact decode_non rfl (by decide) rfl (finishNon_xud _ _ _ _ _)
  | brLeRel x u d => exact decode_non rfl (by decide) rfl (finishNon_xud _ _ _ _ _)
  | brBLeShRel x b => exact decode_non rfl (by decide) rfl (finishNon_xb _ _ _ _)
  | brFLeShRel x b => exact decode_non rfl (by decide) rfl (finishNon_xb _ _ _ _)
  | brReg x => exact decode_non rfl (by decide) rfl (finishNon_x _ _ _)
  | call u d => exact decode_non rfl (by decide) rfl (finishNon_ud _ _ _ _)
  | callReg x u d => exact decode_non rfl (by decide) rfl (finishNon_xud _ _ _ _ _)
  | exit u b => exact decode_non rfl (by decide) rfl (finishNon_xb _ _ _ _)
  | ixit u b => exact decode_non rfl (by decide) rfl (finishNon_xb _ _ _ _)
  | bxit u b => exact decode_non rfl (by decide) rfl (finishNon_xb _ _ _ _)
  | breakpoint => rfl
  | exception x y z => exact decode_non rfl (by decide) rfl (finishNon_xyz _ _ _ _ _)
  | exchLinkForward x y z => exact decode_non rfl (by decide) rfl (finishNon_xyz _ _ _ _ _)
  | forwardMsg x y z => exact decode_non rfl (by decide) rfl (finishNon_xyz _ _ _ _ _)
  | sendSmallMsg x y z => exact decode_non rfl (by decide) rfl (finishNon_xyz _ _ _ _ _)
  | delLink x y z t v => exact decode_non rfl (by decide) rfl (finishNon_xyztv _ _ _ _ _ _ _)
  | attFunToChan x y z => exact decode_non rfl (by decide) (nonRow_of_param hv (by simp [paramNonRows])) (finishNon_xyz _ _ _ _ _)
  | createFun x y z => exact decode_non rfl (by decide) (nonRow_of_param hv (by simp [paramNonRows])) (finishNon_xyz _ _ _ _ _)
  | createLink x y z => exact decode_non rfl (by decide) (nonRow_of_param hv (by simp [paramNonRows])) (finishNon_xyz _ _ _ _ _)
  | delFun x y z => exact decode_non rfl (by decide) (nonRow_of_param hv (by simp [paramNonRows])) (finishNon_xyz _ _ _ _ _)
  | delMsg x y z => exact decode_non rfl (by decide) (nonRow_of_param hv (by simp [paramNonRows])) (finishNon_xyz _ _ _ _ _)
  | disableChanInt x y z => exact decode_non rfl (by decide) (nonRow_of_param hv (by simp [paramNonRows])) (finishNon_xyz _ _ _ _ _)
  | disableFun x y z => exact decode_non rfl (by decide) (nonRow_of_param hv (by simp [paramNonRows])) (finishNon_xyz _ _ _ _ _)
  | enableChanInt x y z => exact decode_non rfl (by decide) (nonRow_of_param hv (by simp [paramNonRows])) (finishNon_xyz _ _ _ _ _)
  | enableFun x y z => exact decode_non rfl (by decide) (nonRow_of_param hv (by simp [paramNonRows])) (finishNon_xyz _ _ _ _ _)
  | sendToHardware x y z => exact decode_non rfl (by decide) (nonRow_of_param hv (by simp [paramNonRows])) (finishNon_xyz _ _ _ _ _)
  | setFunIntVector x y z => exact decode_non rfl (by decide) (nonRow_of_param hv (by simp [paramNonRows])) (finishNon_xyz _ _ _ _ _)
  | copyLink x y z t v => exact decode_non rfl (by decide) (nonRow_of_param hv (by simp [paramNonRows])) (finishNon_xyztv _ _ _ _ _ _ _)
  | passLink x y z t v => exact decode_non rfl (by decide) (nonRow_of_param hv (by simp [paramNonRows])) (finishNon_xyztv _ _ _ _ _ _ _)
  | rcv x y z t v => exact decode_non rfl (by decide) (nonRow_of_param hv (by simp [paramNonRows])) (finishNon_xyztv _ _ _ _ _ _ _)
  | rcvChan x y z t v => exact decode_non rfl (by decide) (nonRow_of_param hv (by simp [paramNonRows])) (finishNon_xyztv _ _ _ _ _ _ _)
  | rcvLink x y z t v => exact decode_non rfl (by decide) (nonRow_of_param hv (by simp [paramNonRows])) (finishNon_xyztv _ _ _ _ _ _ _)
  | rcvLinkOnChan x y z t v => exact decode_non rfl (by decide) (nonRow_of_param hv (by simp [paramNonRows])) (finishNon_xyztv _ _ _ _ _ _ _)
  | readFte x y z t v => exact decode_non rfl (by decide) (nonRow_of_param hv (by simp [paramNonRows])) (finishNon_xyztv _ _ _ _ _ _ _)
  | readLte x y z t v => exact decode_non rfl (by decide) (nonRow_of_param hv (by simp [paramNonRows])) (finishNon_xyztv _ _ _ _ _ _ _)
  | send x y z t v => exact decode_non rfl (by decide) (nonRow_of_param hv (by simp [paramNonRows])) (finishNon_xyztv _ _ _ _ _ _ _)
  | setLocalPri x y z t v => exact decode_non rfl (by decide) (nonRow_of_param hv (by simp [paramNonRows])) (finishNon_xyztv _ _ _ _ _ _ _)
  | nop => rfl
  | readMachId x => exact decode_non rfl (by decide) rfl (finishNon_x _ _ _)
  | memoryMan x y z => exact decode_non rfl (by decide) rfl (finishNon_xyz _ _ _ _ _)
  | modifyPme x y z => exact decode_non rfl (by decide) rfl (finishNon_xyz _ _ _ _ _)
  | readCpuTimer x => exact decode_non rfl (by decide) (nonRow_of_param hv (by simp [paramNonRows])) (finishNon_x _ _ _)
  | readPme x => exact decode_non rfl (by decide) (nonRow_of_param hv (by simp [paramNonRows])) (finishNon_x _ _ _)
  | readRealTimer x => exact decode_non rfl (by decide) (nonRow_of_param hv (by simp [paramNonRows])) (finishNon_x _ _ _)
  | readStat x => exact decode_non rfl (by decide) (nonRow_of_param hv (by simp [paramNonRows])) (finishNon_x _ _ _)
  | writeStat x => exact decode_non rfl (by decide) (nonRow_of_param hv (by simp [paramNonRows])) (finishNon_x _ _ _)

/-- Settles O1: one case per instruction of the table. -/
theorem decodeEncode : Obligations.DecodeEncode := fun _ _ rest hv hw => decode_encode rest hv hw

/-! ### What the decoder accepts (R148) -/

/-- A row's instruction on an operand, and on an appendage where it carries one. -/
def Row.at : Row → GOp → App → Instr
  | .plain c, o, _ => c o
  | .cmp c, o, a => c o a

/-- The appendage a row's instruction carries. -/
def Row.app : Row → App → Option App
  | .plain _, _ => none
  | .cmp _, a => some a

/-- The encoder lays the row's instructions out with the long opcode `op` and the short opcodes `sh`; whether one is listed
does not depend on its appendage. -/
def Row.LaidOut (p : Params) (op : Byte) (sh : List (Nat × Nib)) (row : Row) : Prop :=
  ∀ o a, (row.at o a).enc p = .gen op sh o (row.app a) ∧
    (row.at o a).wellFormed p = (row.at o ⟨0, 0⟩).wellFormed p

theorem encode_of_finishRow {p : Params} {op : Byte} {sh : List (Nat × Nib)} {row : Row} {o : GOp} {bs rest : List Byte}
    {i : Instr} (hl : row.LaidOut p op sh) (h : finishRow p row o bs = .ok (i, rest)) :
    i.wellFormed p = true ∧ encode p i ++ rest = encodeOp op sh o ++ bs := by
  cases row with
  | plain c =>
    simp only [finishRow] at h
    split_ifs at h with hw
    cases h
    refine ⟨hw, ?_⟩
    rw [encode, show (c o).enc p = .gen op sh o none from (hl o ⟨0, 0⟩).1]
    rfl
  | cmp c =>
    simp only [finishRow] at h
    split_ifs at h with hw
    split at h
    · rename_i a b r
      cases h
      obtain ⟨he, hw'⟩ := hl o ⟨hiNib a, field12 (loNib a) b⟩
      refine ⟨hw'.trans hw, ?_⟩
      rw [encode, show (c o ⟨hiNib a, field12 (loNib a) b⟩).enc p = _ from he]
      simp [Enc.toBytes, Row.app, App.bytes, bytes12_field12, nibs_hiNib_loNib]
    · cases h

theorem encodeOp_shortOperand {m : Nib} (hm : isShortMode m = true) (op : Byte) (sh : List (Nat × Nib)) (b1 : Byte) :
    encodeOp op sh (shortOperand m b1) = [nibs m (shortNib sh m.toNat), b1] := by
  simp only [isShortMode, List.mem_cons, List.not_mem_nil, or_false, decide_eq_true_eq] at hm
  rcases hm with rfl | rfl | rfl | rfl | rfl
  · exact congrArg (fun b => [nibs 0 (shortNib sh 0), b]) (nibs_hiNib_loNib b1)
  · exact congrArg (fun b => [nibs 1 (shortNib sh 1), b]) (nibs_hiNib_loNib b1)
  · exact congrArg (fun b => [nibs 8 (shortNib sh 8), b]) (nibs_hiNib_loNib b1)
  · exact congrArg (fun b => [nibs 9 (shortNib sh 9), b]) (nibs_hiNib_loNib b1)
  · exact congrArg (fun b => [nibs 0xA (shortNib sh 10), b]) (nibs_hiNib_loNib b1)

/-- What is no mode of a bank, nor the reserved mode 2, is a long mode (R141). -/
theorem long_mode {m : Nib} (hm : isShortMode m = false) (h2 : m ≠ 2) :
    m = 3 ∨ m = 4 ∨ m = 5 ∨ m = 6 ∨ m = 7 ∨ m = 0xB ∨ m = 0xC ∨ m = 0xD ∨ m = 0xE ∨ m = 0xF := by
  revert m
  decide

theorem encodeOp_longOperand {m x : Nib} {bs r : List Byte} {o : GOp} (hm : isShortMode m = false) (h2 : m ≠ 2)
    (h : longOperand m x bs = some (o, r)) (op : Byte) (sh : List (Nat × Nib)) :
    encodeOp op sh o ++ r = nibs m (hiNib op) :: nibs (loNib op) x :: bs := by
  rcases bs with _ | ⟨b2, r1⟩
  · cases h
  rcases long_mode hm h2 with rfl | rfl | rfl | rfl | rfl | rfl | rfl | rfl | rfl | rfl
  · cases h
    simp [encodeOp, nibs_hiNib_loNib]
  · rcases r1 with _ | ⟨b3, r2⟩ <;> cases h
    simp [encodeOp, bytes16_field16]
  · rcases r1 with _ | ⟨b3, r2⟩ <;> cases h
    simp [encodeOp, bytes12_field12, nibs_hiNib_loNib]
  · rcases r1 with _ | ⟨b3, _ | ⟨b4, _ | ⟨b5, _ | ⟨b6, r2⟩⟩⟩⟩ <;> cases h
    simp [encodeOp, bytes32_field32, nibs_hiNib_loNib]
  · rcases r1 with _ | ⟨b3, _ | ⟨b4, _ | ⟨b5, _ | ⟨b6, r2⟩⟩⟩⟩ <;> cases h
    simp [encodeOp, bytes32_field32, nibs_hiNib_loNib]
  · cases h
    simp [encodeOp, nibs_hiNib_loNib]
  · cases h
    simp [encodeOp, nibs_hiNib_loNib]
  · rcases r1 with _ | ⟨b3, r2⟩ <;> cases h
    simp [encodeOp, bytes12_field12, nibs_hiNib_loNib]
  · rcases r1 with _ | ⟨b3, _ | ⟨b4, _ | ⟨b5, _ | ⟨b6, r2⟩⟩⟩⟩ <;> cases h
    simp [encodeOp, bytes32_field32, nibs_hiNib_loNib]
  · rcases r1 with _ | ⟨b3, _ | ⟨b4, _ | ⟨b5, _ | ⟨b6, r2⟩⟩⟩⟩ <;> cases h
    simp [encodeOp, bytes32_field32, nibs_hiNib_loNib]

/-- The rows of the long table, as the encoder lays them out. -/
theorem longRows_laidOut (p : Params) : ∀ e ∈ longRows, ∃ op sh, e.2.LaidOut p op sh ∧ op.toNat = e.1 := by
  unfold longRows
  repeat' refine List.forall_mem_append.mpr ⟨?_, ?_⟩
  all_goals simp only [List.forall_mem_cons, List.not_mem_nil, false_imp_iff, implies_true, and_true]
  all_goals and_intros
  all_goals exact ⟨_, _, fun _ _ => ⟨rfl, rfl⟩, rfl⟩

/-- The rows of the banks, as the encoder lays them out. -/
theorem shortRows_laidOut (p : Params) : ∀ e ∈ shortRows, ∃ op sh, e.2.LaidOut p op sh ∧
    (shortNib sh (e.1 / 16)).toNat = e.1 % 16 := by
  unfold shortRows
  repeat' refine List.forall_mem_append.mpr ⟨?_, ?_⟩
  all_goals simp only [List.forall_mem_cons, List.not_mem_nil, false_imp_iff, implies_true, and_true]
  all_goals and_intros
  all_goals exact ⟨_, _, fun _ _ => ⟨rfl, rfl⟩, rfl⟩

/-- The rows that a parameter fixes. -/
theorem paramShortRow_laidOut {p : Params} {mode : Nat} {n : Nib} {row : Row} (h : paramShortRow p mode n = some row) :
    ∃ op sh, row.LaidOut p op sh ∧ shortNib sh mode = n := by
  unfold paramShortRow at h
  split_ifs at h with h1 h2 h3 h4 h5 h6 h6' h7 h7' h8 h8'
  · obtain ⟨rfl, rfl⟩ := h1
    cases h; exact ⟨_, _, fun _ _ => ⟨rfl, rfl⟩, rfl⟩
  · obtain ⟨rfl, rfl⟩ := h2
    cases h; exact ⟨_, _, fun _ _ => ⟨rfl, rfl⟩, rfl⟩
  · obtain ⟨rfl, rfl⟩ := h3
    cases h
    cases p.sh91
    · exact ⟨_, _, fun _ _ => ⟨rfl, rfl⟩, rfl⟩
    · exact ⟨_, _, fun _ _ => ⟨rfl, rfl⟩, rfl⟩
  · obtain ⟨rfl, rfl⟩ := h4
    cases h
    cases p.sh87
    · exact ⟨_, _, fun _ _ => ⟨rfl, rfl⟩, rfl⟩
    · exact ⟨_, _, fun _ _ => ⟨rfl, rfl⟩, rfl⟩
  · obtain ⟨rfl, rfl⟩ := h5
    cases h
    cases p.sh8D
    · exact ⟨_, _, fun _ _ => ⟨rfl, rfl⟩, rfl⟩
    · exact ⟨_, _, fun _ _ => ⟨rfl, rfl⟩, rfl⟩
  · obtain ⟨rfl, rfl⟩ := h6
    cases h; exact ⟨_, _, fun _ _ => ⟨rfl, rfl⟩, rfl⟩
  · obtain ⟨rfl, rfl⟩ := h7
    cases h; exact ⟨_, _, fun _ _ => ⟨rfl, rfl⟩, rfl⟩
  · obtain ⟨rfl, rfl⟩ := h8
    cases h; exact ⟨_, _, fun _ _ => ⟨rfl, rfl⟩, rfl⟩

theorem shortRow_laidOut {p : Params} {m n : Nib} {row : Row} (h : shortRow p m.toNat n = some row) :
    ∃ op sh, row.LaidOut p op sh ∧ shortNib sh m.toNat = n := by
  unfold shortRow at h
  split at h
  · rename_i r hr
    cases h
    obtain ⟨op, sh, hl, hn⟩ := shortRows_laidOut p _ (mem_of_findRow hr)
    refine ⟨op, sh, hl, BitVec.eq_of_toNat_eq ?_⟩
    have := n.isLt
    rw [show (m.toNat * 16 + n.toNat) / 16 = m.toNat by omega] at hn
    omega
  · exact paramShortRow_laidOut h

/-- The instruction is listed, and the encoder lays it out with the fields `r` after nibble 3. -/
def Instr.LaidNon (p : Params) (op0 op2 x : Nib) (r : List Byte) (i : Instr) : Prop :=
  i.enc p = nonEnc op0 op2 x r ∧ i.wellFormed p = true

/-- The encoder lays the row's instructions out with OP0 and OP2. -/
def NRow.LaidOut (p : Params) (op0 op2 : Nib) : NRow → Prop
  | .x c => ∀ x, (c x).LaidNon p op0 op2 x []
  | .xyz c => ∀ x y z, (c x y z).LaidNon p op0 op2 x [nibs y z]
  | .xb c => ∀ x b, (c x b).LaidNon p op0 op2 x [b]
  | .xyztv c => ∀ x y z t v, (c x y z t v).LaidNon p op0 op2 x [nibs y z, nibs t v]
  | .xud c => ∀ x b d, (c x b d).LaidNon p op0 op2 x (b :: bytes32 d)
  | .ud c => ∀ u d, (c u d).LaidNon p op0 op2 (u.extractLsb' 8 4) (u.extractLsb' 0 8 :: bytes32 d)
  | .xyza c => ∀ x y z a, (c x y z a).LaidNon p op0 op2 x (nibs y z :: a.bytes)
  | .xyzf c => ∀ x y z f, (c x y z f).LaidNon p op0 op2 x (nibs y z :: f.bytes)

/-- The rows of the non-generalized tables, as the encoder lays them out. -/
theorem allNonRows_laidOut (p : Params) : ∀ e ∈ allNonRows p, ∃ op0 op2 : Nib, e.2.LaidOut p op0 op2 ∧
    e.1 = op0.toNat * 16 + op2.toNat := by
  unfold allNonRows nonRows paramNonRows
  repeat' refine List.forall_mem_append.mpr ⟨?_, ?_⟩
  all_goals simp only [List.forall_mem_cons, List.not_mem_nil, false_imp_iff, implies_true, and_true, NRow.LaidOut]
  all_goals and_intros
  all_goals refine ⟨_, _, by intros; exact ⟨rfl, rfl⟩, rfl⟩

/-- The fields of a non-generalized instruction, put together again. -/
theorem encode_of_finishNon {p : Params} {op0 op2 x : Nib} {row : NRow} {bs rest : List Byte} {i : Instr}
    (hl : row.LaidOut p op0 op2) (h : finishNon row x bs = .ok (i, rest)) :
    i.wellFormed p = true ∧ encode p i ++ rest = nibs op0 0 :: nibs op2 x :: bs := by
  have laid : ∀ {r : List Byte}, i.LaidNon p op0 op2 x r → r ++ rest = bs →
      i.wellFormed p = true ∧ encode p i ++ rest = nibs op0 0 :: nibs op2 x :: bs := by
    intro r hi hr
    refine ⟨hi.2, ?_⟩
    rw [encode, hi.1, ← hr]
    rfl
  cases row with
  | x c => cases h; exact laid (hl _) rfl
  | xyz c =>
    rcases bs with _ | ⟨b2, r⟩ <;> cases h
    exact laid (hl _ _ _) (by simp [nibs_hiNib_loNib])
  | xb c =>
    rcases bs with _ | ⟨b2, r⟩ <;> cases h
    exact laid (hl _ _) rfl
  | xyztv c =>
    rcases bs with _ | ⟨b2, _ | ⟨b3, r⟩⟩ <;> cases h
    exact laid (hl _ _ _ _ _) (by simp [nibs_hiNib_loNib])
  | xud c =>
    rcases bs with _ | ⟨b2, _ | ⟨b3, _ | ⟨b4, _ | ⟨b5, _ | ⟨b6, r⟩⟩⟩⟩⟩ <;> cases h
    exact laid (hl _ _ _) (by simp [bytes32_field32])
  | ud c =>
    rcases bs with _ | ⟨b2, _ | ⟨b3, _ | ⟨b4, _ | ⟨b5, _ | ⟨b6, r⟩⟩⟩⟩⟩ <;> cases h
    have hu := hl (field12 x b2) (field32 b3 b4 b5 b6)
    unfold field12 at hu
    rw [extractLsb'_append_high, extractLsb'_append_low] at hu
    exact laid hu (by simp [bytes32_field32])
  | xyza c =>
    rcases bs with _ | ⟨b2, _ | ⟨b3, _ | ⟨b4, r⟩⟩⟩ <;> cases h
    exact laid (hl _ _ _ _) (by simp [App.bytes, bytes12_field12, nibs_hiNib_loNib])
  | xyzf c =>
    rcases bs with _ | ⟨b2, _ | ⟨b3, _ | ⟨b4, r⟩⟩⟩ <;> cases h
    have hb : ∀ b : Byte, (b.extractLsb' 6 2 ++ b.extractLsb' 0 6 : Byte) = b := append_extractLsb' (n := 6) (m := 2)
    exact laid (hl _ _ _ _) (by simp [FieldApp.bytes, hb, nibs_hiNib_loNib])

theorem encode_of_decodeNon {p : Params} {op0 : Nib} {bs rest : List Byte} {i : Instr}
    (h : decodeNon p op0 bs = .ok (i, rest)) : i.wellFormed p = true ∧ encode p i ++ rest = nibs op0 0 :: bs := by
  rcases bs with _ | ⟨b1, r⟩
  · simp only [decodeNon] at h
    split_ifs at h with h1 h5 h4
    · cases h; subst h1; exact ⟨rfl, rfl⟩
    · cases h; subst h5; exact ⟨rfl, rfl⟩
  · simp only [decodeNon] at h
    split_ifs at h with h1 h5 h4 h2 hA
    · cases h; subst h1; exact ⟨rfl, rfl⟩
    · cases h; subst h5; exact ⟨rfl, rfl⟩
    · cases h; subst h2; exact ⟨rfl, rfl⟩
    · cases h; subst hA; exact ⟨rfl, rfl⟩
    · split at h
      · rename_i row hr
        rw [nonRow_eq] at hr
        obtain ⟨m, n, hl, hk⟩ := allNonRows_laidOut p _ (mem_of_findRow hr)
        have hop := (hiNib b1).isLt
        have hn := n.isLt
        obtain rfl : op0 = m := BitVec.eq_of_toNat_eq (by simp only at hk; omega)
        obtain rfl : hiNib b1 = n := BitVec.eq_of_toNat_eq (by simp only at hk; omega)
        have he := encode_of_finishNon hl h
        rwa [nibs_hiNib_loNib] at he
      · cases h

/-- What the decoder accepts is listed, and its encoding is the bytes read. -/
theorem encode_of_decode {p : Params} {bs rest : List Byte} {i : Instr} (h : decode p bs = .ok (i, rest)) :
    i.wellFormed p = true ∧ encode p i ++ rest = bs := by
  rcases bs with _ | ⟨b0, r⟩
  · cases h
  have hb0 := nibs_hiNib_loNib b0
  rcases r with _ | ⟨b1, r'⟩
  · simp only [decode] at h
    split_ifs at h with h0 h2
    · rw [h0] at hb0
      exact hb0 ▸ encode_of_decodeNon h
  · simp only [decode] at h
    split_ifs at h with h0 h2 hs
    · rw [h0] at hb0
      exact hb0 ▸ encode_of_decodeNon h
    · split at h
      · rename_i row hr
        obtain ⟨op, sh, hl, hn⟩ := shortRow_laidOut hr
        have he := encode_of_finishRow hl h
        rwa [encodeOp_shortOperand hs, hn, hb0] at he
      · cases h
    · split at h
      · rename_i row hr
        split at h
        · rename_i o r'' ho
          obtain ⟨op, sh, hl, hop⟩ := longRows_laidOut p _ (mem_of_findRow hr)
          obtain rfl := BitVec.eq_of_toNat_eq hop
          have he := encode_of_finishRow hl h
          rwa [encodeOp_longOperand (by simpa using hs) h2 ho, hiNib_nibs, loNib_nibs, hb0,
            nibs_hiNib_loNib] at he
        · cases h
      · cases h

/-- Settles O2: the decoder's branches, each with the encoder's layout of the row that was found. -/
theorem encodeDecode : Obligations.EncodeDecode := fun _ _ _ _ _ h => encode_of_decode h

end Sys2Proof

/-! SUPPORT. The invariant and the rules that hold of every step; stores, operands, disabled exceptions. -/

namespace Sys2Proof.Machine

open Sys2Proof Sys2Proof.Stmt

variable {k : Kind} {a b : State}

/-! ### What each update keeps -/

theorem Upd.keeps_mem (hu : Upd k a b) (h : a.memOk) : b.memOk := by
  cases hu with
  | mem _ m hm => exact hm h
  | _ => exact h

theorem Upd.keeps_lifeline (hu : Upd k a b) (h : a.lifelineOk) : b.lifelineOk := by
  cases hu with
  | mask _ m hm => exact hm h
  | _ => exact h

theorem Upd.keeps_tables (hu : Upd k a b) (h : a.tablesOk) : b.tablesOk := by
  obtain ⟨hl, hf, hp⟩ := h
  cases hu with
  | funnel => exact ⟨hl, Assoc.sorted_set _ _ hf, hp⟩
  | putFunnel => exact ⟨hl, Assoc.sorted_set _ _ hf, hp⟩
  | dropFunnel => exact ⟨hl, Assoc.sorted_erase _ hf, hp⟩
  | putLink => exact ⟨Assoc.sorted_set _ _ hl, hf, hp⟩
  | dropLink => exact ⟨Assoc.sorted_erase _ hl, hf, hp⟩
  | pages _ p h => exact ⟨hl, hf, h hp⟩
  | _ => exact ⟨hl, hf, hp⟩

/-- A set or cleared funnel bit. -/
theorem setFunnelBit_getLsbD (m : BitVec 256) (f g : Nat) (v : Bool) (hg : g < 256) :
    (setFunnelBit m f v).getLsbD g = if g = f then v else m.getLsbD g := by
  by_cases h : g = f
  · subst h
    cases v <;> simp [setFunnelBit, hg]
  · cases v <;> simp [setFunnelBit, BitVec.getLsbD_twoPow, hg, h, Ne.symm h]

/-- A dropped funnel is undefined, and no other changes. -/
theorem State.dropFunnel_funnel (h : a.tablesOk) (f g : Nat) :
    (a.dropFunnel f).funnel g = if g = f then none else a.funnel g := by
  split
  · next hg => rw [hg]; exact Assoc.get_erase_same f h.2.1
  · next hg => exact Assoc.get_erase_ne _ hg

/-- A dropped link is undefined, and no other changes. -/
theorem State.dropLink_link (h : a.tablesOk) (n m : Nat) :
    (a.dropLink n).link m = if m = n then none else a.link m := by
  split
  · next hg => rw [hg]; exact Assoc.get_erase_same n h.1
  · next hg => exact Assoc.get_erase_ne _ hg

/-- A funnel that is defined, and no other changes. -/
@[simp] theorem State.putFunnel_funnel (f g : Nat) (e : Funnel) :
    (a.putFunnel f e).funnel g = if g = f then some e else a.funnel g := by
  simp [State.putFunnel, State.funnel, Assoc.get_set]

theorem Upd.keeps_funnel1 (hu : Upd k a b) (h : a.funnel1Ok) (ht : a.tablesOk) (hf : a.freeOk) : b.funnel1Ok := by
  obtain ⟨⟨e1, he1, hc1⟩, hen, honly⟩ := h
  have keep : ∀ {g f : Nat} {e e' : Funnel}, (if g = f then some e else a.funnel g) = some e' →
      (e.channel = 0 → f = 1) → e'.channel = 0 → g = 1 := by
    intro g f e e' he hc h0
    split at he
    · next hg => cases he; exact hg.trans (hc h0)
    · exact honly _ _ he h0
  cases hu with
  | enable _ f =>
    refine ⟨⟨e1, he1, hc1⟩, ?_, honly⟩
    show (setFunnelBit _ f true).getLsbD 1 = true
    rw [setFunnelBit_getLsbD _ _ _ _ (by omega)]
    split
    · rfl
    · exact hen
  | disable _ f hne =>
    refine ⟨⟨e1, he1, hc1⟩, ?_, honly⟩
    show (setFunnelBit _ f false).getLsbD 1 = true
    rw [setFunnelBit_getLsbD _ _ _ _ (by omega), if_neg (Ne.symm hne)]
    exact hen
  | funnel _ f e e' l he hc ha =>
    have hget : ∀ g, ({ a with funnels := { a.funnels with entries := Assoc.set a.funnels.entries f e', active := l } } :
        State).funnel g = if g = f then some e' else a.funnel g := fun g => by
      simp [State.funnel, Assoc.get_set]
    refine ⟨?_, hen, fun g d hd h0 => keep (by rw [← hget]; exact hd) (fun h => ?_) h0⟩
    · by_cases hf1 : 1 = f
      · subst hf1
        refine ⟨e', by rw [hget, if_pos rfl], ?_⟩
        rw [he1] at he
        cases he
        rcases hc with hc | ⟨h, -⟩
        · rw [hc, hc1]
        · exact absurd rfl h
      · exact ⟨e1, by rw [hget, if_neg hf1, he1], hc1⟩
    · rcases hc with hc | ⟨-, hc⟩
      · exact honly _ _ he (hc ▸ h)
      · exact absurd h hc
  | putFunnel _ f e hn hc hq =>
    have hne : 1 ≠ f := fun h => by
      rw [← h, he1] at hn
      cases hn hf
    refine ⟨⟨e1, by rw [State.putFunnel_funnel, if_neg hne, he1], hc1⟩, ?_, fun g d hd h0 => ?_⟩
    · show (setFunnelBit _ f true).getLsbD 1 = true
      rw [setFunnelBit_getLsbD _ _ _ _ (by omega), if_neg hne]
      exact hen
    · rw [State.putFunnel_funnel] at hd
      exact keep hd (fun h => absurd h hc) h0
  | dropFunnel _ f e h0 hdis he hq =>
    have hne : 1 ≠ f := fun h => by rw [h, hdis] at hen; cases hen
    refine ⟨⟨e1, by rw [State.dropFunnel_funnel ht, if_neg hne, he1], hc1⟩, hen, fun g d hd h0 => ?_⟩
    rw [State.dropFunnel_funnel ht] at hd
    split at hd
    · cases hd
    · exact honly _ _ hd h0
  | _ => exact ⟨⟨e1, he1, hc1⟩, hen, honly⟩

/-- A put-in ID is taken off a list of free IDs. -/
theorem mem_filter_ne {l : List Nat} {n m : Nat} (h : m ∈ l.filter (· ≠ n)) : m ∈ l ∧ m ≠ n := by
  simpa using h

/-- An ID given back is the only new one on the two lists, at whichever end. -/
theorem mem_given_back {l l' : List Nat} {n m : Nat} {c : Bool}
    (h : m ∈ (if c then n :: l else l) ∨ m ∈ (if c then l' else l' ++ [n])) : m = n ∨ m ∈ l ∨ m ∈ l' := by
  cases c
  · simpa [or_comm, or_left_comm] using h
  · simpa [or_assoc] using h

theorem Upd.keeps_free (hu : Upd k a b) (h : a.freeOk) (ht : a.tablesOk) : b.freeOk := by
  obtain ⟨hl, hf⟩ := h
  cases hu with
  | funnel _ f e e' l he hc ha =>
    refine ⟨hl, fun n hn => ⟨(hf n hn).1, ?_⟩⟩
    have hne : n ≠ f := fun h => by rw [← h, (hf n hn).2] at he; cases he
    show Assoc.get (Assoc.set _ _ _) n = none
    rw [Assoc.get_set, if_neg hne]
    exact (hf n hn).2
  | putFunnel _ f e hn hc hq =>
    refine ⟨hl, fun n h => ?_⟩
    have hm := h.imp mem_filter_ne mem_filter_ne
    have hne : n ≠ f := hm.elim And.right And.right
    obtain ⟨h0, hfree⟩ := hf n (hm.imp And.left And.left)
    exact ⟨h0, by rw [State.putFunnel_funnel, if_neg hne, hfree]⟩
  | dropFunnel _ f e h0 hdis he hq =>
    refine ⟨hl, fun n h => ?_⟩
    rw [State.dropFunnel_funnel ht]
    rcases mem_given_back h with rfl | h
    · exact ⟨h0, if_pos rfl⟩
    · exact ⟨(hf n h).1, by rw [(hf n h).2, ite_self]⟩
  | putLink _ m e =>
    refine ⟨fun n h => ?_, hf⟩
    have hm := h.imp mem_filter_ne mem_filter_ne
    have hne : n ≠ m := hm.elim And.right And.right
    obtain ⟨h0, hfree⟩ := hl n (hm.imp And.left And.left)
    exact ⟨h0, by rw [State.putLink_link, if_neg hne, hfree]⟩
  | dropLink _ m h0 =>
    refine ⟨fun n h => ?_, hf⟩
    rw [State.dropLink_link ht]
    rcases mem_given_back h with rfl | h
    · exact ⟨h0, if_pos rfl⟩
    · exact ⟨(hl n h).1, by rw [(hl n h).2, ite_self]⟩
  | _ => exact ⟨hl, hf⟩

theorem Upd.keeps_pages (hu : Upd k a b) (h : a.linkPagesOk) (ht : a.tablesOk) : b.linkPagesOk := by
  cases hu with
  | putLink _ m e =>
    intro n d hd
    show (a.links.allocate (m / linksPerPage)).pageAllocated (n / linksPerPage) = true
    rw [LinkTable.pageAllocated_allocate]
    rw [State.putLink_link] at hd
    split at hd
    · next hn => simp [hn]
    · simp [h n d hd]
  | dropLink _ m h0 =>
    intro n d hd
    rw [State.dropLink_link ht] at hd
    split at hd
    · cases hd
    · exact h n d hd
  | _ => exact h

theorem Upd.keeps_inv (hu : Upd k a b) (h : a.Inv) : b.Inv where
  mem := hu.keeps_mem h.mem
  lifeline := hu.keeps_lifeline h.lifeline
  funnel1 := hu.keeps_funnel1 h.funnel1 h.tables h.free
  tables := hu.keeps_tables h.tables
  free := hu.keeps_free h.free h.tables
  pages := hu.keeps_pages h.pages h.tables
  active := hu.keeps_active h.active h.tables h.free

/-- The invariant does not speak of the fields that change outside an instruction. -/
theorem outside.keeps_inv (h : outside a b) (ha : a.Inv) : b.Inv := by
  rw [h]
  exact { ha with }

/-- Settles O6. Every update keeps each part of the invariant, so every step does. -/
theorem stepKeepsInvariant : Obligations.StepKeepsInvariant := fun _ _ h ht =>
  step_rel (R := fun a b => a.Inv → b.Inv) (fun _ h => h) (fun _ _ _ h h' ha => h' (h ha))
    (fun _ _ _ hu => hu.keeps_inv) (fun _ _ hx => hx.1.keeps_inv) ht h

/-! ### Start-up -/

/-- Settles O7. -/
theorem resetHasInvariant : Obligations.ResetHasInvariant where
  mem := rfl
  lifeline := rfl
  funnel1 := ⟨⟨_, rfl, rfl⟩, rfl, fun f e he hc => by
    rcases List.mem_cons.mp (Assoc.mem_of_get he) with h | h
    · cases h; rfl
    · cases List.mem_singleton.mp h
      cases hc⟩
  tables := ⟨rfl, rfl, rfl⟩
  free := by
    refine ⟨fun n hn => ?_, fun n hn => ?_⟩
    · have h : ∀ n ∈ initLinks.freeTail, n ≠ 0 ∧ State.reset.link n = none := by decide
      exact hn.elim (fun h => absurd h List.not_mem_nil) (h n)
    · have h : ∀ n ∈ initFunnels.freeTail, n ≠ 0 ∧ State.reset.funnel n = none := by decide
      exact hn.elim (fun h => absurd h List.not_mem_nil) (h n)
  pages := fun n e he => by
    cases List.mem_singleton.mp (Assoc.mem_of_get he)
    rfl
  active := by
    refine ⟨List.nodup_nil, fun f => ⟨fun h => absurd h List.not_mem_nil, ?_⟩⟩
    rintro ⟨e, he, hq⟩
    have hempty : ∀ p ∈ initFunnels.entries, p.2.queue = [] := by decide
    exact absurd (hempty _ (Assoc.mem_of_get he)) hq

/-- Settles O8. -/
theorem resetValues : Obligations.ResetValues :=
  ⟨rfl, rfl, rfl, rfl, ⟨_, rfl, rfl, rfl⟩, ⟨_, rfl, rfl⟩, _, rfl, rfl⟩

/-- Settles O3. -/
theorem wordsDecode : Obligations.WordsDecode :=
  ⟨rfl, rfl, rfl, rfl, rfl, rfl, rfl, rfl, rfl, rfl⟩

/-! ### Whole-machine rules -/

variable {k : Kind} {a b : State}

/-- No update touches who the process is or the clocks. -/
theorem Upd.identity_clocks (hu : Upd k a b) : a.sameIdentity b ∧ a.clocksGoOn b := by
  cases hu <;> exact ⟨⟨rfl, rfl, rfl⟩, le_refl _, le_refl _⟩

theorem outside.identity (h : outside a b) : a.sameIdentity b := by
  rw [h]
  exact ⟨rfl, rfl, rfl⟩

/-- Settles O9. -/
theorem stepKeepsIdentityAndClocks : Obligations.StepKeepsIdentityAndClocks := fun _ _ h =>
  step_rel (R := fun a b => a.sameIdentity b ∧ a.clocksGoOn b)
    (fun _ => ⟨⟨rfl, rfl, rfl⟩, le_refl _, le_refl _⟩)
    (fun _ _ _ ⟨⟨p, v, q⟩, t, c⟩ ⟨⟨p', v', q'⟩, t', c'⟩ =>
      ⟨⟨p'.trans p, v'.trans v, q'.trans q⟩, t.trans t', c.trans c'⟩)
    (fun _ _ _ hu => hu.identity_clocks) (fun _ _ hx => ⟨hx.1.identity, hx.2⟩) h

/-- The PSW bits that WRITE.STAT alone changes: RMODE, FZ, the reserved bits, the enable bits (R28, R34). -/
def modeBit (j : Nat) : Prop := j ≤ 8 ∨ j = 11 ∨ (13 ≤ j ∧ j ≤ 15) ∨ (16 ≤ j ∧ j % 2 = 0)

/-- The mode bits as before, and no occurred bit cleared. -/
def ModesKept (s t : State) : Prop :=
  (∀ j, j < 64 → modeBit j → t.pswBit j = s.pswBit j) ∧ ∀ j, j < 64 → 17 ≤ j → s.pswBit j = true → t.pswBit j = true

/-- A changed bit that is no mode bit, and an occurred bit only if it is set, keeps the modes. -/
theorem modesKept_setPswBit (s : State) {n : Nat} {v : Bool} (hn : n < 64) (hm : ¬ modeBit n)
    (hv : 17 ≤ n → v = true) : ModesKept s (s.setPswBit n v) := by
  refine ⟨fun j hj hmode => ?_, fun j hj h17 h => ?_⟩
  · rw [s.pswBit_setPswBit n j v hn hj, if_neg (fun h : j = n => hm (h ▸ hmode))]
  · rw [s.pswBit_setPswBit n j v hn hj]
    split
    · next h => exact hv (h ▸ h17)
    · exact h

theorem ExcCode.occurredBit_lt (c : ExcCode) : c.occurredBit < 64 := by cases c <;> decide

/-- The occurred bits are the odd ones from 17 up. -/
theorem ExcCode.occurredBit_not_mode (c : ExcCode) : ¬ modeBit c.occurredBit := by
  unfold modeBit ExcCode.occurredBit
  omega

/-- No update but that of the whole PSW changes the modes. -/
theorem Upd.modesKept (hu : Upd k a b) (hk : k ≠ .psw) : ModesKept a b := by
  cases hu with
  | ci _ v => exact modesKept_setPswBit a (by decide) (by unfold modeBit; omega) (by omega)
  | cd _ v => exact modesKept_setPswBit a (by decide) (by unfold modeBit; omega) (by omega)
  | ss _ v => exact modesKept_setPswBit a (by decide) (by unfold modeBit; omega) (by omega)
  | occurred _ c => exact modesKept_setPswBit a c.occurredBit_lt c.occurredBit_not_mode fun _ => rfl
  | psw => exact absurd rfl hk
  | _ => exact ⟨fun _ _ _ => rfl, fun _ _ _ h => h⟩

/-- Settles O10. -/
theorem modesOnlyByWriteStat : Obligations.ModesOnlyByWriteStat := by
  intro i s t hi h
  have hr : Reach (Admits i) s t := exec_leads i t h
  refine hr.rel (R := ModesKept) (fun _ => ⟨fun _ _ _ => rfl, fun _ _ _ h => h⟩) ?_ ?_
  · exact fun a b c h h' => ⟨fun j hj hm => (h'.1 j hj hm).trans (h.1 j hj hm),
      fun j hj h17 ha => h'.2 j hj h17 (h.2 j hj h17 ha)⟩
  · intro k a b hk hu
    refine hu.modesKept fun hpsw => ?_
    subst hpsw
    obtain h | ⟨-, x, hx⟩ | ⟨h, -⟩ | ⟨h, -⟩ := hk
    · cases h
    · exact hi x hx
    · cases h
    · cases h

/-- Settles O11. -/
theorem priorityAndMaskRules : Obligations.PriorityAndMaskRules := by
  refine ⟨fun i s t h1 h2 h3 h4 h5 h6 h => ?_, fun i s t h1 h2 h => ?_⟩
  · have hr : Reach (Admits i) s t := exec_leads i t h
    refine hr.rel (R := fun a b => b.lp ≤ a.lp) (fun _ => le_refl _) (fun _ _ _ h h' => h'.trans h) ?_
    intro k a b hk hu
    cases hu with
    | raise _ p hp => exact hp
    | lp =>
      obtain h | ⟨h, -⟩ | ⟨-, h⟩ | ⟨h, -⟩ := hk
      · cases h
      · cases h
      · obtain ⟨x, y, z, u, v, h⟩ | ⟨u, v, h⟩ | ⟨x, y, z, u, v, h⟩ | ⟨x, y, z, u, v, h⟩ | ⟨x, y, z, u, v, h⟩ |
          ⟨x, y, z, u, v, h⟩ := h
        · exact absurd h (h1 x y z u v)
        · exact absurd h (h2 u v)
        · exact absurd h (h3 x y z u v)
        · exact absurd h (h4 x y z u v)
        · exact absurd h (h5 x y z u v)
        · exact absurd h (h6 x y z u v)
      · cases h
    | _ => exact le_refl _
  · have hr : Reach (Admits i) s t := exec_leads i t h
    refine hr.rel (R := fun a b => b.chanMask = a.chanMask) (fun _ => rfl) (fun _ _ _ h h' => h'.trans h) ?_
    intro k a b hk hu
    cases hu with
    | mask =>
      obtain h | ⟨h, -⟩ | ⟨h, -⟩ | ⟨-, h⟩ := hk
      · cases h
      · cases h
      · cases h
      · obtain ⟨x, y, z, h⟩ | ⟨x, y, z, h⟩ := h
        · exact absurd h (h1 x y z)
        · exact absurd h (h2 x y z)
    | _ => rfl

/-! ### Memory and operands -/

/-- Byte `k` of the low-order bytes of a word. -/
theorem lowBytes_getElem (n : Nat) (w : Word) (k : Nat) (hk : k < (lowBytes n w).length) :
    (lowBytes n w)[k] = w.extractLsb' (8 * (n - 1 - k)) 8 := by
  have key : ∀ (n v k : Nat) (hk : k < (beBytes n v).length),
      (beBytes n v)[k] = BitVec.ofNat 8 (v / 256 ^ (n - 1 - k)) := by
    intro n
    induction n with
    | zero => intro v k hk; simp [beBytes] at hk
    | succ n ih =>
      intro v k hk
      cases k with
      | zero => simp [beBytes]
      | succ k =>
        simp only [beBytes, List.getElem_cons_succ]
        rw [ih]
        congr 3
        omega
  have hk' : k < (beBytes n w.toNat).length := hk
  show (beBytes n w.toNat)[k] = _
  rw [key n w.toNat k hk']
  apply BitVec.eq_of_toNat_eq
  rw [BitVec.toNat_ofNat, BitVec.extractLsb'_toNat, Nat.shiftRight_eq_div_pow, pow_mul,
    show (256 : Nat) = 2 ^ 8 from rfl]

/-- Settles O12. -/
theorem storeReadsBack : Obligations.StoreReadsBack := by
  intro s a n w hm hn
  refine ⟨Memory.wf_writeBytes a _ hm, fun k hk => ?_, fun b hb => ?_⟩
  · have hl : k < (lowBytes n w).length := by rwa [lowBytes_length]
    rw [← lowBytes_getElem n w k hl]
    exact readCell_writeBytes_get a _ hm (by rw [lowBytes_length]; omega) k hl
  · refine readCell_writeBytes_ne _ _ _ _ fun j hj he => ?_
    rw [lowBytes_length] at hj
    exact hb j hj (BitVec.eq_of_toNat_eq he.symm)

/-- The last operand of a memory mode. -/
theorem State.lastVal_mem {s : State} {e : Ext} {n : Nat} {o : GOp} (h : o.last = .mem) :
    s.lastVal e n o = s.loadExt e (s.ea o) n := by
  unfold State.lastVal
  rw [h]

theorem State.loadExt_denied {s : State} {e : Ext} {n : Nat} {a : Addr} (h : s.allowedRange .read a n = false) :
    s.loadExt e a n = none := by
  unfold State.loadExt State.loadNat
  rw [State.load_of_denied h]
  rfl

theorem State.loadExt_allowed {s : State} {e : Ext} {n : Nat} {a : Addr} (h : s.allowedRange .read a n = true) :
    s.loadExt e a n = some (e.apply n (beNat (readBytes s.mem a n))) := by
  unfold State.loadExt
  rw [State.loadNat_of_allowed h]
  rfl

/-- Bytes as a number are below the power of 256. -/
theorem beNat_lt (bs : List Byte) : beNat bs < 256 ^ bs.length := by
  induction bs with
  | nil => simp [beNat]
  | cons b bs ih =>
    have hb : b.toNat < 256 := b.isLt
    have hle := Nat.mul_le_mul_right (256 ^ bs.length) (show b.toNat + 1 ≤ 256 by omega)
    simp only [beNat, List.length_cons, pow_succ]
    nlinarith

theorem beNat_readBytes_lt (m : List Host.Cell) (a : Addr) (n : Nat) : beNat (readBytes m a n) < 2 ^ (8 * n) := by
  have := beNat_lt (readBytes m a n)
  rwa [readBytes_length, show 256 = 2 ^ 8 from rfl, ← pow_mul] at this

/-- A zero-extended value. -/
theorem Ext.apply_zero_toNat {n v : Nat} (hn : n ≤ 8) (hv : v < 2 ^ (8 * n)) : (Ext.zero.apply n v).toNat = v := by
  have : 2 ^ (8 * n) ≤ 2 ^ 64 := Nat.pow_le_pow_right (by decide) (by omega)
  simp only [Ext.apply, BitVec.toNat_setWidth, BitVec.toNat_ofNat]
  rw [Nat.mod_eq_of_lt hv, Nat.mod_eq_of_lt (by omega)]

/-- A sign-extended value. -/
theorem Ext.apply_sign_toInt {n v : Nat} (hn : n ≤ 8) : (Ext.sign.apply n v).toInt = (v : Int).bmod (2 ^ (8 * n)) := by
  simp only [Ext.apply]
  rw [BitVec.toInt_signExtend_of_le (by omega), BitVec.toInt_ofNat']

/-- The last operand in memory: an access violation, or the bytes there extended (R152, R160). -/
theorem State.lastVal_at {s : State} {e : Ext} {n : Nat} {o : GOp} {a : Addr} (hn : n ≤ 8) (ho : o.last = .mem)
    (ha : s.ea o = a) : s.ea o = a ∧ (s.allowedRange .read a n = false → s.lastVal e n o = none) ∧
      (s.allowedRange .read a n = true → ∃ v, s.lastVal e n o = some v ∧
        (e = .zero → v.toNat = beNat (readBytes s.mem a n)) ∧
        (e = .sign → v.toInt = ((beNat (readBytes s.mem a n) : Nat) : Int).bmod (2 ^ (8 * n)))) := by
  subst ha
  rw [State.lastVal_mem ho]
  refine ⟨rfl, State.loadExt_denied, fun h => ⟨_, State.loadExt_allowed h, ?_, ?_⟩⟩
  · rintro rfl
    exact Ext.apply_zero_toNat hn (beNat_readBytes_lt _ _ _)
  · rintro rfl
    exact Ext.apply_sign_toInt hn

/-- Settles O13. -/
theorem lastOperandByMode : Obligations.LastOperandByMode := by
  intro s e n x y z w u _ hn
  refine ⟨rfl, rfl, rfl, fun _ => rfl, fun _ => rfl, fun o a ho => ?_⟩
  obtain ⟨d, rfl, rfl⟩ | ⟨d, rfl, rfl⟩ | ⟨rfl, rfl⟩ | ⟨rfl, rfl⟩ | ⟨rfl, rfl⟩ | ⟨rfl, rfl⟩ | ⟨rfl, rfl⟩ | ⟨d, rfl, rfl⟩ |
    ⟨d, rfl, rfl⟩ | ⟨d, rfl, rfl⟩ := ho <;> exact State.lastVal_at hn rfl rfl

/-! ### A disabled exception -/

/-- A recorded exception changes its own bit alone. -/
theorem pswBut_setOccurred (s : State) (c : ExcCode) : PswBut [c.occurredBit] s (s.setOccurred c) := fun j hj hn => by
  rw [State.setOccurred, State.pswBit_setPswBit _ _ _ _ c.occurredBit_lt hj, if_neg (by simpa using hn)]

/-- Settles O14. -/
theorem disabledExceptionGoesOn : Obligations.DisabledExceptionGoesOn := fun _ e s h =>
  ⟨raise_disabled h, by
    have := s.pswBit_setPswBit e.code.occurredBit e.code.occurredBit true e.code.occurredBit_lt e.code.occurredBit_lt
    rwa [if_pos rfl] at this, pswBut_setOccurred s e.code⟩

end Sys2Proof.Machine

/-! SUPPORT. What the decoder accepts, and what a fetch finds: the steps in which no instruction can run. -/

namespace Sys2Proof

open Config

/-! ### What the decoder accepts, by the first two bytes and the length (R147, R148) -/

/-- The bytes a non-generalized row needs after its second byte. -/
def rowBytes : NRow → Nat
  | .x _ => 0
  | .xyz _ => 1
  | .xb _ => 1
  | .xyztv _ => 2
  | .xud _ => 5
  | .ud _ => 5
  | .xyza _ => 3
  | .xyzf _ => 3

theorem finishNon_ok_iff {row : NRow} {x : Nib} {bs : List Byte} :
    (∃ q, finishNon row x bs = .ok q) ↔ rowBytes row ≤ bs.length := by
  cases row with
  | x c => simp [finishNon, rowBytes]
  | xyz c => rcases bs with _ | ⟨a, bs⟩ <;> simp [finishNon, rowBytes]
  | xb c => rcases bs with _ | ⟨a, bs⟩ <;> simp [finishNon, rowBytes]
  | xyztv c => rcases bs with _ | ⟨a, _ | ⟨b, bs⟩⟩ <;> simp [finishNon, rowBytes]
  | xud c => rcases bs with _ | ⟨a, _ | ⟨b, _ | ⟨c, _ | ⟨d, _ | ⟨e, bs⟩⟩⟩⟩⟩ <;> simp [finishNon, rowBytes]
  | ud c => rcases bs with _ | ⟨a, _ | ⟨b, _ | ⟨c, _ | ⟨d, _ | ⟨e, bs⟩⟩⟩⟩⟩ <;> simp [finishNon, rowBytes]
  | xyza c => rcases bs with _ | ⟨a, _ | ⟨b, _ | ⟨c, bs⟩⟩⟩ <;> simp [finishNon, rowBytes]
  | xyzf c => rcases bs with _ | ⟨a, _ | ⟨b, _ | ⟨c, bs⟩⟩⟩ <;> simp [finishNon, rowBytes]

/-- A row's length is the one its nibble 0 fixes (R147). -/
theorem allNonRows_length (p : Params) : ∀ e ∈ allNonRows p, ∀ op0 : Nib, e.1 / 16 = op0.toNat →
    rowBytes e.2 + 2 = nonLen op0 := by
  unfold allNonRows
  refine List.forall_mem_append.mpr ⟨?_, ?_⟩
  · have h : ∀ e ∈ nonRows, rowBytes e.2 + 2 = nonLen (BitVec.ofNat 4 (e.1 / 16)) := by
      unfold nonRows
      repeat' refine List.forall_mem_append.mpr ⟨?_, ?_⟩
      all_goals simp only [List.forall_mem_cons, List.not_mem_nil, false_imp_iff, implies_true, and_true]
      all_goals and_intros
      all_goals rfl
    intro e he op0 h0
    rw [h e he, h0, BitVec.ofNat_toNat, BitVec.setWidth_eq]
  · have h8 : ∀ (n op0 : Nib), (0x80 + n.toNat) / 16 = op0.toNat → 1 + 2 = nonLen op0 := by decide
    have h9 : ∀ (n op0 : Nib), (0x90 + n.toNat) / 16 = op0.toNat → 2 + 2 = nonLen op0 := by decide
    have h6 : ∀ (n op0 : Nib), (0x60 + n.toNat) / 16 = op0.toNat → 0 + 2 = nonLen op0 := by decide
    simp only [paramNonRows, List.forall_mem_append, List.forall_mem_cons, List.not_mem_nil, false_imp_iff,
      implies_true, and_true, rowBytes]
    exact ⟨⟨⟨⟨⟨⟨⟨h8 _, h8 _, h8 _, h8 _⟩, h8 _, h8 _, h8 _, h8 _⟩, h8 _, h8 _, h8 _, h9 _⟩, h9 _, h9 _, h9 _, h9 _⟩,
      h9 _, h9 _, h9 _, h9 _⟩, h9 _, h6 _, h6 _, h6 _⟩, h6 _, h6 _⟩

theorem nonRow_length {p : Params} {op0 op2 : Nib} {row : NRow} (h : nonRow p op0 op2 = some row) :
    rowBytes row + 2 = nonLen op0 := by
  rw [nonRow_eq] at h
  have := op2.isLt
  exact allNonRows_length p _ (mem_of_findRow h) op0 (by omega)

/-- The appendage's bytes. -/
def Row.more : Row → Nat
  | .plain _ => 0
  | .cmp _ => 2

/-- The row's instruction is listed for the operand's mode. -/
def Row.listed (p : Params) (row : Row) (o : GOp) : Prop := (row.at o ⟨0, 0⟩).wellFormed p = true

/-- The mode alone decides whether the row's instruction is listed. -/
def Row.ByMode (p : Params) (row : Row) : Prop :=
  ∀ o o' : GOp, o.mode = o'.mode → (row.listed p o ↔ row.listed p o')

theorem finishRow_ok_iff {p : Params} {row : Row} {o : GOp} {bs : List Byte} :
    (∃ q, finishRow p row o bs = .ok q) ↔ row.listed p o ∧ row.more ≤ bs.length := by
  cases row with
  | plain c =>
    by_cases h : (c o).wellFormed p = true <;> simp [finishRow, Row.listed, Row.at, Row.more, h]
  | cmp c =>
    by_cases h : (c o ⟨0, 0⟩).wellFormed p = true
    · have hl : (Row.cmp c).listed p o := h
      simp only [finishRow, Row.more, if_pos h, hl, true_and]
      rcases bs with _ | ⟨a, _ | ⟨b, bs⟩⟩ <;> simp
    · have hl : ¬ (Row.cmp c).listed p o := h
      simp only [finishRow, if_neg h, hl, false_and]
      simp

theorem shortRows_byMode (p : Params) : ∀ e ∈ shortRows, e.2.ByMode p := by
  unfold shortRows
  repeat' refine List.forall_mem_append.mpr ⟨?_, ?_⟩
  all_goals simp only [List.forall_mem_cons, List.not_mem_nil, false_imp_iff, implies_true, and_true]
  all_goals and_intros
  all_goals
    intro o o' h
    simp only [Row.listed, Row.at, Instr.wellFormed, modeIn, h]

theorem longRows_byMode (p : Params) : ∀ e ∈ longRows, e.2.ByMode p := by
  unfold longRows
  repeat' refine List.forall_mem_append.mpr ⟨?_, ?_⟩
  all_goals simp only [List.forall_mem_cons, List.not_mem_nil, false_imp_iff, implies_true, and_true]
  all_goals and_intros
  all_goals
    intro o o' h
    simp only [Row.listed, Row.at, Instr.wellFormed, modeIn, h]

/-- The rows that a parameter places among the short opcodes. -/
def paramRows : List Row :=
  [.plain .add64, .plain .mul64, .plain .ldz8, .plain .ldz32, .plain .st8, .plain .st64, .plain .sll2w32,
    .plain .sll2w64, .plain .fsubr32, .plain .fsubr64]

theorem paramShortRow_mem {p : Params} {mode : Nat} {n : Nib} {row : Row} (h : paramShortRow p mode n = some row) :
    row ∈ paramRows := by
  unfold paramShortRow at h
  split_ifs at h
  · cases h; simp [paramRows]
  · cases h; simp [paramRows]
  · cases hp : p.sh91 <;> rw [hp] at h <;> cases h <;> simp [paramRows]
  · cases hp : p.sh87 <;> rw [hp] at h <;> cases h <;> simp [paramRows]
  · cases hp : p.sh8D <;> rw [hp] at h <;> cases h <;> simp [paramRows]
  · cases h; simp [paramRows]
  · cases h; simp [paramRows]
  · cases h; simp [paramRows]

theorem paramRows_byMode (p : Params) : ∀ row ∈ paramRows, row.ByMode p ∧ row.more = 0 := by
  unfold paramRows
  simp only [List.forall_mem_cons, List.not_mem_nil, false_imp_iff, implies_true, and_true, Row.more]
  and_intros
  all_goals
    intro o o' h
    simp only [Row.listed, Row.at, Instr.wellFormed, modeIn, h]

theorem shortRow_byMode {p : Params} {mode : Nat} {n : Nib} {row : Row} (h : shortRow p mode n = some row) :
    row.ByMode p := by
  unfold shortRow at h
  split at h
  · next hr => cases h; exact shortRows_byMode p _ (mem_of_findRow hr)
  · exact (paramRows_byMode p _ (paramShortRow_mem h)).1

theorem byte_nibs_toNat : ∀ b : Byte, (hiNib b).toNat * 16 + (loNib b).toNat = b.toNat := by decide

theorem instrLen_short : ∀ b : Byte, isShortMode (hiNib b) = true → loNib b ≠ 0 →
    instrLen b = if b ∈ ([0x03, 0x12, 0x13, 0x93, 0xA3] : List Byte) then 4 else 2 := by decide

theorem instrLen_long : ∀ b : Byte, isShortMode (hiNib b) = false → hiNib b ≠ 2 → loNib b ≠ 0 →
    instrLen b = (if (loNib b).toNat = 2 ∨ (loNib b).toNat = 3 then 2 else 0) + genLen (hiNib b) := by decide

/-- The length of a short-op is the one its first byte fixes (R147). -/
theorem shortRow_length {p : Params} {b0 : Byte} {row : Row} (hm : isShortMode (hiNib b0) = true) (h0 : loNib b0 ≠ 0)
    (h : shortRow p (hiNib b0).toNat (loNib b0) = some row) : row.more + 2 = instrLen b0 := by
  rw [instrLen_short b0 hm h0]
  unfold shortRow at h
  rw [byte_nibs_toNat] at h
  split at h
  · next r hr =>
    cases h
    have hrows : ∀ e ∈ shortRows, e.2.more + 2 =
        if BitVec.ofNat 8 e.1 ∈ ([0x03, 0x12, 0x13, 0x93, 0xA3] : List Byte) then 4 else 2 := by
      unfold shortRows
      repeat' refine List.forall_mem_append.mpr ⟨?_, ?_⟩
      all_goals simp only [List.forall_mem_cons, List.not_mem_nil, false_imp_iff, implies_true, and_true]
      all_goals and_intros
      all_goals rfl
    have := hrows _ (mem_of_findRow hr)
    rwa [BitVec.ofNat_toNat, BitVec.setWidth_eq] at this
  · next hr =>
    rw [(paramRows_byMode p _ (paramShortRow_mem h)).2, if_neg]
    intro hb
    have hfound : ∀ b ∈ ([0x03, 0x12, 0x13, 0x93, 0xA3] : List Byte), (findRow shortRows b.toNat).isSome = true := by
      decide
    have := hfound b0 hb
    rw [hr] at this
    cases this

/-- The length of a long form is the one its first byte fixes (R147). -/
theorem longRow_length {b0 : Byte} {x : Nib} {row : Row} (hm : isShortMode (hiNib b0) = false) (h2 : hiNib b0 ≠ 2)
    (h0 : loNib b0 ≠ 0) (h : findRow longRows (nibs (loNib b0) x).toNat = some row) :
    row.more + genLen (hiNib b0) = instrLen b0 := by
  have hrows : ∀ e ∈ longRows, e.2.more = if e.1 / 16 = 2 ∨ e.1 / 16 = 3 then 2 else 0 := by
    unfold longRows
    repeat' refine List.forall_mem_append.mpr ⟨?_, ?_⟩
    all_goals simp only [List.forall_mem_cons, List.not_mem_nil, false_imp_iff, implies_true, and_true]
    all_goals and_intros
    all_goals rfl
  have hkey : ∀ a b : Nib, (nibs a b).toNat / 16 = a.toNat := by decide
  rw [instrLen_long b0 hm h2 h0, hrows _ (mem_of_findRow h), hkey]

/-- The operand of a long form is there exactly if its bytes are (R147, R150). -/
theorem longOperand_isSome {m x : Nib} {bs : List Byte} (hm : isShortMode m = false) (h2 : m ≠ 2) :
    (longOperand m x bs).isSome = true ↔ genLen m ≤ bs.length + 2 := by
  have hlong := long_mode hm h2
  rcases bs with _ | ⟨b2, _ | ⟨b3, _ | ⟨b4, _ | ⟨b5, _ | ⟨b6, bs⟩⟩⟩⟩⟩
  all_goals
    rcases hlong with rfl | rfl | rfl | rfl | rfl | rfl | rfl | rfl | rfl | rfl <;> simp [longOperand, genLen]


/-- The first two bytes begin an instruction of the opcode table. -/
def Listed (p : Params) (b0 b1 : Byte) : Prop :=
  if loNib b0 = 0 then
    hiNib b0 ∈ ([1, 5, 2, 0xA] : List Nib) ∨ (hiNib b0 ≠ 4 ∧ hiNib b0 ≠ 0xC ∧ (nonRow p (hiNib b0) (hiNib b1)).isSome)
  else if isShortMode (hiNib b0) then
    ∃ row, shortRow p (hiNib b0).toNat (loNib b0) = some row ∧ row.listed p (shortOperand (hiNib b0) 0)
  else hiNib b0 ≠ 2 ∧ ∃ row o, findRow longRows (nibs (loNib b0) (hiNib b1)).toNat = some row ∧
    o.mode = (hiNib b0).toNat ∧ row.listed p o

theorem shortOperand_mode {m : Nib} (hm : isShortMode m = true) (b : Byte) : (shortOperand m b).mode = m.toNat := by
  have h : m = 0 ∨ m = 1 ∨ m = 8 ∨ m = 9 ∨ m = 0xA := by revert m; decide
  rcases h with rfl | rfl | rfl | rfl | rfl <;> rfl

theorem longOperand_mode {m x : Nib} {bs r : List Byte} {o : GOp} (hm : isShortMode m = false) (h2 : m ≠ 2)
    (h : longOperand m x bs = some (o, r)) : o.mode = m.toNat ∧ r.length + genLen m = bs.length + 2 := by
  have hlong := long_mode hm h2
  rcases bs with _ | ⟨b2, _ | ⟨b3, _ | ⟨b4, _ | ⟨b5, _ | ⟨b6, bs⟩⟩⟩⟩⟩
  all_goals
    rcases hlong with rfl | rfl | rfl | rfl | rfl | rfl | rfl | rfl | rfl | rfl <;> simp [longOperand] at h
  all_goals
    obtain ⟨rfl, rfl⟩ := h
    exact ⟨rfl, rfl⟩

theorem decodeNon_ok_iff {p : Params} {b0 : Byte} {r : List Byte} (h0 : loNib b0 = 0) :
    (∃ q, decodeNon p (hiNib b0) r = .ok q) ↔ Listed p b0 (r.headD 0) ∧ instrLen b0 ≤ r.length + 1 := by
  have hlen : instrLen b0 = nonLen (hiNib b0) := if_pos h0
  rw [hlen, Listed, if_pos h0]
  generalize hiNib b0 = op0
  clear hlen
  unfold decodeNon
  by_cases h1 : op0 = 1
  · subst h1; simp [nonLen]
  by_cases h5 : op0 = 5
  · subst h5; simp [nonLen]
  by_cases h4 : op0 = 4
  · subst h4; simp
  by_cases hC : op0 = 0xC
  · subst hC; simp
  have h2le : 2 ≤ nonLen op0 := by revert op0; decide
  rw [if_neg h1, if_neg h5, if_neg (not_or.mpr ⟨h4, hC⟩)]
  cases r with
  | nil => simp; omega
  | cons b1 r =>
    by_cases h2 : op0 = 2
    · subst h2; simp [nonLen]
    by_cases hA : op0 = 0xA
    · subst hA; simp [nonLen]
    simp only [if_neg h2, if_neg hA, List.headD_cons, List.length_cons]
    have hn : op0 ∉ ([1, 5, 2, 0xA] : List Nib) := by simp_all
    cases hrow : nonRow p op0 (hiNib b1) with
    | none => simp only [hn, reduceCtorEq, exists_false, Option.isSome_none, Bool.false_eq_true, and_false, or_false,
        false_and]
    | some row =>
      have hl := nonRow_length hrow
      simp only [finishNon_ok_iff]
      constructor
      · exact fun h => ⟨.inr ⟨h4, hC, rfl⟩, by omega⟩
      · exact fun h => by omega

/-- Bytes decode exactly if the first two begin an instruction and its length is there. -/
theorem decode_ok_iff {p : Params} {b0 : Byte} {r : List Byte} :
    (∃ q, decode p (b0 :: r) = .ok q) ↔ Listed p b0 (r.headD 0) ∧ instrLen b0 ≤ r.length + 1 := by
  by_cases h0 : loNib b0 = 0
  · rw [← decodeNon_ok_iff h0]
    simp only [decode, if_pos h0]
  simp only [decode, Listed, if_neg h0]
  by_cases h2 : hiNib b0 = 2
  · rw [if_pos h2, if_neg (by rw [h2]; decide)]
    simp [h2]
  rw [if_neg h2]
  have h2le : 2 ≤ instrLen b0 := by revert b0; decide
  cases r with
  | nil => simp; omega
  | cons b1 r =>
    simp only [List.headD_cons, List.length_cons]
    cases hm : isShortMode (hiNib b0) with
    | true =>
      simp only [if_true]
      cases hrow : shortRow p (hiNib b0).toNat (loNib b0) with
      | none => simp
      | some row =>
        have hl := shortRow_length hm h0 hrow
        have hmode := shortRow_byMode hrow (shortOperand (hiNib b0) b1) (shortOperand (hiNib b0) 0)
          (by rw [shortOperand_mode hm, shortOperand_mode hm])
        simp only [finishRow_ok_iff, hmode, Option.some.injEq, exists_eq_left']
        exact and_congr_right fun _ => by omega
    | false =>
      simp only [Bool.false_eq_true, if_false]
      cases hrow : findRow longRows (nibs (loNib b0) (hiNib b1)).toNat with
      | none => simp
      | some row =>
        have hl := longRow_length hm h2 h0 hrow
        have hby := longRows_byMode p _ (mem_of_findRow hrow)
        cases ho : longOperand (hiNib b0) (loNib b1) r with
        | none =>
          have := (longOperand_isSome (x := loNib b1) (bs := r) hm h2).not.mp (by simp [ho])
          simp
          intros
          omega
        | some q =>
          obtain ⟨o, r'⟩ := q
          obtain ⟨hmode, hlen⟩ := longOperand_mode hm h2 ho
          simp only [finishRow_ok_iff, Option.some.injEq]
          constructor
          · exact fun ⟨h, h'⟩ => ⟨⟨h2, row, o, rfl, hmode, h⟩, by omega⟩
          · rintro ⟨⟨-, row', o', rfl, hm', h⟩, h'⟩
            exact ⟨(hby o o' (hmode.trans hm'.symm)).mpr h, by omega⟩

end Sys2Proof

namespace Sys2Proof.Machine

open Sys2Proof Sys2Proof.Stmt Config

/-- The first two bytes begin an FSQR. -/
def ListedFsqr (p : Params) (b0 b1 : Byte) : Prop :=
  if loNib b0 = 0 then
    hiNib b0 = 0xF ∧ nonRow p 0xF (hiNib b1) = none ∧ p.fsqrOpcodes.contains (.extended (hiNib b1)) = true
  else isShortMode (hiNib b0) = false ∧ hiNib b0 ∉ ([2, 5, 7] : List Nib) ∧ (fsqrFormat p (loNib b0) (hiNib b1)).isSome

/-- An opcode of the relational class is no FSQR. -/
theorem fsqrFormat_op1 {p : Params} {a b : Nib} (h : (fsqrFormat p a b).isSome = true) : a ≠ 2 ∧ a ≠ 3 := by
  constructor
  · rintro rfl
    simp [fsqrFormat] at h
  · rintro rfl
    simp [fsqrFormat] at h

theorem decodeFsqr_isSome {p : Params} {b0 : Byte} {r : List Byte} :
    (decodeFsqr p (b0 :: r)).isSome = true ↔ ListedFsqr p b0 (r.headD 0) ∧ instrLen b0 ≤ r.length + 1 := by
  by_cases h0 : loNib b0 = 0
  · simp only [ListedFsqr, if_pos h0]
    cases r with
    | nil =>
      simp only [decodeFsqr, Option.isSome_none, Bool.false_eq_true, List.headD_nil, List.length_nil, false_iff]
      rintro ⟨⟨hF, -⟩, hl⟩
      have : instrLen b0 = 3 := by rw [instrLen, if_pos h0, hF]; rfl
      omega
    | cons b1 r =>
      simp only [decodeFsqr, if_pos h0, List.headD_cons, List.length_cons]
      by_cases hF : hiNib b0 = 0xF
      · have hl : instrLen b0 = 3 := by rw [instrLen, if_pos h0, hF]; rfl
        rw [hl]
        split
        · next h =>
          simp only [Bool.and_eq_true, decide_eq_true_eq, Option.isNone_iff_eq_none] at h
          simp only [h, true_and]
          rcases r with _ | ⟨b2, r⟩ <;> simp
        · next h =>
          simp only [Bool.and_eq_true, decide_eq_true_eq, Option.isNone_iff_eq_none] at h
          simp only [Option.isSome_none, Bool.false_eq_true, false_iff]
          exact fun h' => h ⟨⟨h'.1.1, h'.1.2.1⟩, h'.1.2.2⟩
      · simp only [hF, decide_false, Bool.false_and, Bool.false_eq_true, if_false, Option.isSome_none, false_and]
  · simp only [ListedFsqr, if_neg h0]
    cases r with
    | nil =>
      simp only [decodeFsqr, Option.isSome_none, Bool.false_eq_true, List.length_nil, false_iff]
      rintro ⟨⟨hm, h2, -⟩, hl⟩
      have : ∀ b : Byte, isShortMode (hiNib b) = false → hiNib b ∉ ([2, 5, 7] : List Nib) → loNib b ≠ 0 →
        2 ≤ instrLen b := by decide
      have := this b0 hm h2 h0
      omega
    | cons b1 r =>
      simp only [decodeFsqr, if_neg h0, List.headD_cons, List.length_cons]
      by_cases hm : isShortMode (hiNib b0) = true ∨ hiNib b0 ∈ ([2, 5, 7] : List Nib)
      · rw [if_pos (by simpa using hm)]
        simp only [Option.isSome_none, Bool.false_eq_true, false_iff]
        rintro ⟨⟨h1, h2, -⟩, -⟩
        rcases hm with h | h
        · rw [h] at h1; cases h1
        · exact h2 h
      · rw [if_neg (by simpa using hm)]
        rw [not_or, Bool.not_eq_true] at hm
        obtain ⟨hm, hn⟩ := hm
        have h2 : hiNib b0 ≠ 2 := fun h => hn (by simp [h])
        cases hf : fsqrFormat p (loNib b0) (hiNib b1) with
        | none => simp
        | some f =>
          obtain ⟨hop2, hop3⟩ := fsqrFormat_op1 (p := p) (a := loNib b0) (b := hiNib b1) (by rw [hf]; rfl)
          have hl : instrLen b0 = genLen (hiNib b0) := by
            rw [instrLen_long b0 hm h2 h0, if_neg, Nat.zero_add]
            rintro (h | h)
            · exact hop2 (BitVec.eq_of_toNat_eq h)
            · exact hop3 (BitVec.eq_of_toNat_eq h)
          simp only [Option.bind_some, Option.isSome_map, longOperand_isSome hm h2, hl, hm, hn, Option.isSome_some,
            not_false_eq_true, true_and]

/-- The first two bytes begin an instruction, or an FSQR. -/
def Known (p : Params) (b0 b1 : Byte) : Prop := Listed p b0 b1 ∨ ListedFsqr p b0 b1

theorem instrLen_le (b : Byte) : instrLen b ≤ 9 := by
  revert b; decide

theorem opcodeKnown_iff {p : Params} {b0 : Byte} {r : List Byte} :
    opcodeKnown p (b0 :: r) = true ↔ Known p b0 (r.headD 0) := by
  have hl : instrLen b0 ≤ (r ++ List.replicate 9 (0 : Byte)).length + 1 := by
    have := instrLen_le b0
    simp
    omega
  have hh : (r ++ List.replicate 9 (0 : Byte)).headD 0 = r.headD 0 := by cases r <;> rfl
  have h1 := decode_ok_iff (p := p) (b0 := b0) (r := r ++ List.replicate 9 0)
  have h2 := decodeFsqr_isSome (p := p) (b0 := b0) (r := r ++ List.replicate 9 0)
  rw [hh] at h1 h2
  unfold opcodeKnown Known
  rw [List.cons_append]
  cases hd : decode p (b0 :: (r ++ List.replicate 9 0)) with
  | ok q => exact ⟨fun _ => .inl (h1.mp ⟨q, hd⟩).1, fun _ => rfl⟩
  | error e =>
    have hn : ¬ Listed p b0 (r.headD 0) := fun h => by
      obtain ⟨q, hq⟩ := h1.mpr ⟨h, hl⟩
      rw [hd] at hq
      cases hq
    simp only [hn, false_or]
    exact h2.trans (and_iff_left hl)

/-- The second byte matters in no instruction of one byte and in no short-op. -/
theorem known_of_first {p : Params} {b0 : Byte} (b b' : Byte)
    (h : instrLen b0 = 1 ∨ (isShortMode (hiNib b0) = true ∧ loNib b0 ≠ 0)) : Known p b0 b ↔ Known p b0 b' := by
  unfold Known Listed ListedFsqr
  by_cases h0 : loNib b0 = 0
  · simp only [if_pos h0]
    have h1 : instrLen b0 = 1 := h.resolve_right fun h' => h'.2 h0
    have hop : hiNib b0 = 1 ∨ hiNib b0 = 5 ∨ hiNib b0 = 4 ∨ hiNib b0 = 0xC := by
      clear h
      revert b0; decide
    rcases hop with h | h | h | h <;> simp [h]
  · simp only [if_neg h0]
    rcases h with h1 | ⟨hm, -⟩
    · have h2 : hiNib b0 = 2 := by revert b0; decide
      simp [h2, isShortMode]
    · simp [hm]


variable {s : State}

/-! ### The bytes at the pc -/

theorem State.fetchBytes_eq_some {a : Addr} {n : Nat} {bs : List Byte} :
    s.fetchBytes a n = some bs ↔ s.allowedRange .fetch a n = true ∧ readBytes s.mem a n = bs := by
  unfold State.fetchBytes
  split <;> simp_all

theorem State.fetchBytes_eq_none {a : Addr} {n : Nat} :
    s.fetchBytes a n = none ↔ s.allowedRange .fetch a n = false := by
  unfold State.fetchBytes
  split <;> simp_all

/-- A shorter range from the same address. -/
theorem State.fetchBytes_le {a : Addr} {n m : Nat} {bs : List Byte} (h : s.fetchBytes a n = some bs) (hm : m ≤ n) :
    s.fetchBytes a m = some (readBytes s.mem a m) :=
  State.fetchBytes_eq_some.mpr
    ⟨State.allowedRange_sub (State.fetchBytes_eq_some.mp h).1 (j := 0) (by simp) (by omega), rfl⟩

theorem State.visibleBytes_of_allowed {a : Addr} {n : Nat} (h : s.allowedRange .fetch a n = true) :
    s.visibleBytes a n = readBytes s.mem a n := by
  induction n generalizing a with
  | zero => rfl
  | succ n ih =>
    rw [State.allowedRange_succ, Bool.and_eq_true] at h
    simp only [State.visibleBytes, h.1, if_true, ih h.2]
    rfl

theorem State.visibleBytes_of_denied {a : Addr} {n : Nat}
    (h : ∀ j, j < n → s.allowed .fetch (a + BitVec.ofNat 32 j) = false) : s.visibleBytes a n = List.replicate n 0 := by
  induction n generalizing a with
  | zero => rfl
  | succ n ih =>
    have h0 : s.allowed .fetch a = false := by simpa using h 0 (by omega)
    rw [State.visibleBytes, h0, List.replicate_succ, ih]
    · rfl
    · intro j hj
      have := h (j + 1) (by omega)
      rwa [show a + BitVec.ofNat 32 (j + 1) = a + 1 + BitVec.ofNat 32 j by
        rw [BitVec.add_assoc]; congr 1; rw [BitVec.add_comm]; simp [← BitVec.ofNat_add]] at this

theorem State.visibleBytes_add (a : Addr) (k m : Nat) :
    s.visibleBytes a (k + m) = s.visibleBytes a k ++ s.visibleBytes (a + BitVec.ofNat 32 k) m := by
  induction k generalizing a with
  | zero => simp [State.visibleBytes]
  | succ k ih =>
    rw [show k + 1 + m = k + m + 1 by omega, State.visibleBytes, ih, State.visibleBytes, List.cons_append,
      show a + BitVec.ofNat 32 (k + 1) = a + 1 + BitVec.ofNat 32 k by
        rw [BitVec.add_assoc]; congr 1; rw [BitVec.add_comm]; simp [← BitVec.ofNat_add]]

/-- One page's bytes have the same rights. -/
theorem State.allowed_of_page {a b : Addr} (k : Access) (h : pageNo a = pageNo b) : s.allowed k a = s.allowed k b := by
  have hal : allocatable a = allocatable b := by
    unfold pageNo at h
    unfold allocatable
    have h1 : decide (2048 ≤ a.toNat) = decide (2048 ≤ b.toNat) := decide_eq_decide.mpr (by omega)
    have h2 : decide (a.toNat < 0xC0000000) = decide (b.toNat < 0xC0000000) := decide_eq_decide.mpr (by omega)
    rw [h1, h2]
  unfold State.allowed State.pageAt
  rw [hal, h]

/-- Where the rights end, they end for the whole of the next page. -/
theorem State.denied_after {a : Addr} {k : Access} (h : s.allowed k a = true) (h' : s.allowed k (a + 1) = false) (j : Nat)
    (hj : j < 2048) : s.allowed k (a + 1 + BitVec.ofNat 32 j) = false := by
  rw [← h']
  have hne : pageNo a ≠ pageNo (a + 1) := fun he => by rw [State.allowed_of_page k he, h'] at h; cases h
  refine State.allowed_of_page k ?_
  unfold pageNo at hne ⊢
  have := a.isLt
  simp only [BitVec.toNat_add, BitVec.toNat_ofNat, show (1 : Addr).toNat = 1 from rfl] at hne ⊢
  omega

/-- The bytes that can be fetched and zeros for the others, where the fetch fails on byte `k`. -/
theorem State.visibleBytes_partial {a : Addr} {k n : Nat} {bs : List Byte} (h1 : 1 ≤ k) (hk : k < n) (hn : n ≤ 9)
    (h : s.fetchBytes a k = some bs) (hd : s.allowed .fetch (a + BitVec.ofNat 32 k) = false) :
    s.visibleBytes a n = bs ++ List.replicate (n - k) 0 := by
  obtain ⟨hal, hbs⟩ := State.fetchBytes_eq_some.mp h
  obtain ⟨k, rfl⟩ : ∃ m, k = m + 1 := ⟨k - 1, by omega⟩
  have hstep : a + BitVec.ofNat 32 (k + 1) = a + BitVec.ofNat 32 k + 1 := by
    rw [BitVec.add_assoc]; congr 1; simp [BitVec.ofNat_add]
  rw [show n = (k + 1) + (n - (k + 1)) by omega, State.visibleBytes_add, State.visibleBytes_of_allowed hal, hbs,
    State.visibleBytes_of_denied, show k + 1 + (n - (k + 1)) - (k + 1) = n - (k + 1) by omega]
  intro j hj
  rw [hstep] at hd ⊢
  exact State.denied_after ((State.allowedRange_iff _ _ _).mp hal k (by omega)) hd j (by omega)

/-! ### The fetch -/

/-- What bytes of their length are. -/
def fetchedOf (p : Params) (bs : List Byte) : Fetched :=
  match decode p bs with
  | .ok (i, _) => .instr i
  | .error _ =>
    match decodeFsqr p bs with
    | some q => .fsqr q bs
    | none => .illegal bs

theorem fetchedOf_ok {p : Params} {bs r : List Byte} {i : Instr} (h : decode p bs = .ok (i, r)) :
    fetchedOf p bs = .instr i := by
  unfold fetchedOf
  rw [h]

theorem fetchedOf_fsqr {p : Params} {bs : List Byte} {q : Fsqr} (h : ∀ r, decode p bs ≠ .ok r)
    (hq : decodeFsqr p bs = some q) : fetchedOf p bs = .fsqr q bs := by
  unfold fetchedOf
  split
  · next i r hd => exact absurd hd (h (i, r))
  · rw [hq]

theorem fetchedOf_illegal {p : Params} {bs : List Byte} (h : ∀ r, decode p bs ≠ .ok r)
    (hq : decodeFsqr p bs = none) : fetchedOf p bs = .illegal bs := by
  unfold fetchedOf
  split
  · next i r hd => exact absurd hd (h (i, r))
  · rw [hq]

/-- Bytes that begin neither an instruction nor an FSQR. -/
theorem fetchedOf_unknown {p : Params} {b0 : Byte} {r : List Byte} (h : ¬ Known p b0 (r.headD 0)) :
    fetchedOf p (b0 :: r) = .illegal (b0 :: r) := by
  refine fetchedOf_illegal (fun q hq => h (.inl (decode_ok_iff.mp ⟨q, hq⟩).1)) ?_
  rw [← Option.isNone_iff_eq_none, ← Option.not_isSome]
  simp only [Bool.not_eq_true', ← Bool.not_eq_true]
  exact fun hq => h (.inr (decodeFsqr_isSome.mp hq).1)

/-- The first byte alone makes it illegal: it fixes that no row is listed. -/
theorem firstByteIllegal_iff {p : Params} {b0 : Byte} : firstByteIllegal p b0 = true ↔
    (instrLen b0 = 1 ∨ (isShortMode (hiNib b0) = true ∧ loNib b0 ≠ 0)) ∧ ¬ Known p b0 0 := by
  have h := opcodeKnown_iff (p := p) (b0 := b0) (r := [])
  simp only [List.headD_nil] at h
  unfold firstByteIllegal
  rw [Bool.and_eq_true, Bool.not_eq_true', ← Bool.not_eq_true, h]
  simp only [Bool.or_eq_true, decide_eq_true_eq, Bool.and_eq_true]
  exact and_comm

/-- The first byte's fetch fails. -/
theorem State.fetch_none (h : s.fetchBytes s.pc 1 = none) : s.fetch = .violation := by
  unfold State.fetch
  rw [h]

theorem readBytes_succ (m : List Host.Cell) (a : Addr) (n : Nat) :
    readBytes m a (n + 1) = readCell m a.toNat :: readBytes m (a + 1) n := rfl

/-- The fetch from the second byte on, the first being there. -/
theorem State.fetch_first (h : s.fetchBytes s.pc 1 ≠ none) : s.fetch =
    let n := instrLen (s.byteAt s.pc)
    if firstByteIllegal s.params (s.byteAt s.pc) then .illegal (s.visibleBytes s.pc n)
    else match s.fetchBytes s.pc (min n 2) with
      | none => .violation
      | some h =>
        if opcodeKnown s.params h then
          match s.fetchBytes s.pc n with
          | none => if illegalAsFar s.params (s.visibleBytes s.pc n) then .illegal (s.visibleBytes s.pc n) else .violation
          | some bs => fetchedOf s.params bs
        else .illegal (s.visibleBytes s.pc n) := by
  obtain ⟨h0, hb⟩ := Option.ne_none_iff_exists'.mp h
  obtain ⟨-, rfl⟩ := State.fetchBytes_eq_some.mp hb
  unfold State.fetch
  rw [hb]
  rfl

theorem instrLen_pos (b : Byte) : 1 ≤ instrLen b := by
  revert b; decide

/-- All bytes of the instruction's length are there. -/
theorem State.fetch_of_bytes {bs : List Byte} (h : s.fetchBytes s.pc (instrLen (s.byteAt s.pc)) = some bs) :
    s.fetch = fetchedOf s.params bs := by
  have hpos := instrLen_pos (s.byteAt s.pc)
  have hbs := (State.fetchBytes_eq_some.mp h).2
  have hvis : s.visibleBytes s.pc (instrLen (s.byteAt s.pc)) = bs := by
    rw [State.visibleBytes_of_allowed (State.fetchBytes_eq_some.mp h).1, hbs]
  obtain ⟨n, hn⟩ : ∃ n, instrLen (s.byteAt s.pc) = n + 1 := ⟨instrLen (s.byteAt s.pc) - 1, by omega⟩
  have hcons : bs = s.byteAt s.pc :: readBytes s.mem (s.pc + 1) n := by
    rw [← hbs, hn]
    rfl
  rw [State.fetch_first (by rw [State.fetchBytes_le h hpos]; simp)]
  simp only [hvis, h]
  split
  · next hf =>
    obtain ⟨h1, hk⟩ := firstByteIllegal_iff.mp hf
    rw [hcons, fetchedOf_unknown fun hk' => hk ((known_of_first _ _ h1).mp hk')]
  · rw [State.fetchBytes_le h (Nat.min_le_left _ _)]
    simp only
    obtain ⟨m, hm⟩ : ∃ m, min (instrLen (s.byteAt s.pc)) 2 = m + 1 := ⟨min (instrLen (s.byteAt s.pc)) 2 - 1, by omega⟩
    have hsame : Known s.params (s.byteAt s.pc) ((readBytes s.mem (s.pc + 1) m).headD 0) ↔
        Known s.params (s.byteAt s.pc) ((readBytes s.mem (s.pc + 1) n).headD 0) := by
      rcases Nat.lt_or_ge (instrLen (s.byteAt s.pc)) 2 with hlt | hge
      · exact known_of_first _ _ (.inl (by omega))
      · obtain rfl : m = 1 := by omega
        obtain ⟨n', rfl⟩ : ∃ n', n = n' + 1 := ⟨n - 1, by omega⟩
        rfl
    rw [hm, readBytes_succ]
    split
    · rfl
    · next hk =>
      rw [hcons, fetchedOf_unknown]
      exact fun h' => hk (opcodeKnown_iff.mpr (hsame.mpr h'))

theorem State.fetchBytes_short {a : Addr} {k n : Nat} (hk : k < n)
    (hd : s.allowed .fetch (a + BitVec.ofNat 32 k) = false) : s.fetchBytes a n = none := by
  rw [State.fetchBytes_eq_none, ← Bool.not_eq_true, State.allowedRange_iff]
  exact fun h => by rw [h k hk] at hd; cases hd

/-- The second byte cannot be fetched. -/
theorem State.fetch_second_denied (h1 : s.fetchBytes s.pc 1 ≠ none) (hn : 1 < instrLen (s.byteAt s.pc))
    (hd : s.allowed .fetch (s.pc + BitVec.ofNat 32 1) = false) :
    s.fetch = if firstByteIllegal s.params (s.byteAt s.pc) then .illegal (s.visibleBytes s.pc (instrLen (s.byteAt s.pc)))
      else .violation := by
  rw [State.fetch_first h1]
  simp only [State.fetchBytes_short (show 1 < min (instrLen (s.byteAt s.pc)) 2 by omega) hd]

/-- A byte after the second cannot be fetched. -/
theorem State.fetch_later_denied {k : Nat} {bs : List Byte} (hk : 1 < k) (hn : k < instrLen (s.byteAt s.pc))
    (h : s.fetchBytes s.pc k = some bs) (hd : s.allowed .fetch (s.pc + BitVec.ofNat 32 k) = false) :
    let seen := bs ++ List.replicate (instrLen (s.byteAt s.pc) - k) 0
    (Known s.params (s.byteAt s.pc) ((seen.drop 1).headD 0) →
      s.fetch = if illegalAsFar s.params seen then .illegal seen else .violation) ∧
    (¬ Known s.params (s.byteAt s.pc) ((seen.drop 1).headD 0) → s.fetch = .illegal seen) := by
  have hvis := State.visibleBytes_partial (by omega) hn (instrLen_le _) h hd
  obtain ⟨k, rfl⟩ : ∃ m, k = m + 2 := ⟨k - 2, by omega⟩
  have hsecond : ((bs ++ List.replicate (instrLen (s.byteAt s.pc) - (k + 2)) 0).drop 1).headD 0 =
      readCell s.mem (s.pc + 1).toNat := by
    rw [← (State.fetchBytes_eq_some.mp h).2]
    rfl
  have htwo := State.fetchBytes_le h (show 2 ≤ k + 2 by omega)
  simp only
  rw [State.fetch_first (by rw [State.fetchBytes_le h (by omega)]; simp), hsecond]
  simp only [show min (instrLen (s.byteAt s.pc)) 2 = 2 by omega, htwo, State.fetchBytes_short hn hd, hvis]
  have hop : opcodeKnown s.params (readBytes s.mem s.pc 2) = true ↔
      Known s.params (s.byteAt s.pc) (readCell s.mem (s.pc + 1).toNat) := opcodeKnown_iff
  rw [← hop]
  refine ⟨fun hkn => ?_, fun hkn => ?_⟩
  · rw [if_neg, if_pos hkn]
    exact fun hf => (firstByteIllegal_iff.mp hf).2
      ((known_of_first _ _ (firstByteIllegal_iff.mp hf).1).mp (hop.mp hkn))
  · rw [if_neg hkn]
    exact ite_self _

/-! ### Illegal by form -/

theorem pairTarget_eq_false {r : Reg} : pairTarget r = false ↔ 14 ≤ r.toNat := by
  revert r; decide

theorem pairDest_eq_false {r : Reg} : pairDest r = false ↔ 14 ≤ r.toNat := by
  revert r; decide

theorem pairSource_eq_false {r : Reg} : pairSource r = false ↔ r = 15 := by
  revert r; decide

theorem not_pairs {a b c : Bool} : (!(a && b && c)) = true ↔ a = false ∨ b = false ∨ c = false := by
  cases a <;> cases b <;> simp

theorem not_pair {a b : Bool} : (!(a && b)) = true ↔ a = false ∨ b = false := by
  cases a <;> simp

/-- The statement's illegal forms are illegal by form (R23, R320, D3, D14). -/
theorem illegalForm_of_badForm {p : Params} {i : Instr} (h : BadForm p i) : illegalForm p i = true := by
  rcases h with ⟨e, he, x, y, z, rfl, h⟩ | ⟨e, he, x, y, z, rfl, h⟩ | ⟨e, he, x, y, z, a, rfl, h⟩ |
    ⟨x, y, z, ⟨rfl, h⟩ | ⟨rfl, h⟩ | ⟨rfl, h⟩ | ⟨rfl | rfl | rfl, h⟩⟩ | ⟨o, rfl | rfl, h⟩ |
    ⟨x, y, z, ⟨rfl, h⟩ | ⟨rfl, h⟩ | ⟨rfl, h⟩ | ⟨rfl, h⟩ | ⟨rfl, h⟩ | ⟨rfl, h⟩⟩
  · simp only [wideProducts, List.mem_cons, List.not_mem_nil, or_false] at he
    rw [← pairDest_eq_false] at h
    rcases he with rfl | rfl <;> exact congrArg (!·) h
  · simp only [floatPairOps, List.mem_cons, List.not_mem_nil, or_false] at he
    rw [← pairTarget_eq_false, ← pairSource_eq_false, ← pairSource_eq_false, ← not_pairs] at h
    rcases he with rfl | rfl | rfl | rfl <;> exact h
  · simp only [pairCompares, List.mem_cons, List.not_mem_nil, or_false] at he
    rw [← pairSource_eq_false, ← pairSource_eq_false, ← not_pair] at h
    rcases he with rfl | rfl | rfl | rfl <;> exact h
  · rwa [← pairTarget_eq_false, ← pairSource_eq_false, ← not_pair] at h
  · rwa [← pairTarget_eq_false, ← pairSource_eq_false, ← not_pair] at h
  · exact congrArg (!·) (pairTarget_eq_false.mpr h)
  · exact congrArg (!·) (pairSource_eq_false.mpr h)
  · exact congrArg (!·) (pairSource_eq_false.mpr h)
  · exact congrArg (!·) (pairSource_eq_false.mpr h)
  · exact congrArg (!·) (pairTarget_eq_false.mpr h)
  · exact congrArg (!·) (pairTarget_eq_false.mpr h)
  · exact congrArg (!·) h
  · exact congrArg (!·) h
  · exact congrArg (!·) h
  · exact congrArg (!·) h
  · exact congrArg (!·) h
  · exact congrArg (!·) h

/-- What is illegal by form is one of the statement's illegal forms. -/
theorem badForm_of_illegalForm {p : Params} {i : Instr} (h : illegalForm p i = true) : BadForm p i := by
  have neg : ∀ {b : Bool}, (!b) = true → b = false := fun h => by simpa using h
  have wide : ∀ {c : Tri} {f}, (c, f) ∈ wideProducts → ∀ {x y z}, i = c x y z → (!pairDest x) = true → BadForm p i :=
    fun hm _ _ _ hi h => .inl ⟨_, hm, _, _, _, hi, pairDest_eq_false.mp (neg h)⟩
  have arith : ∀ {c : Tri} {f}, (c, f) ∈ floatPairOps → ∀ {x y z}, i = c x y z →
      (!(pairTarget x && pairSource y && pairSource z)) = true → BadForm p i := by
    intro c f hm x y z hi h
    rw [not_pairs, pairTarget_eq_false, pairSource_eq_false, pairSource_eq_false] at h
    exact .inr (.inl ⟨_, hm, _, _, _, hi, h⟩)
  have cmp : ∀ {c : Reg → Reg → Reg → App → Instr} {f}, (c, f) ∈ pairCompares → ∀ {x y z a}, i = c x y z a →
      (!(pairSource y && pairSource z)) = true → BadForm p i := by
    intro c f hm x y z a hi h
    rw [not_pair, pairSource_eq_false, pairSource_eq_false] at h
    exact .inr (.inr (.inl ⟨_, hm, _, _, _, _, hi, h⟩))
  cases i
  case mul128 x y z => exact wide (f := fun a b => a.toInt * b.toInt) (.head _) rfl h
  case mulu128 x y z => exact wide (f := fun a b => (a.toNat * b.toNat : Nat)) (.tail _ (.head _)) rfl h
  case fadd80 x y z => exact arith (f := .add) (by simp [floatPairOps]) rfl h
  case fsub80 x y z => exact arith (f := .sub) (by simp [floatPairOps]) rfl h
  case fmul80 x y z => exact arith (f := .mul) (by simp [floatPairOps]) rfl h
  case fdiv80 x y z => exact arith (f := .div) (by simp [floatPairOps]) rfl h
  case fcmp80 x y z a => exact cmp (f := (false, false)) (by simp [pairCompares]) rfl h
  case fcmpBr80 x y z a => exact cmp (f := (false, true)) (by simp [pairCompares]) rfl h
  case fcmpx80 x y z a => exact cmp (f := (true, false)) (by simp [pairCompares]) rfl h
  case fcmpxBr80 x y z a => exact cmp (f := (true, true)) (by simp [pairCompares]) rfl h
  case frem80 x y z =>
    have h := not_pair.mp h
    rw [pairTarget_eq_false, pairSource_eq_false] at h
    exact .inr (.inr (.inr (.inl ⟨x, y, z, .inl ⟨rfl, h⟩⟩)))
  case finp80 x y z =>
    have h := not_pair.mp h
    rw [pairTarget_eq_false, pairSource_eq_false] at h
    exact .inr (.inr (.inr (.inl ⟨x, y, z, .inr (.inl ⟨rfl, h⟩)⟩)))
  case cvtIe x y z =>
    exact .inr (.inr (.inr (.inl ⟨x, y, z, .inr (.inr (.inl ⟨rfl, pairTarget_eq_false.mp (neg h)⟩))⟩)))
  case cvtEi x y z =>
    exact .inr (.inr (.inr (.inl ⟨x, y, z, .inr (.inr (.inr ⟨.inl rfl, pairSource_eq_false.mp (neg h)⟩))⟩)))
  case cvtEs x y z =>
    exact .inr (.inr (.inr (.inl ⟨x, y, z, .inr (.inr (.inr ⟨.inr (.inl rfl), pairSource_eq_false.mp (neg h)⟩))⟩)))
  case cvtEd x y z =>
    exact .inr (.inr (.inr (.inl ⟨x, y, z, .inr (.inr (.inr ⟨.inr (.inr rfl), pairSource_eq_false.mp (neg h)⟩))⟩)))
  case cvtDe o => exact .inr (.inr (.inr (.inr (.inl ⟨o, .inl rfl, pairTarget_eq_false.mp (neg h)⟩))))
  case cvtSe o => exact .inr (.inr (.inr (.inr (.inl ⟨o, .inr rfl, pairTarget_eq_false.mp (neg h)⟩))))
  case readMachId x => exact .inr (.inr (.inr (.inr (.inr ⟨x, x, x, .inl ⟨rfl, neg h⟩⟩))))
  case memoryMan x y z => exact .inr (.inr (.inr (.inr (.inr ⟨x, y, z, .inr (.inl ⟨rfl, neg h⟩)⟩))))
  case modifyPme x y z => exact .inr (.inr (.inr (.inr (.inr ⟨x, y, z, .inr (.inr (.inl ⟨rfl, neg h⟩))⟩))))
  case exchLinkForward x y z =>
    exact .inr (.inr (.inr (.inr (.inr ⟨x, y, z, .inr (.inr (.inr (.inl ⟨rfl, neg h⟩)))⟩))))
  case forwardMsg x y z =>
    exact .inr (.inr (.inr (.inr (.inr ⟨x, y, z, .inr (.inr (.inr (.inr (.inl ⟨rfl, neg h⟩))))⟩))))
  case sendSmallMsg x y z =>
    exact .inr (.inr (.inr (.inr (.inr ⟨x, y, z, .inr (.inr (.inr (.inr (.inr ⟨rfl, neg h⟩))))⟩))))
  all_goals exact absurd h Bool.false_ne_true

/-! ### The step -/

theorem State.fetchBytes_unblocked (a : Addr) (n : Nat) :
    ({ s with blocked := false } : State).fetchBytes a n = s.fetchBytes a n := by
  have h : ({ s with blocked := false } : State).allowedRange .fetch a n = s.allowedRange .fetch a n :=
    State.allowedRange_congr (s := s) (t := { s with blocked := false }) rfl _ _ _
  unfold State.fetchBytes
  rw [h]

theorem step_eq (h : s.ended = false) : step s =
    match ({ s with blocked := false } : State).fetch with
    | .violation => (fetchViolation { s with blocked := false }).bind (boundary none s.ss)
    | .illegal bytes => (illegalBytes bytes { s with blocked := false }).bind (boundary (some s.pc) s.ss)
    | .fsqr q bytes => (execFsqr q bytes { s with blocked := false }).bind (boundary (some s.pc) s.ss)
    | .instr i => Res.bind (exec i { s with blocked := false }) (boundary (some s.pc) s.ss) := by
  unfold step
  exact (if_neg (by simp [h])).trans rfl

/-- Settles O4. -/
theorem stepRunsDecoded : Obligations.StepRunsDecoded := by
  intro s bs hs hbs
  have hf : ({ s with blocked := false } : State).fetch = fetchedOf s.params bs :=
    State.fetch_of_bytes (s := { s with blocked := false }) (by rw [State.fetchBytes_unblocked]; exact hbs)
  rw [step_eq hs, hf]
  exact ⟨fun i rest h => by rw [fetchedOf_ok h], fun q h hq => by rw [fetchedOf_fsqr h hq]⟩

/-- A fetch violation: exception 21 at the pc, or no further step (R740). -/
theorem step_of_violation (h : s.ended = false) (hf : ({ s with blocked := false } : State).fetch = .violation) :
    (s.excEnabled .accessViolation = false → step s = .fault .fetchUnhandled) ∧
    (s.excEnabled .accessViolation = true → step s =
      Res.bind (sendException [] s.lastPc { code := .accessViolation }
        ((({ s with blocked := false } : State).setOccurred .accessViolation).setPc s.pc)) (boundary none s.ss)) := by
  rw [step_eq h, hf]
  unfold fetchViolation
  refine ⟨fun he => ?_, fun he => ?_⟩
  · have he' : ({ s with blocked := false } : State).excEnabled .accessViolation = false := he
    rw [he']
    rfl
  · have he' : ({ s with blocked := false } : State).excEnabled .accessViolation = true := he
    rw [he']
    simp only [if_true]
    rw [raiseAt_enabled he']

/-- Illegal bytes: exception 22 with them (R730). -/
theorem step_of_illegal {bytes : List Byte} (h : s.ended = false)
    (hf : ({ s with blocked := false } : State).fetch = .illegal bytes) :
    let t := (({ s with blocked := false } : State).setOccurred .illegal).setPc (s.pc + BitVec.ofNat 32 bytes.length)
    (s.excEnabled .illegal = false → step s = boundary (some s.pc) s.ss t) ∧
    (s.excEnabled .illegal = true → step s =
      Res.bind (sendException bytes s.pc { code := .illegal } t) (boundary (some s.pc) s.ss)) := by
  rw [step_eq h, hf]
  refine ⟨fun he => ?_, fun he => ?_⟩
  · have he' : ({ s with blocked := false } : State).excEnabled .illegal = false := he
    show Res.bind (raiseAt _ _ _ _ _) _ = _
    rw [raiseAt_disabled he']
    rfl
  · have he' : ({ s with blocked := false } : State).excEnabled .illegal = true := he
    show Res.bind (raiseAt _ _ _ _ _) _ = _
    rw [raiseAt_enabled he']

theorem fsqr_badPair_iff {x z : Reg} : (Fsqr.pair x z).badPair = true ↔ 14 ≤ x.toNat ∨ z = 15 := by
  rw [← pairTarget_eq_false, ← pairSource_eq_false, ← not_pair]
  rfl

theorem not_shortMode_iff {m : Nib} : isShortMode m = false ↔ m ∉ ([0, 1, 8, 9, 0xA] : List Nib) :=
  decide_eq_false_iff_not

/-- The statement's reading of a first byte that may begin an instruction. -/
theorem listed_first {p : Params} {b0 : Byte} (hn : 1 < instrLen b0) :
    (hiNib b0 ∉ ([0, 1, 8, 9, 0xA] : List Nib) ∨ loNib b0 = 0 ∨ ∃ more r, decode p ([b0] ++ more) = .ok r) ↔
      firstByteIllegal p b0 = false := by
  have hfirst : firstByteIllegal p b0 = false ↔ ¬ ((isShortMode (hiNib b0) = true ∧ loNib b0 ≠ 0) ∧ ¬ Known p b0 0) := by
    rw [← Bool.not_eq_true, firstByteIllegal_iff, or_iff_right (by omega)]
  rw [hfirst, ← not_shortMode_iff, ← Bool.not_eq_true]
  by_cases hm : isShortMode (hiNib b0) = true
  · by_cases h0 : loNib b0 = 0
    · simp [h0]
    · have hnot : ¬ ListedFsqr p b0 0 := fun h => by
        rw [ListedFsqr, if_neg h0, hm] at h
        cases h.1
      have hk : (∃ more r, decode p ([b0] ++ more) = .ok r) ↔ Known p b0 0 := by
        constructor
        · rintro ⟨more, r, h⟩
          exact (known_of_first _ _ (.inr ⟨hm, h0⟩)).mp (.inl (decode_ok_iff.mp ⟨r, h⟩).1)
        · intro h
          refine ⟨List.replicate 8 0, decode_ok_iff.mpr ⟨h.resolve_right hnot, ?_⟩⟩
          have := instrLen_le b0
          simpa using this
      rw [hk]
      tauto
  · tauto

theorem illegalAsFar_instr {p : Params} {bs r : List Byte} {i : Instr} (h : decode p bs = .ok (i, r)) :
    illegalAsFar p bs = illegalForm p i := by
  unfold illegalAsFar
  rw [h]

theorem illegalAsFar_fsqr {p : Params} {bs : List Byte} (h : ∀ r, decode p bs ≠ .ok r) :
    illegalAsFar p bs = ((decodeFsqr p bs).map Fsqr.badPair).getD false := by
  unfold illegalAsFar
  split
  · next i r hd => exact absurd hd (h (i, r))
  · cases decodeFsqr p bs <;> rfl

/-- Bytes of their length that begin an instruction or an FSQR are one. -/
theorem decodes_of_known {p : Params} {b0 : Byte} {r : List Byte} (h : Known p b0 (r.headD 0))
    (hl : instrLen b0 ≤ r.length + 1) :
    (∃ q, decode p (b0 :: r) = .ok q) ∨ (decodeFsqr p (b0 :: r)).isSome = true :=
  h.imp (fun h => decode_ok_iff.mpr ⟨h, hl⟩) fun h => decodeFsqr_isSome.mpr ⟨h, hl⟩

/-- Settles O5. -/
theorem failedFetches : Obligations.FailedFetches := by
  intro s hs p n s0 violates illegal
  have viol : s0.fetch = .violation → violates := step_of_violation hs
  have ill : ∀ bytes : List Byte, bytes.length = n → s0.fetch = .illegal bytes → illegal bytes := fun bytes hl hf => by
    have := step_of_illegal hs hf
    rwa [hl] at this
  have hfetch : ∀ k, s0.fetchBytes s0.pc k = s.fetchBytes s.pc k := fun k => State.fetchBytes_unblocked _ _
  refine ⟨fun h => viol (State.fetch_none ((hfetch 1).trans h)), fun bs hbs hd hq => ?_, fun k bs h1 hk hbs hal => ?_⟩
  · have hf : s0.fetch = fetchedOf p bs := State.fetch_of_bytes ((hfetch n).trans hbs)
    rw [fetchedOf_illegal hd hq] at hf
    refine ill bs ?_ hf
    rw [← (State.fetchBytes_eq_some.mp hbs).2, readBytes_length]
  · have hlen : (bs ++ List.replicate (n - k) (0 : Byte)).length = n := by
      rw [List.length_append, ← (State.fetchBytes_eq_some.mp hbs).2, readBytes_length, List.length_replicate]
      omega
    have hbs0 : s0.fetchBytes s0.pc k = some bs := (hfetch k).trans hbs
    have hvis : s0.visibleBytes s0.pc n = bs ++ List.replicate (n - k) 0 :=
      State.visibleBytes_partial h1 hk (instrLen_le _) hbs0 hal
    refine ⟨fun hk1 => ?_, fun hk1 => ?_⟩
    · subst hk1
      have hb : bs = [s.byteAt s.pc] := (State.fetchBytes_eq_some.mp hbs).2.symm
      have hf := State.fetch_second_denied (s := s0) (by rw [hbs0]; simp) hk hal
      rw [hb] at hvis hlen ⊢
      simp only [listed_first hk]
      refine ⟨fun h => viol (hf.trans ?_), fun h => ill _ hlen (hf.trans ?_)⟩
      · exact if_neg (by rw [show firstByteIllegal s0.params (s0.byteAt s0.pc) = false from h]; simp)
      · have hi : firstByteIllegal s0.params (s0.byteAt s0.pc) = true := Bool.eq_true_of_not_eq_false h
        rw [if_pos hi]
        exact congrArg _ hvis
    · have hlater := State.fetch_later_denied (s := s0) hk1 hk hbs0 hal
      obtain ⟨rest, hcons⟩ : ∃ rest, bs ++ List.replicate (n - k) 0 = s.byteAt s.pc :: rest := by
        rw [← (State.fetchBytes_eq_some.mp hbs).2]
        obtain ⟨k, rfl⟩ : ∃ m, k = m + 1 := ⟨k - 1, by omega⟩
        exact ⟨_, rfl⟩
      have hl : instrLen (s.byteAt s.pc) ≤ rest.length + 1 := by
        rw [hcons] at hlen
        exact hlen.ge
      have hseen : bs ++ List.replicate (instrLen (s0.byteAt s0.pc) - k) 0 = s.byteAt s.pc :: rest := hcons
      simp only [hseen, List.drop_one, List.tail_cons] at hlater
      obtain ⟨hknown, hunknown⟩ := hlater
      rw [hcons] at hlen ⊢
      have far : ∀ b, illegalAsFar p (s.byteAt s.pc :: rest) = b → Known p (s.byteAt s.pc) (rest.headD 0) →
          s0.fetch = if b then .illegal (s.byteAt s.pc :: rest) else .violation := fun b hb hkn => hb ▸ hknown hkn
      refine ⟨fun i r hd => ?_, fun hd => ⟨fun f o hq => ?_, fun x z hq => ?_, fun hq => ?_⟩⟩
      · have hkn : Known p (s.byteAt s.pc) (rest.headD 0) := .inl (decode_ok_iff.mp ⟨_, hd⟩).1
        refine ⟨fun hb => viol ?_, fun hb => ill _ hlen ?_⟩
        · refine far false ?_ hkn
          rw [illegalAsFar_instr hd, ← Bool.not_eq_true]
          exact fun h => hb (badForm_of_illegalForm h)
        · exact far true ((illegalAsFar_instr hd).trans (illegalForm_of_badForm hb)) hkn
      · have hkn : Known p (s.byteAt s.pc) (rest.headD 0) := .inr (decodeFsqr_isSome.mp (by rw [hq]; rfl)).1
        exact viol (far false (by rw [illegalAsFar_fsqr hd, hq]; rfl) hkn)
      · have hkn : Known p (s.byteAt s.pc) (rest.headD 0) := .inr (decodeFsqr_isSome.mp (by rw [hq]; rfl)).1
        have hfar : illegalAsFar p (s.byteAt s.pc :: rest) = (Fsqr.pair x z).badPair := by
          rw [illegalAsFar_fsqr hd, hq]
          rfl
        refine ⟨fun hb => viol (far false ?_ hkn), fun hb => ill _ hlen (far true ?_ hkn)⟩
        · rw [hfar, ← Bool.not_eq_true, fsqr_badPair_iff]
          rintro (h | h)
          · omega
          · exact hb.2 h
        · rw [hfar, fsqr_badPair_iff]
          exact hb
      · refine ill _ hlen (hunknown fun hkn => ?_)
        rcases decodes_of_known (p := p) (b0 := s.byteAt s.pc) hkn hl with ⟨r, hr⟩ | h
        · exact hd r hr
        · rw [hq] at h
          cases h

/-- Settles O20. -/
theorem illegalForms : Obligations.IllegalForms := fun i s h => by
  have hx : exec i s = raise i { code := .illegal } s := exec_of_illegalForm (illegalForm_of_badForm h)
  exact ⟨hx, fun he => hx.trans (raise_disabled he)⟩

end Sys2Proof.Machine

/-! SUPPORT. Data transfer, integer arithmetic, the logical and the integer relational instructions. -/

namespace Sys2Proof.Machine

open Sys2Proof Sys2Proof.Stmt

variable {s t : State} {i : Instr}

/-! ### The ends of an instruction, in the statements' words -/

theorem done_of_advance (h : exec i s = advance i t) (hpc : t.pc = s.pc) : Done i s t := by
  rw [Done, h, advance_eq, State.nextPc, State.nextPc, hpc]

theorem done_of_finishReg {r : Reg} {v : Word} (h : exec i s = finishReg i r v t) (hpc : t.pc = s.pc) :
    Done i s (t.setReg r v) := done_of_advance (h.trans rfl) hpc

/-- An exception raised over changes that leave its enable bit and the pc: recorded where its handler is disabled. -/
theorem done_of_raise {e : Exc} (h : exec i s = raise i e t) (hpc : t.pc = s.pc)
    (he : t.excEnabled e.code = false) : Done i s (t.setOccurred e.code) := by
  rw [Done, h, raise_disabled he, State.nextPc, State.nextPc, hpc]

theorem ExcCode.enableBit_lt (c : ExcCode) : c.enableBit < 64 := by cases c <;> decide

/-- An enable bit is none of the flags below bit 16. -/
theorem State.excEnabled_setPswBit {n : Nat} (b : Bool) (hn : n < 16) (c : ExcCode) :
    (s.setPswBit n b).excEnabled c = s.excEnabled c := by
  have : n ≠ c.enableBit := by unfold ExcCode.enableBit; omega
  rw [State.excEnabled, State.pswBit_setPswBit _ _ _ _ (by omega) c.enableBit_lt, if_neg (Ne.symm this)]
  rfl

/-! ### Loads and stores -/

theorem loads_exec : ∀ e ∈ loads, ∀ o s, exec (e.1 o) s = loadOp (e.1 o) e.2.1 e.2.2 o s := by
  simp only [loads, List.forall_mem_cons, List.not_mem_nil, false_imp_iff, implies_true, and_true]
  and_intros <;> exact fun _ _ => rfl

theorem stores_exec : ∀ e ∈ stores, ∀ o s, exec (e.1 o) s = storeOp (e.1 o) e.2 o s := by
  simp only [stores, List.forall_mem_cons, List.not_mem_nil, false_imp_iff, implies_true, and_true]
  and_intros <;> exact fun _ _ => rfl

theorem checkedStores_exec : ∀ e ∈ checkedStores, 0 < e.2 ∧ e.2 ≤ 8 ∧
    ∀ o s, exec (e.1 o) s = storeChecked (e.1 o) e.2 o s := by
  unfold checkedStores
  simp only [List.forall_mem_cons, List.not_mem_nil, false_imp_iff, implies_true]
  exact ⟨⟨by decide, by decide, fun _ _ => rfl⟩, ⟨by decide, by decide, fun _ _ => rfl⟩,
    ⟨by decide, by decide, fun _ _ => rfl⟩, trivial⟩

/-- The one's complement of a zero-extended nibble is -1 less the nibble (R209). -/
theorem not_eq_neg_one_sub (w : Word) : ~~~w = -1 - w := by
  rw [BitVec.not_eq_neg_add, BitVec.sub_eq_add_neg, BitVec.sub_eq_add_neg, BitVec.add_comm]
  rfl

theorem immStores_exec : ∀ e ∈ immStores, ∀ o s, exec (e.1 o) s = storeLast (e.1 o) e.2.1 o (e.2.2 o.x) s := by
  have hnot : ∀ {i : Instr} {n : Nat} {o : GOp} {s : State},
      storeImmNot i n o s = storeLast i n o (-1 - o.x.setWidth 64) s := by
    intro i n o s
    rw [← not_eq_neg_one_sub]
    rfl
  simp only [immStores, List.forall_mem_cons, List.not_mem_nil, false_imp_iff, implies_true, and_true]
  exact ⟨fun _ _ => rfl, fun _ _ => rfl, fun _ _ => rfl, fun _ _ => rfl, fun _ _ => hnot, fun _ _ => hnot,
    fun _ _ => hnot, fun _ _ => hnot⟩

/-- The bytes of a memory destination, where they may be written. -/
theorem withStore_lowBytes {a : Addr} {n : Nat} {v : Word} {k : State → Res} (h : s.allowedRange .write a n = true) :
    withStore i a (lowBytes n v) s k = k (s.poke a (lowBytes n v)) :=
  withStore_allowed (by rwa [lowBytes_length])

/-- Settles O22. -/
theorem loadsAndStoresComplete : Obligations.LoadsAndStoresComplete := by
  refine ⟨fun e he o s v hv => ?_, fun e he o s ha => ?_, fun e he o s => ⟨fun r hr => ?_, fun hm ha => ?_⟩⟩
  · exact done_of_finishReg ((loads_exec e he o s).trans (withLast_some hv)) rfl
  · exact done_of_advance ((stores_exec e he o s).trans (withStore_lowBytes ha)) rfl
  · refine done_of_finishReg ((immStores_exec e he o s).trans ?_) rfl
    unfold storeLast
    rw [hr]
  · refine done_of_advance ((immStores_exec e he o s).trans ?_) rfl
    unfold storeLast
    rw [hm]
    exact withStore_lowBytes ha

/-- A register is the sign extension of its low-order bytes exactly if its value fits them (R207). -/
theorem fitsSigned_iff {n : Nat} (h0 : 0 < n) (hn : n ≤ 8) (v : Word) :
    fitsSigned n v = true ↔ -(2 ^ (8 * n - 1) : Int) ≤ v.toInt ∧ v.toInt < 2 ^ (8 * n - 1) := by
  have hpow : (2 ^ (8 * n) : Int) = 2 * 2 ^ (8 * n - 1) := by
    rw [← pow_succ']
    congr 1
    omega
  have hdvd : (2 ^ (8 * n) : Nat) ∣ 2 ^ 64 := pow_dvd_pow 2 (by omega)
  have hcast : (((2 ^ (8 * n) : Nat)) : Int) = 2 * 2 ^ (8 * n - 1) := by push_cast; exact hpow
  have hbmod : (v.toNat : Int).bmod (2 ^ (8 * n)) = v.toInt.bmod (2 ^ (8 * n)) := by
    rw [BitVec.toInt_eq_toNat_bmod, Int.bmod_bmod_of_dvd hdvd]
  rw [fitsSigned, decide_eq_true_eq, ← BitVec.toInt_inj, BitVec.toInt_signExtend_of_le (by omega), BitVec.toInt_setWidth,
    hbmod]
  generalize v.toInt = m
  have hp : (0 : Int) < 2 ^ (8 * n - 1) := by positivity
  generalize (2 : Int) ^ (8 * n - 1) = k at hcast hp
  constructor
  · intro h
    have h1 := Int.le_bmod (x := m) (m := 2 ^ (8 * n)) (by positivity)
    have h2 := Int.bmod_lt (x := m) (m := 2 ^ (8 * n)) (by positivity)
    rw [hcast] at h1 h2
    omega
  · rintro ⟨h1, h2⟩
    refine (Int.bmod_eq_of_le ?_ ?_).symm <;> rw [hcast] <;> omega

/-- Settles O23. -/
theorem checkedStoresComplete : Obligations.CheckedStoresComplete := by
  intro e he o s ha
  obtain ⟨h0, hn, hx⟩ := checkedStores_exec e he
  have hfit := fitsSigned_iff h0 hn (s.reg o.x)
  replace hx := (hx o s).trans (withStore_lowBytes ha)
  simp only at hx ⊢
  have hnot : (s.reg o.x).toInt < -(2 ^ (8 * e.2 - 1) : Int) ∨ 2 ^ (8 * e.2 - 1) ≤ (s.reg o.x).toInt →
      exec (e.1 o) s = raise (e.1 o) { code := .intOverflow } (s.poke (s.ea o) (lowBytes e.2 (s.reg o.x))) := fun h => by
    rw [hx, if_neg]
    rwa [hfit, not_and_or, not_le, not_lt]
  refine ⟨fun h => ?_, fun h hd => ?_, fun h _ => hnot h⟩
  · rw [if_pos (hfit.mpr h)] at hx
    exact done_of_advance hx rfl
  · exact done_of_raise (e := { code := .intOverflow }) (hnot h) rfl hd

/-! ### Bit fields -/

/-- A field, zero-extended: its bits as a number (R211). -/
theorem fieldZero_eq (w : Word) {st c : Nat} (hc : c ≤ 64) (h : st + (64 - c) ≤ 64) :
    fieldZero w st c = BitVec.ofNat 64 (w.toNat / 2 ^ (64 - st - (64 - c)) % 2 ^ (64 - c)) := by
  apply BitVec.eq_of_toNat_eq
  have hlt : w.toNat / 2 ^ (64 - st - (64 - c)) % 2 ^ (64 - c) < 2 ^ 64 :=
    lt_of_lt_of_le (Nat.mod_lt _ (by positivity)) (Nat.pow_le_pow_right (by decide) (by omega))
  rw [fieldZero, BitVec.toNat_ushiftRight, BitVec.toNat_shiftLeft, BitVec.toNat_ofNat, Nat.mod_eq_of_lt hlt,
    Nat.shiftLeft_eq, Nat.shiftRight_eq_div_pow, show 64 - st - (64 - c) = c - st by omega]
  apply Nat.eq_of_testBit_eq
  intro j
  simp only [Nat.testBit_div_two_pow, Nat.testBit_mod_two_pow, Nat.testBit_mul_two_pow]
  by_cases hj : j < 64 - c
  · have h1 : j + c < 64 := by omega
    have h2 : st ≤ j + c := by omega
    simp [hj, h1, h2, show j + c - st = j + (c - st) by omega]
  · have h1 : ¬ j + c < 64 := by omega
    simp [hj, h1]

/-- The signed number of the high bits of a word is their number, taken as signed. -/
theorem toInt_div_two_pow (w : Word) {c : Nat} (hc : c < 64) :
    w.toInt / 2 ^ c = (((w.toNat / 2 ^ c : Nat)) : Int).bmod (2 ^ (64 - c)) := by
  have hn : (2 : Nat) ^ (64 - c) = 2 * 2 ^ (63 - c) := by rw [← pow_succ']; congr 1; omega
  have hw : (2 : Nat) ^ 64 = 2 * 2 ^ (63 - c) * 2 ^ c := by rw [← hn, ← pow_add]; congr 1; omega
  have hpos : 0 < 2 ^ c := Nat.two_pow_pos c
  have hq : w.toNat / 2 ^ c < 2 * 2 ^ (63 - c) := (Nat.div_lt_iff_lt_mul hpos).mpr (hw ▸ w.isLt)
  have hhalf : w.toNat / 2 ^ c < 2 ^ (63 - c) ↔ w.toNat < 2 ^ (63 - c) * 2 ^ c := Nat.div_lt_iff_lt_mul hpos
  have hc2 : (2 : Int) ^ c = ((2 ^ c : Nat) : Int) := by push_cast; rfl
  rw [BitVec.toInt_eq_toNat_cond, hn, hw, hc2]
  generalize 2 ^ (63 - c) = k at hq hhalf ⊢
  generalize hC : 2 ^ c = C at hpos hq hhalf ⊢
  generalize w.toNat = a at hq hhalf ⊢
  have hassoc : 2 * k * C = 2 * (k * C) := Nat.mul_assoc _ _ _
  have hif : (if 2 * a < 2 * k * C then (a : Int) else a - ((2 * k * C : Nat) : Int)) / (C : Int) =
      if a / C < k then ((a / C : Nat) : Int) else ((a / C : Nat) : Int) - ((2 * k : Nat) : Int) := by
    by_cases h : a / C < k
    · rw [if_pos h, if_pos (by have := hhalf.mp h; omega), Int.natCast_ediv]
    · rw [if_neg h, if_neg fun h' => h (hhalf.mpr (by omega)), Nat.cast_mul, Int.sub_mul_ediv_right _ _ (by omega),
        Int.natCast_ediv]
  rw [hif]
  generalize a / C = q at hq
  split
  · rw [Int.bmod_eq_of_le] <;> omega
  · have hb : (q : Int).bmod (2 * k) = ((q : Int) - ((2 * k : Nat) : Int)).bmod (2 * k) := by
      rw [Int.sub_bmod_right]
    rw [hb, Int.bmod_eq_of_le] <;> omega

/-- A field, sign-extended (R210). -/
theorem fieldSigned_eq (w : Word) {st c : Nat} (hc : c < 64) (h : st + (64 - c) ≤ 64) :
    fieldSigned w st c = BitVec.ofInt 64
      ((((w.toNat / 2 ^ (64 - st - (64 - c)) % 2 ^ (64 - c) : Nat)) : Int).bmod (2 ^ (64 - c))) := by
  have hz := congrArg BitVec.toNat (fieldZero_eq w hc.le h)
  have hlt : w.toNat / 2 ^ (64 - st - (64 - c)) % 2 ^ (64 - c) < 2 ^ 64 :=
    lt_of_lt_of_le (Nat.mod_lt _ (by positivity)) (Nat.pow_le_pow_right (by decide) (by omega))
  rw [fieldZero, BitVec.toNat_ushiftRight, BitVec.toNat_ofNat, Nat.mod_eq_of_lt hlt, Nat.shiftRight_eq_div_pow] at hz
  rw [← hz, ← toInt_div_two_pow _ hc, fieldSigned]
  refine congrArg (BitVec.ofInt 64) ((Int.shiftRight_eq_div_pow _ _).trans ?_)
  push_cast
  rfl

/-- The bits of an inserted field (R212). -/
theorem insertField_getMsbD (image v : Word) {st len j : Nat} (h : st + len ≤ 64) (hv : v.toNat < 2 ^ len) (hj : j < 64) :
    (insertField image v st len).getMsbD j =
      if st ≤ j ∧ j < st + len then v.getMsbD (64 - len + (j - st)) else image.getMsbD j := by
  have hmask : ∀ n, n < 64 → (BitVec.ofNat 64 (2 ^ len - 1)).getLsbD n = decide (n < len) := fun n hn => by
    rw [BitVec.getLsbD_ofNat, Nat.testBit_two_pow_sub_one]
    simp [hn]
  have hhigh : ∀ n, len ≤ n → v.getLsbD n = false := fun n hn =>
    Nat.testBit_lt_two_pow (lt_of_lt_of_le hv (Nat.pow_le_pow_right (by decide) hn))
  unfold insertField
  simp only [BitVec.getMsbD_eq_getLsbD, hj, decide_true, Bool.true_and, BitVec.getLsbD_or, BitVec.getLsbD_and,
    BitVec.getLsbD_not, BitVec.getLsbD_shiftLeft]
  by_cases hin : st ≤ j ∧ j < st + len
  · have h1 : ¬ 64 - 1 - j < 64 - st - len := by omega
    have h2 : 64 - 1 - j - (64 - st - len) < len := by omega
    have h3 : 64 - 1 - (64 - len + (j - st)) = 64 - 1 - j - (64 - st - len) := by omega
    have h4 : 64 - len + (j - st) < 64 := by omega
    have h5 : 64 - 1 - j < 64 := by omega
    rw [if_pos hin, hmask _ (by omega), h3]
    simp only [h1, h2, h4, h5, decide_true, decide_false, Bool.not_false, Bool.not_true, Bool.and_true, Bool.true_and,
      Bool.and_false, Bool.false_or]
  · rw [if_neg hin]
    by_cases hlow : 64 - 1 - j < 64 - st - len
    · simp [hlow]
      omega
    · rw [hmask _ (by omega), hhigh _ (by omega), decide_eq_false (by omega : ¬ 64 - 1 - j - (64 - st - len) < len)]
      simp
      omega

/-- Settles O24. -/
theorem bitFieldsComplete : Obligations.BitFieldsComplete := by
  intro x y z f s
  have hlen := f.len.isLt
  refine ⟨fun h => ⟨?_, ?_⟩, fun h hv => ?_⟩
  · rw [← fieldSigned_eq _ hlen h]
    exact done_of_finishReg (if_pos h) rfl
  · rw [← fieldZero_eq _ hlen.le h]
    exact done_of_finishReg (if_pos h) rfl
  · exact ⟨_, done_of_finishReg (if_pos ⟨h, hv⟩) rfl, fun j hj => insertField_getMsbD _ _ h hv hj⟩

/-! ### Exchanges -/

theorem exchanges_exec : ∀ e ∈ exchanges, ∀ x y z s, exec (e.1 x y z) s = exchangeOp (e.1 x y z) e.2 x z s := by
  unfold exchanges
  simp only [List.forall_mem_cons, List.not_mem_nil, false_imp_iff, implies_true, and_true]
  exact ⟨fun _ _ _ _ => rfl, fun _ _ _ _ => rfl, fun _ _ _ _ => rfl⟩

/-- Settles O25. -/
theorem exchangesComplete : Obligations.ExchangesComplete := by
  intro e he x y z s ha hr hw
  refine done_of_finishReg ((exchanges_exec e he x y z s).trans ?_) rfl
  unfold exchangeOp
  simp only [if_pos ha, State.load_of_allowed hr]
  rw [withStore_allowed (by rwa [wordBytes_length])]
  rfl

/-! ### String copies -/

/-- Byte `k` of a word's bytes, byte 0 the most significant (R121). -/
theorem wordBytes_getD (w : Word) {k : Nat} (hk : k < 8) : (wordBytes w).getD k 0 = w.extractLsb' (8 * (7 - k)) 8 := by
  rw [wordBytes_eq, List.getD_eq_getElem?_getD, List.getElem?_map, List.getElem?_range hk]
  show w.extractLsb' (56 - 8 * k) 8 = _
  congr 1
  omega

theorem constString_getElem (w : Word) {n k : Nat} (hk : k < n) :
    (constString w n)[k]? = some (w.extractLsb' (8 * (7 - k % 8)) 8) := by
  rw [constString, List.getElem?_map, List.getElem?_range hk]
  exact congrArg some (wordBytes_getD w (Nat.mod_lt k (by decide)))

/-- Registers written one after the other change no other register. -/
theorem regsBut_setReg (r : Reg) (v : Word) : RegsBut [r] s (s.setReg r v) := fun q hq =>
  s.reg_setReg_ne v (by simpa using hq)

theorem RegsBut.trans {l l' : List Reg} {u : State} (h : RegsBut l s t) (h' : RegsBut l' t u) : RegsBut (l ++ l') s u :=
  fun r hr => by
    rw [List.mem_append, not_or] at hr
    rw [h' r hr.2, h r hr.1]

/-- Settles O26. -/
theorem stringCopiesComplete : Obligations.StringCopiesComplete := by
  intro x y z s n d hw
  refine ⟨fun hn hr => ?_, _, constString (s.reg y) n, if_pos hw, by simp [constString], fun k hk =>
    constString_getElem _ hk, rfl, RegsBut.trans (regsBut_setReg (s := s.poke d _) x _) (regsBut_setReg z _)⟩
  have hx : exec (.copyb x y z) s = advance (.copyb x y z)
      ((((s.poke d (readBytes s.mem (lo32 (s.reg y)) n)).setReg x (s.anyWord .regX)).setReg y (s.anyWord .regY)).setReg z
        (s.anyWord .regZ)) := by
    show execCopyb x y z s = _
    unfold execCopyb
    have hload : s.load (lo32 (s.reg y)) (s.reg z).toInt.toNat = some (readBytes s.mem (lo32 (s.reg y)) n) :=
      State.load_of_allowed hr
    simp only [if_pos hn, hload]
    exact if_pos hw
  exact ⟨_, hx, rfl, RegsBut.trans (RegsBut.trans (regsBut_setReg (s := s.poke d _) x _) (regsBut_setReg y _))
    (regsBut_setReg z _)⟩

/-! ### Where no effect is given -/

/-- Settles O21. -/
theorem undefinedStops : Obligations.UndefinedStops := by
  refine ⟨fun x y z f s h => ⟨if_neg (by omega), if_neg (by omega)⟩, fun x y z f s h => if_neg ?_,
    fun e he x y z s h => (exchanges_exec e he x y z s).trans (if_neg h), fun x y z s h => if_neg (by omega),
    fun u b s h0 h1 => if_neg (not_or.mpr ⟨h0, h1⟩)⟩
  omega

/-! ### Calls, returns, EXCEPTION -/

/-- Settles O44. -/
theorem callsReturnsAndException : Obligations.CallsReturnsAndException := by
  refine ⟨fun s => ⟨fun u d h => ?_, fun x u d => rfl, fun x => rfl, fun u b h => ?_⟩, fun x y z s => ⟨rfl, fun h => ?_⟩⟩
  · exact (withStore_allowed (by rwa [beBytes_length])).trans rfl
  · show execExit u b s = _
    unfold execExit
    simp only [State.loadNat_of_allowed h, sp]
    rfl
  · exact done_of_raise (e := { code := .software, src1 := s.reg x, high := s.reg z }) rfl rfl h

end Sys2Proof.Machine

/-! SUPPORT. Integer arithmetic and the logical instructions. -/

namespace Sys2Proof.Machine

open Sys2Proof Sys2Proof.Stmt

variable {s t : State} {i : Instr}

/-! ### The end of an integer operation -/

theorem fitsSigned64_iff {n : Int} : fitsSigned64 n = true ↔ InRange n := by
  unfold fitsSigned64 InRange
  rw [Bool.and_eq_true, decide_eq_true_eq, decide_eq_true_eq]
  omega

/-- The carry written keeps the pc and the enable bits. -/
theorem State.excEnabled_putCarry (c : Option Bool) (code : ExcCode) :
    (s.putCarry c).excEnabled code = s.excEnabled code := by
  cases c with
  | none => rfl
  | some b => exact State.excEnabled_setPswBit b (by decide) code

@[simp] theorem State.putCarry_pc (c : Option Bool) : (s.putCarry c).pc = s.pc := by
  cases c <;> rfl

/-- An integer result, placed with its carry; an overflow is recorded, or taken with the two result words. -/
theorem finishInt_ends {r : Reg} {out : IntOut} (h : exec i s = finishInt i r out s) :
    let t := (s.setReg r out.value).putCarry out.carry
    let e : Exc := { code := .intOverflow, high := (out.words s.params).1, low := (out.words s.params).2 }
    (out.overflow = false → Done i s t) ∧
    (out.overflow = true → s.excEnabled .intOverflow = false → Done i s (t.setOccurred .intOverflow)) ∧
    (out.overflow = true → s.excEnabled .intOverflow = true → exec i s = raise i e t) := by
  intro t e
  have hpc : t.pc = s.pc := State.putCarry_pc _
  have hx : exec i s = if out.overflow then raise i e t else advance i t := h
  refine ⟨fun ho => done_of_advance (hx.trans (by rw [ho]; rfl)) hpc, fun ho he => ?_, fun ho _ => ?_⟩
  · refine done_of_raise (e := e) (hx.trans (by rw [ho]; rfl)) hpc ?_
    exact (State.excEnabled_putCarry (s := s.setReg r out.value) _ _).trans he
  · rw [hx, ho]
    rfl

/-! ### Signed operations -/

/-- What a signed operation gives, from its row: the low 64 bits of the exact result, the carry, the overflow. -/
def signedOpOut (e : SignedOp) (c : Bool) (a b : Word) : IntOut :=
  let r := e.exact a.toInt b.toInt (carryNat c)
  { value := lo64 r, carry := if e.clears then some false else none, overflow := !fitsSigned64 r,
    info := if e.product then some (lo64 (r / 2 ^ 64)) else none }

theorem shiftDistance_eq (b : Word) : shiftDistance b = (b.toInt % 64).toNat := by
  unfold shiftDistance
  rw [BitVec.toInt_eq_toNat_cond]
  split <;> omega

theorem intSra_eq (a b : Word) : intSra a b = signedOut none (a.toInt / 2 ^ shiftDistance b) := by
  have hfit : fitsSigned64 (a.toInt / 2 ^ shiftDistance b) = true := by
    have h1 : a.toInt < 2 ^ 63 := BitVec.toInt_lt
    have h2 : -(2 ^ 63 : Int) ≤ a.toInt := BitVec.le_toInt a
    have hp : (0 : Int) < 2 ^ shiftDistance b := by positivity
    have hp1 : (1 : Int) ≤ 2 ^ shiftDistance b := hp
    rw [fitsSigned64_iff]
    constructor
    · rw [Int.le_ediv_iff_mul_le hp]
      nlinarith
    · rw [Int.ediv_lt_iff_lt_mul hp]
      nlinarith
  unfold intSra signedOut
  rw [hfit]
  rfl

theorem signedOps_exec : ∀ e ∈ signedOps, ∀ o s, exec (e.ctor o) s = intOp (e.ctor o) e.width (signedOpOut e) o s := by
  have sla : ∀ (b : Bool) (v w : Word), intSla v w = signedOpOut ⟨Instr.sla, 8, fun a b _ => a * 2 ^ (b % 64).toNat, false, false⟩ b v w :=
    fun b v w => by
      unfold intSla
      rw [shiftDistance_eq]
      rfl
  have sra : ∀ (b : Bool) (v w : Word), intSra v w = signedOpOut ⟨Instr.sra, 8, fun a b _ => a / 2 ^ (b % 64).toNat, false, false⟩ b v w :=
    fun b v w => by
      rw [intSra_eq, shiftDistance_eq]
      rfl
  unfold signedOps
  simp only [List.forall_mem_cons, List.not_mem_nil, false_imp_iff, implies_true, and_true]
  and_intros
  iterate 15 exact fun _ _ => rfl
  · intro o s
    show intOp (.sla o) 8 (fun _ a b => intSla a b) o s = _
    congr 1
    funext b v w
    exact sla b v w
  · intro o s
    show intOp (.sra o) 8 (fun _ a b => intSra a b) o s = _
    congr 1
    funext b v w
    exact sra b v w

/-- Settles O27. -/
theorem signedArithmetic : Obligations.SignedArithmetic := by
  intro e he o s b hb
  have hx : exec (e.ctor o) s = finishInt (e.ctor o) o.x (signedOpOut e s.ci (s.reg o.a) b) s :=
    (signedOps_exec e he o s).trans (withLast_some hb)
  obtain ⟨h1, h2, h3⟩ := finishInt_ends hx
  have hcarry : ((carryNat s.ci : Nat) : Int) = (carry s : Nat) := rfl
  have hover : ∀ v, (signedOpOut e s.ci (s.reg o.a) b).overflow = v ↔
      fitsSigned64 (e.exact (s.reg o.a).toInt b.toInt (carry s)) = !v := fun v => by
    cases v <;> simp [signedOpOut, hcarry]
  have hput : (s.setReg o.x (signedOpOut e s.ci (s.reg o.a) b).value).putCarry (signedOpOut e s.ci (s.reg o.a) b).carry =
      if e.clears then (s.setReg o.x (BitVec.ofInt 64 (e.exact (s.reg o.a).toInt b.toInt (carry s)))).setCi false
      else s.setReg o.x (BitVec.ofInt 64 (e.exact (s.reg o.a).toInt b.toInt (carry s))) := by
    unfold signedOpOut
    cases e.clears <;> rfl
  have hwords : (signedOpOut e s.ci (s.reg o.a) b).words s.params =
      if e.product = false then (0, 0) else
        if s.params.mulHighInLow then
          (0, BitVec.ofInt 64 (e.exact (s.reg o.a).toInt b.toInt (carry s) / 2 ^ 64))
        else (BitVec.ofInt 64 (e.exact (s.reg o.a).toInt b.toInt (carry s) / 2 ^ 64),
          BitVec.ofInt 64 (e.exact (s.reg o.a).toInt b.toInt (carry s))) := by
    unfold signedOpOut IntOut.words
    cases e.product <;> rfl
  rw [hput] at h1 h2 h3
  rw [hwords] at h3
  have hn : ∀ {n : Int}, ¬ InRange n → fitsSigned64 n = !true := fun h => by
    rwa [← fitsSigned64_iff, Bool.not_eq_true] at h
  exact ⟨fun h => h1 ((hover false).mpr (fitsSigned64_iff.mpr h)), fun h => h2 ((hover true).mpr (hn h)),
    fun h => h3 ((hover true).mpr (hn h))⟩

/-! ### Unsigned operations and short immediates -/

/-- A difference modulo 2^64, from the sum with the one's complement (R292). -/
theorem ofInt_sub_eq {a b : Word} (c : Bool) :
    BitVec.ofNat 64 (a.toNat + (2 ^ 64 - 1 - b.toNat) + (1 - carryNat c)) =
      BitVec.ofInt 64 ((a.toNat : Int) - b.toNat - carryNat c) ∧
    (a.toNat + (2 ^ 64 - 1 - b.toNat) + (1 - carryNat c) < 2 ^ 64 ↔ (a.toNat : Int) - b.toNat - carryNat c < 0) := by
  have hb := b.isLt
  have hc : carryNat c ≤ 1 := by cases c <;> decide
  generalize carryNat c = k at hc ⊢
  have hsum : ((a.toNat + (2 ^ 64 - 1 - b.toNat) + (1 - k) : Nat) : Int) = (a.toNat : Int) - b.toNat - k + 2 ^ 64 := by
    omega
  refine ⟨BitVec.eq_of_toInt_eq ?_, by omega⟩
  rw [BitVec.toInt_ofNat', BitVec.toInt_ofInt, hsum]
  exact Int.add_bmod_right _ (2 ^ 64)

theorem subuc_done {o : GOp} {a b : Word} (h : exec i s = finishInt i o.x (intSubuc s.ci a b) s) :
    Done i s ((s.setReg o.x (BitVec.ofInt 64 ((a.toNat : Int) - b.toNat - carry s))).setCi
      (decide ((a.toNat : Int) - b.toNat - carry s < 0))) := by
  obtain ⟨hv, hlt⟩ := ofInt_sub_eq (a := a) (b := b) s.ci
  have hd := (finishInt_ends h).1 rfl
  have hc : decide (a.toNat + (2 ^ 64 - 1 - b.toNat) + (1 - carryNat s.ci) < 2 ^ 64) =
      decide ((a.toNat : Int) - b.toNat - carry s < 0) := decide_eq_decide.mpr hlt
  simp only [intSubuc, hv, hc] at hd
  exact hd

/-- An immediate operation: the signed result with the carry cleared. -/
theorem immediate_ends {w : Reg} {r : Int} (h : exec i s = finishInt i w (signedOut (some false) r) s) :
    let t := (s.setReg w (BitVec.ofInt 64 r)).setCi false
    (InRange r → Done i s t) ∧
    (¬ InRange r → s.excEnabled .intOverflow = false → Done i s (t.setOccurred .intOverflow)) ∧
    (¬ InRange r → s.excEnabled .intOverflow = true → exec i s = raise i { code := .intOverflow } t) := by
  obtain ⟨h1, h2, h3⟩ := finishInt_ends h
  have hover : ∀ v, (signedOut (some false) r).overflow = !v ↔ fitsSigned64 r = v := fun v => by
    cases v <;> simp [signedOut]
  have hn : ¬ InRange r → (signedOut (some false) r).overflow = true := fun h => by
    rw [← fitsSigned64_iff, Bool.not_eq_true] at h
    exact (hover false).mpr h
  exact ⟨fun h => h1 ((hover true).mpr (fitsSigned64_iff.mpr h)), fun h => h2 (hn h), fun h => h3 (hn h)⟩

/-- Settles O28. -/
theorem unsignedAndImmediateArithmetic : Obligations.UnsignedAndImmediateArithmetic := by
  refine ⟨fun o s b hb => ⟨?_, ?_, ?_⟩, fun w k s => ⟨?_, ?_⟩⟩
  · have hx : exec (.adduc64 o) s = finishInt (.adduc64 o) o.x (intAdduc s.ci (s.reg o.a) b) s := withLast_some hb
    exact (finishInt_ends hx).1 rfl
  · exact subuc_done (o := o) (withLast_some hb)
  · exact subuc_done (o := o) (withLast_some hb)
  · exact immediate_ends rfl
  · have h : (s.reg w).toInt - k.toNat - 1 = (s.reg w).toInt - (k.toNat + 1) := by omega
    rw [h]
    exact immediate_ends rfl

/-! ### Quotients and wide products -/

theorem divisions_exec : ∀ e ∈ divisions, ∀ o s, exec (e.1 o) s =
    withLast (e.1 o) .sign e.2.1 o s fun b => divide (e.1 o) o.x (if e.2.2.2 then intRem else intDiv)
      (if e.2.2.1 then b else s.reg o.a) (if e.2.2.1 then s.reg o.a else b) s := by
  unfold divisions
  simp only [List.forall_mem_cons, List.not_mem_nil, false_imp_iff, implies_true, and_true]
  and_intros <;> exact fun _ _ => rfl

theorem intRem_eq (a b : Word) : intRem a b = ⟨BitVec.ofInt 64 (a.toInt.tmod b.toInt), none, false, none⟩ := by
  unfold intRem
  rw [Int.tmod_def, Int.mul_comm]
  rfl

theorem wideProducts_exec : ∀ e ∈ wideProducts, ∀ x y z s,
    exec (e.1 x y z) s = wideMul (e.1 x y z) (e.2 (s.reg y) (s.reg z)) x s := by
  unfold wideProducts
  simp only [List.forall_mem_cons, List.not_mem_nil, false_imp_iff, implies_true, and_true]
  refine ⟨fun _ _ _ _ => rfl, fun x y z s => ?_⟩
  rw [Nat.cast_mul]
  rfl

/-- Settles O29. -/
theorem productsAndQuotients : Obligations.ProductsAndQuotients := by
  refine ⟨fun e he o s b hb => ?_, fun e he x y z s hx => ?_⟩
  · have hx := (divisions_exec e he o s).trans (withLast_some hb)
    simp only at hx ⊢
    generalize (if e.2.2.1 = true then b else s.reg o.a) = p at hx ⊢
    generalize (if e.2.2.1 = true then s.reg o.a else b) = q at hx ⊢
    have hzero : q = 0 → exec (e.1 o) s = raise (e.1 o) { code := .intDivZero } s := fun h => hx.trans (if_pos h)
    have hrem : q ≠ 0 → e.2.2.2 = true → exec (e.1 o) s = finishInt (e.1 o) o.x (intRem p q) s := fun h hr => by
      rw [hx, divide, if_neg h, hr]
      rfl
    have hdiv : q ≠ 0 → e.2.2.2 = false → exec (e.1 o) s = finishInt (e.1 o) o.x (intDiv p q) s := fun h hr => by
      rw [hx, divide, if_neg h, hr]
      rfl
    have hover : ∀ v, (intDiv p q).overflow = !v ↔ fitsSigned64 (p.toInt.tdiv q.toInt) = v := fun v => by
      cases v <;> simp [intDiv, signedOut]
    have hn : ¬ InRange (p.toInt.tdiv q.toInt) → (intDiv p q).overflow = true := fun h => by
      rw [← fitsSigned64_iff, Bool.not_eq_true] at h
      exact (hover false).mpr h
    refine ⟨fun h hr => ?_, fun h hr hin => ?_, fun h hr hin => ?_, fun h hr hin => ?_, fun h he => ?_, fun h _ => hzero h⟩
    · have hd := (finishInt_ends (hrem h hr)).1 rfl
      rwa [intRem_eq] at hd
    · exact (finishInt_ends (hdiv h hr)).1 ((hover true).mpr (fitsSigned64_iff.mpr hin))
    · exact (finishInt_ends (hdiv h hr)).2.1 (hn hin)
    · exact (finishInt_ends (hdiv h hr)).2.2 (hn hin)
    · exact done_of_raise (e := { code := .intDivZero }) (hzero h) rfl he
  · refine done_of_advance ((wideProducts_exec e he x y z s).trans (if_pos ?_)) rfl
    exact decide_eq_true hx

/-! ### Logical instructions -/

theorem rotateLeft_eq (a b : Word) : a.rotateLeft (shiftDistance b) =
    BitVec.ofNat 64 (a.toNat * 2 ^ (b.toNat % 64) + a.toNat / 2 ^ (64 - b.toNat % 64)) := by
  have hk : b.toNat % 64 < 64 := Nat.mod_lt _ (by decide)
  unfold shiftDistance
  generalize b.toNat % 64 = k at hk ⊢
  have hlow : a.toNat / 2 ^ (64 - k) < 2 ^ k := by
    rw [Nat.div_lt_iff_lt_mul (by positivity), ← pow_add, show k + (64 - k) = 64 by omega]
    exact a.isLt
  have hdiv : a.toNat / 2 ^ (64 - k) < 2 ^ 64 := lt_of_le_of_lt (Nat.div_le_self _ _) a.isLt
  apply BitVec.eq_of_toNat_eq
  rw [Nat.mul_comm, Nat.two_pow_add_eq_or_of_lt hlow, BitVec.toNat_rotateLeft, BitVec.toNat_ofNat, Nat.or_mod_two_pow,
    Nat.mod_eq_of_lt hk, Nat.shiftLeft_eq, Nat.shiftRight_eq_div_pow, Nat.mod_eq_of_lt hdiv, Nat.mul_comm]

theorem rotateRight_eq (a b : Word) : a.rotateRight (shiftDistance b) =
    BitVec.ofNat 64 (a.toNat / 2 ^ (b.toNat % 64) + a.toNat * 2 ^ (64 - b.toNat % 64)) := by
  have hk : b.toNat % 64 < 64 := Nat.mod_lt _ (by decide)
  unfold shiftDistance
  generalize b.toNat % 64 = k at hk ⊢
  have hlow : a.toNat / 2 ^ k < 2 ^ (64 - k) := by
    rw [Nat.div_lt_iff_lt_mul (by positivity), ← pow_add, show 64 - k + k = 64 by omega]
    exact a.isLt
  have hdiv : a.toNat / 2 ^ k < 2 ^ 64 := lt_of_le_of_lt (Nat.div_le_self _ _) a.isLt
  apply BitVec.eq_of_toNat_eq
  rw [Nat.add_comm, Nat.mul_comm, Nat.two_pow_add_eq_or_of_lt hlow, BitVec.toNat_rotateRight, BitVec.toNat_ofNat,
    Nat.or_mod_two_pow, Nat.mod_eq_of_lt hk, Nat.shiftLeft_eq, Nat.shiftRight_eq_div_pow, Nat.mod_eq_of_lt hdiv,
    Nat.mul_comm, Nat.or_comm]

theorem shiftLeft_eq (a : Word) (k : Nat) : a <<< k = BitVec.ofNat 64 (a.toNat * 2 ^ k) := by
  apply BitVec.eq_of_toNat_eq
  rw [BitVec.toNat_shiftLeft, BitVec.toNat_ofNat, Nat.shiftLeft_eq]

theorem ushiftRight_eq (a : Word) (k : Nat) : a >>> k = BitVec.ofNat 64 (a.toNat / 2 ^ k) := by
  apply BitVec.eq_of_toNat_eq
  rw [BitVec.toNat_ushiftRight, BitVec.toNat_ofNat, Nat.shiftRight_eq_div_pow,
    Nat.mod_eq_of_lt (lt_of_le_of_lt (Nat.div_le_self _ _) a.isLt)]

theorem dyadics_exec : ∀ e ∈ dyadics, ∀ o s, exec (e.1 o) s = logicalOp (e.1 o) e.2 o s := by
  have same : ∀ {f g : Word → Word → Word} {i : Instr} {o : GOp} {s : State}, (∀ a b, f a b = g a b) →
      logicalOp i f o s = logicalOp i g o s := fun h => by rw [funext fun a => funext (h a)]
  unfold dyadics
  simp only [List.forall_mem_cons, List.not_mem_nil, false_imp_iff, implies_true, and_true]
  exact ⟨fun _ _ => rfl, fun _ _ => rfl, fun _ _ => rfl, fun _ _ => same rotateLeft_eq, fun _ _ => same rotateRight_eq,
    fun _ _ => same fun a b => shiftLeft_eq a (shiftDistance b), fun _ _ => same fun a b => ushiftRight_eq a (shiftDistance b)⟩

/-- The first set bit from the left is the highest power of two below the number (R398). -/
theorem findFirstBit_eq {b : Word} {k : Nat} (hk : k < 64) (h : b.getMsbD k = true)
    (hlow : ∀ j, j < k → b.getMsbD j = false) : findFirstBit b = BitVec.ofNat 64 k := by
  have hbit : b.toNat.testBit (63 - k) = true := by
    rw [BitVec.getMsbD_eq_getLsbD, Bool.and_eq_true] at h
    exact h.2
  have hlt : b.toNat < 2 ^ (64 - k) := by
    refine Nat.lt_pow_two_of_testBit _ fun j hj => ?_
    by_cases hj' : j < 64
    · have := hlow (63 - j) (by omega)
      rw [BitVec.getMsbD_eq_getLsbD, decide_eq_true (by omega), Bool.true_and, show 64 - 1 - (63 - j) = j by omega] at this
      exact this
    · exact Nat.testBit_lt_two_pow (lt_of_lt_of_le b.isLt (Nat.pow_le_pow_right (by decide) (by omega)))
  have hge := Nat.ge_two_pow_of_testBit hbit
  have h0 : b ≠ 0 := fun h0 => by simp [h0] at hbit
  have hlog : Nat.log2 b.toNat = 63 - k := by
    rw [Nat.log2_eq_iff (by have := Nat.two_pow_pos (63 - k); omega), show 63 - k + 1 = 64 - k by omega]
    exact ⟨hge, hlt⟩
  rw [findFirstBit, if_neg h0, hlog]
  congr 1
  omega

/-- A word with one bit changed. -/
theorem getMsbD_xor_bitMask (w : Word) {n j : Nat} (hn : n < 64) (hj : j < 64) :
    (w ^^^ bitMask n).getMsbD j = if j = n then !(w.getMsbD j) else w.getMsbD j := by
  have hmask : (bitMask n).getLsbD (63 - j) = decide (j = n) := by
    rw [bitMask, BitVec.getLsbD_twoPow]
    by_cases h : j = n
    · subst h; simp; omega
    · simp [h]; omega
  simp only [BitVec.getMsbD_eq_getLsbD, BitVec.getLsbD_xor, hmask, hj, decide_true, Bool.true_and]
  split <;> simp_all

theorem bitOps_exec : ∀ e ∈ bitOps, ∀ x b s, ∃ v : Word, exec (e.1 x b) s = finishReg (e.1 x b) x v s ∧
    ∀ j, j < 64 → v.getMsbD j = if j = b.toNat % 64 then e.2 ((s.reg x).getMsbD j) else (s.reg x).getMsbD j := by
  have hn : ∀ b : BitVec 8, b.toNat % 64 < 64 := fun b => Nat.mod_lt _ (by decide)
  unfold bitOps
  simp only [List.forall_mem_cons, List.not_mem_nil, false_imp_iff, implies_true, and_true]
  exact ⟨fun x b s => ⟨_, rfl, fun j hj => wordBit_setWordBit (s.reg x) _ j true (hn b) hj⟩,
    fun x b s => ⟨_, rfl, fun j hj => wordBit_setWordBit (s.reg x) _ j false (hn b) hj⟩,
    fun x b s => ⟨_, rfl, fun j hj => getMsbD_xor_bitMask (s.reg x) (hn b) hj⟩⟩

theorem shiftLoads_width : ∀ e ∈ shiftLoads, e.2.1 ≤ 8 := by decide

theorem shiftLoads_exec : ∀ e ∈ shiftLoads, ∀ o s, exec (e.1 o) s = shiftLoad (e.1 o) e.2.1 e.2.2 o s := by
  unfold shiftLoads
  simp only [List.forall_mem_cons, List.not_mem_nil, false_imp_iff, implies_true, and_true]
  and_intros <;> exact fun _ _ => rfl

theorem shifted_low_bytes {n : Nat} (hn : n ≤ 8) (b : Word) (k : Nat) :
    ((b.setWidth (8 * n)).setWidth 64 : Word) <<< k = BitVec.ofNat 64 (b.toNat % 2 ^ (8 * n) * 2 ^ k) := by
  have hlt : b.toNat % 2 ^ (8 * n) < 2 ^ 64 :=
    lt_of_lt_of_le (Nat.mod_lt _ (by positivity)) (Nat.pow_le_pow_right (by decide) (by omega))
  rw [shiftLeft_eq, BitVec.toNat_setWidth, BitVec.toNat_setWidth, Nat.mod_eq_of_lt hlt]

/-- Settles O37. -/
theorem logicalInstructions : Obligations.LogicalInstructions := by
  refine ⟨fun e he o s b hb => ?_, fun o s b hb => ⟨?_, fun h0 => ?_, fun k hk h hlow => ?_⟩, fun e he x b s => ?_,
    fun e he o s b hb => ?_⟩
  · exact done_of_finishReg ((dyadics_exec e he o s).trans (withLast_some hb)) rfl
  · rw [BitVec.allOnes_xor]
    exact done_of_finishReg (withLast_some hb) rfl
  · have hx : exec (.findFirst o) s = finishReg (.findFirst o) o.x (findFirstBit b) s := withLast_some hb
    rw [findFirstBit, if_pos h0] at hx
    exact done_of_finishReg hx rfl
  · have hx : exec (.findFirst o) s = finishReg (.findFirst o) o.x (findFirstBit b) s := withLast_some hb
    rw [findFirstBit_eq hk h hlow] at hx
    exact done_of_finishReg hx rfl
  · obtain ⟨v, hx, hv⟩ := bitOps_exec e he x b s
    exact ⟨v, done_of_finishReg hx rfl, hv⟩
  · rw [← shifted_low_bytes (shiftLoads_width e he)]
    exact done_of_finishReg ((shiftLoads_exec e he o s).trans (withLast_some hb)) rfl

end Sys2Proof.Machine

/-! SUPPORT. Compares and decimal arithmetic. -/

namespace Sys2Proof.Machine

open Sys2Proof Sys2Proof.Stmt

variable {s t : State} {i : Instr}


/-! ### The condition and the actions of a compare -/

theorem ccfSelects_eq (c : BitVec 4) (r : Rel) : ccfSelects c r = selects c r := by
  cases r <;> simp [ccfSelects, selects, BitVec.getMsbD_eq_getLsbD]

theorem generates_eq (a : App) : generates a = a.act.getLsbD 11 := by
  simp [generates, BitVec.getMsbD_eq_getLsbD]

/-- The sub-code: the low eight bits of the action field (R726). -/
theorem subCode_eq (v : BitVec 12) : ((v.setWidth 8).setWidth 64 : Word) = BitVec.ofNat 64 (v.toNat % 256) := by
  apply BitVec.eq_of_toNat_eq
  simp only [BitVec.toNat_setWidth, BitVec.toNat_ofNat]

theorem acts_of_branch {x : Reg} {a : App} {held : Bool} (h : exec i s = branchAction i a held t) (hpc : t.pc = s.pc) :
    Acts i x a true s t held := by
  rw [Acts, if_pos rfl]
  cases held with
  | false => exact done_of_advance h hpc
  | true => exact h.trans (by rw [← hpc]; rfl)

theorem acts_of_test {x : Reg} {a : App} {held : Bool} (h : exec i s = testAction i x a held t) (hpc : t.pc = s.pc)
    (he : t.excEnabled .software = s.excEnabled .software) : Acts i x a false s t held := by
  rw [Acts, if_neg Bool.false_ne_true]
  rw [testAction, generates_eq, subCode_eq] at h
  cases hg : a.act.getLsbD 11 with
  | false =>
    rw [hg] at h
    exact done_of_finishReg h hpc
  | true =>
    rw [hg, if_pos rfl] at h
    rw [if_neg (by decide)]
    cases held with
    | false => exact done_of_advance h hpc
    | true =>
      exact ⟨fun hd => done_of_raise (e := { code := .software, src2 := BitVec.ofNat 64 (a.act.toNat % 256) }) h hpc
        (he.trans hd), fun _ => h⟩

theorem intRel_eq (e : Ext) (p q : Word) : intRel e p q = wordRel e p q := by
  cases e with
  | sign => rfl
  | zero => simp only [intRel, wordRel, relInt, Nat.cast_lt, Nat.cast_inj]

/-! ### Integer compares -/

theorem compareBranches_exec : ∀ e ∈ compareBranches, ∀ o a s,
    exec (e.1 o a) s = compareBranch (e.1 o a) e.2.1 e.2.2 o a s := by
  unfold compareBranches
  simp only [List.forall_mem_cons, List.not_mem_nil, false_imp_iff, implies_true, and_true]
  and_intros <;> exact fun _ _ _ => rfl

theorem compareTests_exec : ∀ e ∈ compareTests, ∀ o a s,
    exec (e.1 o a) s = compareTest (e.1 o a) e.2.1 e.2.2 o a s := by
  unfold compareTests
  simp only [List.forall_mem_cons, List.not_mem_nil, false_imp_iff, implies_true, and_true]
  and_intros <;> exact fun _ _ _ => rfl

/-- Settles O38. -/
theorem integerCompares : Obligations.IntegerCompares := by
  refine ⟨fun e he o a s q hq => ?_, fun e he o a s q hq => ?_⟩ <;> rw [← intRel_eq, ← ccfSelects_eq]
  · exact acts_of_branch ((compareBranches_exec e he o a s).trans (withLast_some hq)) rfl
  · exact acts_of_test ((compareTests_exec e he o a s).trans (withLast_some hq)) rfl rfl

/-! ### String compares -/

theorem RegsBut.mono {l l' : List Reg} (h : RegsBut l s t) (hl : l ⊆ l') : RegsBut l' s t :=
  fun r hr => h r fun hm => hr (hl hm)

/-- The first difference of two strings decides, `q` being the second from the place of the first. -/
theorem stringRel_eq {other : Nat → Option Byte} {r : Rel} (n : Nat) : ∀ (k m : Nat) (a : Addr) (q : Nat → Byte),
    (k = n ∧ r = .equal ∨ k < n ∧ s.byteAt (a + BitVec.ofNat 32 k) ≠ q k ∧
      r = (if (s.byteAt (a + BitVec.ofNat 32 k)).toNat < (q k).toNat then Rel.less else .greater)) →
    (∀ j, j < k → s.byteAt (a + BitVec.ofNat 32 j) = q j) → s.allowedRange .read a (min (k + 1) n) = true →
    (∀ j, j < min (k + 1) n → other (m + j) = some (q j)) → stringRel s other a m n = some r := by
  induction n with
  | zero =>
    intro k m a q hr _ _ _
    obtain ⟨-, rfl⟩ | ⟨hk, -⟩ := hr
    · rfl
    · omega
  | succ n ih =>
    intro k m a q hr hsame hal hq
    have h0 : s.allowed .read a = true ∧ other m = some (q 0) := by
      refine ⟨?_, hq 0 (by omega)⟩
      have := (State.allowedRange_iff _ _ _).mp hal 0 (by omega)
      rwa [BitVec.add_zero] at this
    have hstep : ∀ j, a + 1 + BitVec.ofNat 32 j = a + BitVec.ofNat 32 (j + 1) := fun j => by
      rw [BitVec.add_assoc, BitVec.ofNat_add, BitVec.add_comm (1 : Addr)]
      rfl
    rw [stringRel, if_pos h0.1]
    simp only [h0.2]
    cases k with
    | zero =>
      obtain ⟨hk, -⟩ | ⟨-, hne, rfl⟩ := hr
      · omega
      · rw [BitVec.add_zero] at hne ⊢
        have : (s.byteAt a).toNat ≠ (q 0).toNat := fun h => hne (BitVec.eq_of_toNat_eq h)
        rw [if_neg hne, relInt]
        simp only [Nat.cast_lt, Nat.cast_inj, this, if_false]
    | succ k =>
      have h1 := hsame 0 (by omega)
      rw [BitVec.add_zero] at h1
      rw [if_pos h1]
      refine ih k (m + 1) (a + 1) (fun j => q (j + 1)) ?_ ?_ ?_ ?_
      · rw [hstep]
        simpa only [Nat.add_right_cancel_iff, Nat.add_lt_add_iff_right] using hr
      · exact fun j hj => by rw [hstep]; exact hsame (j + 1) (by omega)
      · refine State.allowedRange_sub hal (j := 1) rfl (by omega)
      · exact fun j hj => by rw [Nat.add_assoc, Nat.add_comm 1]; exact hq (j + 1) (by omega)

theorem branchAction_ends {a : App} {held : Bool} (h : exec i s = branchAction i a held t) (hpc : t.pc = s.pc) :
    exec i s = .next (t.setPc (if held then s.pc + a.act.signExtend 32 else s.nextPc i)) := by
  cases held with
  | false => exact done_of_advance h hpc
  | true => exact h.trans (by rw [← hpc]; rfl)

theorem relWord_eq {r : Rel} (h : r ≠ .unordered) :
    relWord r = if r = .less then BitVec.allOnes 64 else if r = .equal then 0 else 1 := by
  cases r with
  | unordered => exact absurd rfl h
  | less => decide
  | equal => rfl
  | greater => rfl

/-- Settles O40. -/
theorem stringCompares : Obligations.StringCompares := by
  intro x y z a s k r n p relOf ends hx
  have decided : ∀ {other q}, relOf q → (∀ j, j < min (k + 1) n → other j = some (q j)) →
      stringRel s other (lo32 (s.reg x)) 0 n = some r ∧ r ≠ .unordered := fun {other q} hr hq => by
    refine ⟨stringRel_eq n k 0 _ q hr.1 hr.2 hx fun j hj => by rw [Nat.zero_add]; exact hq j hj, ?_⟩
    obtain ⟨⟨-, rfl⟩ | ⟨-, -, rfl⟩, -⟩ := hr
    · decide
    · split <;> decide
  refine ⟨fun hr hy => ?_, fun hr => ?_⟩
  · obtain ⟨hrel, hord⟩ := decided (other := s.stringByte (lo32 (s.reg y))) hr fun j hj =>
      if_pos ((State.allowedRange_iff _ _ _).mp hy j hj)
    have hs : s.stringsRel x y z = some r := hrel
    refine ⟨?_, ?_⟩
    · have he : exec (.cmpbBr x y z a) s = branchAction (.cmpbBr x y z a) a (ccfSelects a.ccf r)
          (((s.setReg x (s.anyWord .regX)).setReg y (s.anyWord .regY)).setReg z (s.anyWord .regZ)) := by
        show execCmpbBr x y z a s = _
        unfold execCmpbBr
        rw [hs]
      refine ⟨_, branchAction_ends he rfl, rfl, rfl, ?_, by rw [← ccfSelects_eq]; rfl⟩
      exact RegsBut.trans (RegsBut.trans (regsBut_setReg x _) (regsBut_setReg y _)) (regsBut_setReg z _)
    · have he : exec (.cmpbTest x y z) s = finishReg (.cmpbTest x y z) x (relWord r)
          ((s.setReg y (s.anyWord .regY)).setReg z (s.anyWord .regZ)) := by
        show execCmpbTest x y z s = _
        unfold execCmpbTest
        rw [hs]
      refine ⟨_, done_of_finishReg he rfl, rfl, rfl, ?_, rfl, ?_⟩
      · exact RegsBut.mono (RegsBut.trans (RegsBut.trans (regsBut_setReg y _) (regsBut_setReg z _))
          (regsBut_setReg x _)) (by simp)
      · rw [← relWord_eq hord]
        exact State.reg_setReg_same _ _ _
  · obtain ⟨hrel, -⟩ := decided (other := constByte (s.reg y)) hr fun j _ =>
      congrArg some (wordBytes_getD _ (Nat.mod_lt j (by decide)))
    have he : exec (.cmpbBrConst x y z a) s = branchAction (.cmpbBrConst x y z a) a (ccfSelects a.ccf r)
        ((s.setReg x (s.anyWord .regX)).setReg z (s.anyWord .regZ)) := by
      show execCmpbBrConst x y z a s = _
      unfold execCmpbBrConst
      rw [show s.constRel x y z = some r from hrel]
    refine ⟨_, branchAction_ends he rfl, rfl, rfl, ?_, by rw [← ccfSelects_eq]; rfl⟩
    exact RegsBut.trans (regsBut_setReg x _) (regsBut_setReg z _)


/-! ### Numeric strings -/

theorem numericString_iff {w : Word} {n : Nat} : NumericString w n ↔ isNumeric w = true ∧ n = asciiVal w := by
  have hdigit : ∀ k, isDigit (w.extractLsb' (56 - 8 * k) 8) = true ↔
      stringByte w k = 0 ∨ (0x30 ≤ stringByte w k ∧ stringByte w k ≤ 0x39) := fun k => by
    simp only [isDigit, stringByte, Bool.or_eq_true, Bool.and_eq_true, decide_eq_true_eq, ← BitVec.toNat_inj]
    rfl
  have hval : ∀ k, (if stringByte w k = 0 then 0 else stringByte w k - 0x30) = stringByte w k - 0x30 := fun k => by
    split <;> omega
  simp only [NumericString, ← hdigit, hval, ← isNumeric_iff]
  refine and_congr_right fun h => ?_
  rw [asciiVal_eq h]
  rfl

/-- Bytes of one number and one length are the same. -/
theorem beNat_injective : ∀ {l l' : List Byte}, l.length = l'.length → beNat l = beNat l' → l = l'
  | [], [], _, _ => rfl
  | b :: bs, c :: cs, hl, h => by
    have hl' : bs.length = cs.length := Nat.succ.inj hl
    have hb := beNat_lt bs
    have hc := beNat_lt cs
    have hpos : 0 < 256 ^ cs.length := by positivity
    rw [beNat, beNat, hl'] at h
    rw [hl'] at hb
    have hbc : b = c := BitVec.eq_of_toNat_eq (by
      have := congrArg (· / 256 ^ cs.length) h
      simpa only [Nat.add_comm (_ * _), Nat.add_mul_div_right _ _ hpos, Nat.div_eq_of_lt hb,
        Nat.div_eq_of_lt hc, Nat.zero_add] using this)
    subst hbc
    exact congrArg (b :: ·) (beNat_injective hl' (Nat.add_left_cancel h))

/-- A register's bytes are those it was made of. -/
theorem wordBytes_wordOf {l : List Byte} (h : l.length = 8) : wordBytes (wordOf l) = l := by
  have hlt : beNat l < 2 ^ 64 := by
    have := beNat_lt l
    rwa [h] at this
  refine beNat_injective ((wordBytes_length _).trans h.symm) ?_
  rw [wordBytes, beNat_beBytes, wordOf, BitVec.toNat_ofNat, Nat.mod_eq_of_lt hlt]
  exact Nat.mod_eq_of_lt hlt

/-- The digits of a number in ASCII display format give it back. -/
theorem numericString_toAscii {n : Nat} (h : n < 10 ^ 8) : NumericString (toAscii n) n := by
  have hbytes : wordBytes (toAscii n) = asciiBytes 8 n := wordBytes_wordOf rfl
  have hdigit : ∀ k, (BitVec.ofNat 8 (0x30 + n / 10 ^ k % 10)).toNat = 0x30 + n / 10 ^ k % 10 := fun k => by
    rw [BitVec.toNat_ofNat, Nat.mod_eq_of_lt (by omega)]
  have hmod : ∀ k, (0x30 + n / 10 ^ k % 10) % 16 = n / 10 ^ k % 10 := fun k => by omega
  refine numericString_iff.mpr ⟨?_, ?_⟩
  · have hd : ∀ k, isDigit (BitVec.ofNat 8 (0x30 + n / 10 ^ k % 10)) = true := fun k => by
      rw [isDigit, hdigit, decide_eq_true (by omega : 0x30 ≤ 0x30 + n / 10 ^ k % 10),
        decide_eq_true (by omega : 0x30 + n / 10 ^ k % 10 ≤ 0x39), Bool.and_self, Bool.or_true]
    simp only [isNumeric, hbytes, asciiBytes, List.all_cons, List.all_nil, hd, Bool.and_self]
  · rw [asciiVal, hbytes]
    simp only [asciiBytes, List.foldl_cons, List.foldl_nil, hdigit, hmod]
    norm_num
    omega

/-- Settles O35. -/
theorem decimalConversions : Obligations.DecimalConversions := by
  intro x y z s
  refine ⟨⟨_, done_of_finishReg rfl rfl⟩, ⟨_, done_of_finishReg rfl rfl⟩, fun n hn hz =>
    ⟨numericString_toAscii hn, ?_⟩, fun n hn => ?_⟩
  · have hi : (s.reg z).toInt = n := by
      rw [hz, BitVec.toInt_ofNat', Int.bmod_eq_of_le] <;> omega
    have hd : Done (.cvtIa x y z) s (s.setReg x (if 0 ≤ (s.reg z).toInt ∧ (s.reg z).toInt < 10 ^ 8 then
        toAscii (s.reg z).toInt.toNat else s.anyWord .destLow)) := done_of_finishReg rfl rfl
    rw [hi, if_pos (by omega)] at hd
    exact hd
  · obtain ⟨hnum, rfl⟩ := numericString_iff.mp hn
    have hd : Done (.cvtAi x y z) s (s.setReg x (if isNumeric (s.reg z) then BitVec.ofNat 64 (asciiVal (s.reg z))
        else s.anyWord .destLow)) := done_of_finishReg rfl rfl
    rwa [if_pos hnum] at hd

/-! ### Decimal arithmetic -/

theorem asciiSub_of_numeric {x y z t : Reg} {u : Nib} (hn : s.numericPair y z = true) (ht : t ≠ x) :
    exec (.asciiSub x y z t u) s = advance (.asciiSub x y z t u)
      ((if 10 ^ 8 ≤ asciiDiff s y z then (s.setReg x (toAscii (asciiDiff s y z - 10 ^ 8))).setReg t 0
        else (s.setReg x (asciiMagnitude s (asciiDiff s y z))).setReg t 1).setCd false) := by
  show execAsciiSub x y z t u s = _
  unfold execAsciiSub
  simp only [if_pos hn, if_neg ht]

/-- An instruction that writes registers and the decimal carry. -/
theorem ends_of_setCd {l : List Reg} {b : Bool} (h : exec i s = advance i (t.setCd b)) (ht : t = { s with regs := t.regs })
    (hl : RegsBut l s t) :
    ∃ w, exec i s = .next w ∧ OnlyCpu s w ∧ RegsBut l s w ∧ PswBut [10] s w ∧ w.pc = s.nextPc i := by
  have hpsw : t.psw = s.psw := by rw [ht]
  have hpc : t.pc = s.pc := by rw [ht]
  refine ⟨_, done_of_advance h hpc, ?_, hl, fun j hj hn => ?_, rfl⟩
  · unfold OnlyCpu
    rw [ht]
    rfl
  · show (t.setPswBit 10 b).pswBit j = s.pswBit j
    rw [State.pswBit_setPswBit _ _ _ _ (by decide) hj, if_neg (by simpa using hn), State.pswBit, hpsw]
    rfl

theorem asciiUndefined_done {x : Reg} (h : exec i s = asciiUndefined i x s) :
    ∃ v c, Done i s ((s.setReg x v).setCd c) := ⟨_, _, done_of_advance h rfl⟩

/-- Settles O36. -/
theorem asciiInstructions : Obligations.AsciiInstructions := by
  refine ⟨fun x y z s p q hp hq => ?_, fun x y z t u s => ?_⟩
  · obtain ⟨hy, rfl⟩ := numericString_iff.mp hp
    obtain ⟨hz, rfl⟩ := numericString_iff.mp hq
    have hn : s.numericPair y z = true := by rw [State.numericPair, hy, hz]; rfl
    have hp := asciiVal_lt hy
    have hq := asciiVal_lt hz
    intro c
    have hc : c ≤ 1 := by
      show (if s.pswBit 10 then 1 else 0) ≤ 1
      split <;> decide
    have hdiff : asciiDiff s y z = asciiVal (s.reg y) + 10 ^ 8 - asciiVal (s.reg z) - c := by
      show asciiVal (s.reg y) + (10 ^ 8 - 1 - asciiVal (s.reg z)) + (1 - c) = _
      omega
    refine ⟨done_of_advance (if_pos hn) rfl, done_of_advance (if_pos hn) rfl, ?_, fun t u ht => ?_⟩
    · have hx : Done (.asciiSubc x y z) s ((s.setReg x (toAscii (asciiDiff s y z % 10 ^ 8))).setCd
          (decide (asciiDiff s y z < 10 ^ 8))) := done_of_advance (if_pos hn) rfl
      rwa [hdiff, decide_eq_decide.mpr (by omega :
        asciiVal (s.reg y) + 10 ^ 8 - asciiVal (s.reg z) - c < 10 ^ 8 ↔ asciiVal (s.reg y) < asciiVal (s.reg z) + c)] at hx
    · have hx := asciiSub_of_numeric (u := u) hn ht
      rw [hdiff] at hx
      refine ⟨fun h => ?_, fun h h' => ?_, fun h => ?_⟩
      · rw [if_pos (by omega), show asciiVal (s.reg y) + 10 ^ 8 - asciiVal (s.reg z) - c - 10 ^ 8 =
          asciiVal (s.reg y) - asciiVal (s.reg z) - c by omega] at hx
        exact done_of_advance hx rfl
      · rw [if_neg (by omega), asciiMagnitude, if_neg (by omega),
          show 10 ^ 8 - (asciiVal (s.reg y) + 10 ^ 8 - asciiVal (s.reg z) - c) =
            asciiVal (s.reg z) + c - asciiVal (s.reg y) by omega] at hx
        exact done_of_advance hx rfl
      · rw [if_neg (by omega), asciiMagnitude, if_pos (by omega)] at hx
        exact ⟨_, Nat.mod_lt _ (by decide), done_of_advance hx rfl⟩
  · by_cases hn : s.numericPair y z = true
    · refine ⟨⟨_, _, done_of_advance (if_pos hn) rfl⟩, ⟨_, _, done_of_advance (if_pos hn) rfl⟩,
        ⟨_, _, done_of_advance (if_pos hn) rfl⟩, ?_⟩
      have two : ∀ v w, RegsBut [x, t] s ((s.setReg x v).setReg t w) := fun v w =>
        RegsBut.trans (regsBut_setReg x v) (regsBut_setReg t w)
      by_cases ht : t = x
      · obtain ⟨v, w, hx⟩ : ∃ v w, exec (.asciiSub x y z t u) s = advance (.asciiSub x y z t u)
            ((((s.setReg x v).setReg t w).setReg x (s.anyWord .regX)).setCd false) := by
          show ∃ v w, execAsciiSub x y z t u s = _
          unfold execAsciiSub
          simp only [if_pos hn, if_pos ht]
          split <;> exact ⟨_, _, rfl⟩
        exact ends_of_setCd hx rfl (RegsBut.mono (RegsBut.trans (two v w) (regsBut_setReg x _)) (by simp))
      · by_cases h8 : 10 ^ 8 ≤ asciiDiff s y z
        · exact ends_of_setCd ((asciiSub_of_numeric hn ht).trans (by rw [if_pos h8])) rfl (two _ _)
        · exact ends_of_setCd ((asciiSub_of_numeric hn ht).trans (by rw [if_neg h8])) rfl (two _ _)
    · have hx : exec (.asciiSub x y z t u) s = advance (.asciiSub x y z t u)
          (((s.setReg t (s.anyWord .sign)).setReg x (s.anyWord .destLow)).setCd (s.anyBool .sign)) := if_neg hn
      refine ⟨asciiUndefined_done (if_neg hn), asciiUndefined_done (if_neg hn), asciiUndefined_done (if_neg hn),
        ends_of_setCd hx rfl (RegsBut.mono (RegsBut.trans (regsBut_setReg t _) (regsBut_setReg x _)) (by simp))⟩

end Sys2Proof.Machine

/-! SUPPORT. The funnel, link, channel and table instructions, and the sends. -/

namespace Sys2Proof.Machine

open Sys2Proof Sys2Proof.Stmt

variable {s t : State} {i : Instr}


/-! ### Funnels named by an instruction -/

theorem status_of {x : Reg} {n : Nat} (h : exec i s = finishStatus i x n t) (hpc : t.pc = s.pc) : Status i x n s t :=
  done_of_finishReg h hpc

theorem withFunnel_some {x : Reg} {f : Nat} {e : Funnel} {k : Funnel → Res} (h0 : 0 < f) (h1 : f ≤ 255)
    (h : s.funnel f = some e) : withFunnel i x f s k = k e := by
  rw [withFunnel, State.funnelOf, if_neg (by omega), h]

theorem withFunnel_none {x : Reg} {f : Nat} {k : Funnel → Res} (h : f = 0 ∨ 255 < f ∨ s.funnel f = none) :
    withFunnel i x f s k = finishStatus i x 1 s := by
  have : s.funnelOf f = none := by
    unfold State.funnelOf
    split
    · rfl
    · exact (h.resolve_left (by omega)).resolve_left (by omega)
  rw [withFunnel, this]

theorem withHead_some {x : Reg} {f : Nat} {e : Funnel} {m : Message} {k : Funnel → Message → Res} (h0 : 0 < f)
    (h1 : f ≤ 255) (h : s.funnel f = some e) (hm : e.queue.head? = some m) : withHead i x f s k = k e m := by
  rw [withHead, withFunnel_some h0 h1 h, hm]

theorem withHead_empty {x : Reg} {f : Nat} {e : Funnel} {k : Funnel → Message → Res} (h0 : 0 < f) (h1 : f ≤ 255)
    (h : s.funnel f = some e) (hm : e.queue = []) : withHead i x f s k = finishStatus i x 14 s := by
  rw [withHead, withFunnel_some h0 h1 h, hm]
  rfl

/-- A deleted funnel, as the statements say it. -/
theorem State.dropFunnel_gone (h : s.tablesOk) (f : Nat) : FunnelGone s (s.dropFunnel f) f := by
  refine ⟨?_, fun g hg => ?_, State.dropFunnel_free f, rfl⟩
  · rw [State.dropFunnel_funnel h, if_pos rfl]
  · rw [State.dropFunnel_funnel h, if_neg hg]

/-- Settles O45. -/
theorem funnelInstructions : Obligations.FunnelInstructions := by
  rintro x y z s f e rfl h0 h1 h
  have on : ∀ {i : Instr} {k : Funnel → Res}, withFunnel i x (s.reg y).toNat s k = k e := withFunnel_some h0 h1 h
  refine ⟨fun hd => ?_, fun he hf => ?_, fun hf => ?_, fun c hc h0' hf => ?_, fun m q hq hm => ?_, fun hd hq ht => ?_⟩
  · exact status_of (on.trans (if_neg (by simp [hd]))) rfl
  · exact status_of (on.trans ((if_neg hf).trans (if_pos he))) rfl
  · exact status_of (on.trans (if_neg hf)) rfl
  · have hlow : lowChan (s.reg z) = c := Fin.ext (by
      show (s.reg z).toNat % 16 = c.val
      omega)
    have hne : c.val ≠ 0 := fun hv => h0' (Fin.ext hv)
    rw [← hlow]
    exact status_of (on.trans ((if_neg (by omega)).trans (if_neg (by omega)))) rfl
  · refine ⟨s.dequeue (s.reg y).toNat e, status_of ((withHead_some h0 h1 h (by rw [hq]; rfl)).trans ?_) rfl, ?_, fun g hg => ?_,
      ?_, rfl⟩
    · exact if_neg (by simp [hm])
    · rw [State.dequeue_funnel, if_pos rfl, hq]
      rfl
    · rw [State.dequeue_funnel, if_neg hg]
    · simp only [State.dequeue, hq, List.tail_cons, List.isEmpty_iff]
  · refine ⟨s.dropFunnel (s.reg y).toNat, status_of (on.trans ((if_neg (by simp [hd])).trans (if_neg (by simp [hq])))) rfl,
      State.dropFunnel_gone ht _, rfl⟩

/-- Settles O46. -/
theorem funnelRefusals : Obligations.FunnelRefusals := by
  rintro x y z s f rfl
  refine ⟨fun h => ?_, fun e h0 h1 h => ?_⟩
  · have off : ∀ {i : Instr} {k : Funnel → Res}, withFunnel i x (s.reg y).toNat s k = finishStatus i x 1 s :=
      withFunnel_none h
    exact ⟨status_of off rfl, status_of off rfl, status_of off rfl, status_of off rfl, status_of off rfl, status_of off rfl⟩
  · have on : ∀ {i : Instr} {k : Funnel → Res}, withFunnel i x (s.reg y).toNat s k = k e := withFunnel_some h0 h1 h
    refine ⟨fun he => ⟨?_, ?_⟩, fun hd hf => ?_, fun hf => ⟨?_, ?_⟩, fun hz => ?_, fun hz hf => ?_, fun hq => ?_,
      fun m q hq hm => ?_, fun hd hq => ?_⟩
    · exact status_of (on.trans (if_pos he)) rfl
    · exact status_of (on.trans (if_pos he)) rfl
    · exact status_of (on.trans ((if_neg hf).trans (if_neg (by simp [hd])))) rfl
    · exact status_of (on.trans (if_pos hf)) rfl
    · exact status_of (on.trans (if_pos hf)) rfl
    · exact status_of (on.trans (if_pos hz)) rfl
    · exact status_of (on.trans ((if_neg (by omega)).trans (if_pos hf))) rfl
    · exact status_of (withHead_empty h0 h1 h hq) rfl
    · refine status_of ((withHead_some h0 h1 h (by rw [hq]; rfl)).trans (if_pos ?_)) rfl
      exact Option.isSome_iff_ne_none.mpr hm
    · exact status_of (on.trans ((if_neg (by simp [hd])).trans (if_pos (by simpa using hq)))) rfl

/-! ### A new funnel -/

theorem FunnelTable.le_limit {l : FunnelTable} {f : Nat} : f ≤ l.limit ↔ f ≤ 127 ∨ (f ≤ 255 ∧ l.page2 = true) := by
  unfold FunnelTable.limit
  cases l.page2 <;> simp
  omega

theorem createFun_slot {x y z : Reg} {id : Nat} (h : s.funnelSlot (s.reg y).toNat = .ok id) :
    Status (.createFun x y z) x 0 s
      ((s.putFunnel id { channel := 15, vector := s.params.sysHandlerPc, queue := [] }).setReg y (BitVec.ofNat 64 id)) := by
  refine status_of ?_ rfl
  show execCreateFun x y z s = _
  unfold execCreateFun
  simp only [h]

theorem createFun_refused {x y z : Reg} {n : Nat} (h : s.funnelSlot (s.reg y).toNat = .error n) :
    Status (.createFun x y z) x n s s := by
  refine status_of ?_ rfl
  show execCreateFun x y z s = _
  unfold execCreateFun
  simp only [h]

/-- Settles O47. -/
theorem createFunnel : Obligations.CreateFunnel := by
  rintro x y z s f rfl
  have slot : ∀ n, (s.reg y).toNat = n → s.funnelSlot (s.reg y).toNat = s.funnelSlot n := fun n h => by rw [h]
  have slot0 : (s.reg y).toNat = 0 → s.funnelSlot (s.reg y).toNat =
      match s.funnels.nextFree with | none => .error 8 | some q => .ok q := fun h => by
    rw [h]
    exact if_pos rfl
  have slot1 : 0 < (s.reg y).toNat → s.funnelSlot (s.reg y).toNat =
      if 255 < (s.reg y).toNat then .error 9 else if s.funnels.limit < (s.reg y).toNat then .error 50
      else if (s.funnel (s.reg y).toNat).isSome then .error 10 else .ok (s.reg y).toNat := fun h => if_neg (by omega)
  refine ⟨fun id hid => ?_, fun h hn => ?_, fun h hl hn => ?_, fun h => ?_, fun h h' hp => ?_⟩
  · have hok : s.funnelSlot (s.reg y).toNat = .ok id ∧ id < 256 := by
      obtain ⟨h, rfl, hl, hn⟩ | ⟨h, hn, hle⟩ := hid
      · have := FunnelTable.le_limit.mpr hl
        rw [slot1 h, if_neg (by omega), if_neg (by omega), hn]
        exact ⟨rfl, by omega⟩
      · rw [slot0 h, hn]
        exact ⟨rfl, by omega⟩
    refine ⟨_, createFun_slot hok.1, ?_, ?_, fun g hg => ⟨?_, ?_⟩, rfl, rfl, rfl⟩
    · rw [State.putFunnel_funnel, if_pos rfl]
    · show (setFunnelBit s.enabled id true).getLsbD id = true
      rw [setFunnelBit_getLsbD _ _ _ _ hok.2, if_pos rfl]
    · rw [State.putFunnel_funnel, if_neg hg]
    · show (setFunnelBit s.enabled id true).getLsbD g = s.enabled.getLsbD g
      by_cases h256 : g < 256
      · rw [setFunnelBit_getLsbD _ _ _ _ h256, if_neg hg]
      · rw [BitVec.getLsbD_of_ge _ _ (by omega), BitVec.getLsbD_of_ge _ _ (by omega)]
  · exact createFun_refused (by rw [slot0 h, hn])
  · have := FunnelTable.le_limit.mpr hl
    exact createFun_refused (by
      rw [slot1 h, if_neg (by omega), if_neg (by omega), if_pos (Option.isSome_iff_ne_none.mpr hn)])
  · exact createFun_refused (by rw [slot1 (by omega), if_pos h])
  · have : ¬ (s.reg y).toNat ≤ s.funnels.limit := fun hl => by
      have := FunnelTable.le_limit.mp hl
      simp [hp] at this
      omega
    exact createFun_refused (by rw [slot1 (by omega), if_neg (by omega), if_pos (by omega)])

/-! ### Channels -/

/-- Settles O48. -/
theorem channelInstructions : Obligations.ChannelInstructions := by
  refine ⟨fun s p => ⟨s.hpac, rfl, fun f e hm hq => highest_le (mem_activeChannels.mpr ⟨f, e, hm, hq, rfl⟩), ?_⟩,
    fun x y z u v s => ⟨⟨fun h => ?_, fun h => ?_, status_of rfl rfl⟩, fun p hp => ?_⟩⟩
  · obtain h | ⟨h, h15⟩ := highest_mem (activeChannels s.funnels.entries)
    · exact .inl (mem_activeChannels.mp h)
    · refine .inr ⟨fun f e hm => ?_, h15⟩
      by_contra hq
      have : e.channel ∈ activeChannels s.funnels.entries := mem_activeChannels.mpr ⟨f, e, hm, hq, rfl⟩
      rw [h] at this
      cases this
  · refine status_of (if_pos ?_) rfl
    simpa [chanBit, maskOf, BitVec.getMsbD_eq_getLsbD] using h
  · refine status_of (if_neg ?_) rfl
    simpa [chanBit, maskOf, BitVec.getMsbD_eq_getLsbD] using h
  · have hlow : lowChan (s.reg y) = p := Fin.ext hp
    rw [← hlow]
    exact done_of_finishReg rfl rfl

/-! ### The funnel a channel receive takes from -/

theorem bestCandidate_eq_none {l : List Candidate} : bestCandidate l = none ↔ l = [] := by
  cases l with
  | nil => simp [bestCandidate]
  | cons c t =>
    unfold bestCandidate
    cases bestCandidate t with
    | none => simp
    | some d => simp only; split <;> simp

/-- The chosen candidate is of the highest priority, and the first such. -/
theorem bestCandidate_best {l pre post : List Candidate} {c d : Candidate} (h : bestCandidate l = some c)
    (hl : l = pre ++ d :: post) : c.entry.channel ≤ d.entry.channel ∧
      (c.entry.channel = d.entry.channel → c = d ∨ c ∈ pre) := by
  induction l generalizing pre c with
  | nil => cases h
  | cons a l ih =>
    unfold bestCandidate at h
    cases hb : bestCandidate l with
    | none =>
      rw [bestCandidate_eq_none] at hb
      subst hb
      obtain ⟨rfl, rfl⟩ : pre = [] ∧ a = d := by
        cases pre <;> simp_all
      simp only [bestCandidate, Option.some.injEq] at h
      exact ⟨by rw [h], fun _ => .inl h.symm⟩
    | some b =>
      simp only [hb] at h
      cases pre with
      | nil =>
        obtain ⟨rfl, rfl⟩ : a = d ∧ l = post := by simpa using hl
        split at h
        · next hlt =>
          cases h
          exact ⟨hlt.le, fun he => absurd he hlt.ne⟩
        · cases h
          exact ⟨le_refl _, fun _ => .inl rfl⟩
      | cons a' pre =>
        obtain ⟨rfl, htail⟩ : a = a' ∧ l = pre ++ d :: post := by simpa using hl
        obtain ⟨hle, heq⟩ := ih hb htail
        split at h
        · cases h
          exact ⟨hle, fun he => (heq he).imp_right (List.mem_cons_of_mem _)⟩
        · next hnlt =>
          cases h
          exact ⟨(not_lt.mp hnlt).trans hle, fun _ => .inr List.mem_cons_self⟩

/-- A funnel that a channel receive can take from, as a candidate. -/
theorem State.candidates_append {mask : BitVec 16} {f : Nat} {pre post : List Nat} {e : Funnel}
    (hl : s.funnels.active = pre ++ f :: post) (h : s.funnel f = some e) (h1 : 1 < f) (h2 : f ≤ 255) (hq : e.queue ≠ [])
    (hm : chanBit mask e.channel = true) : ∃ (d : Candidate) (l l' : List Candidate), d.funnel = f ∧ d.entry = e ∧
      s.candidates mask = l ++ d :: l' ∧ ∀ c ∈ l, c.funnel ∈ pre := by
  obtain ⟨m, q, hmq⟩ := List.exists_cons_of_ne_nil hq
  have hof : s.funnelOf f = some e := by rw [State.funnelOf, if_neg (by omega), h]
  have hrec : e.receivable f = some m := by rw [Funnel.receivable, if_neg (by omega), hmq]; rfl
  unfold State.candidates
  rw [hl, List.filterMap_append, List.filterMap_cons]
  simp only [hof, hm, if_true, hrec, Option.map_some]
  refine ⟨_, _, _, rfl, rfl, rfl, fun c hc => ?_⟩
  obtain ⟨g, hg, hc⟩ := List.mem_filterMap.mp hc
  have : c.funnel = g := by
    split at hc
    · cases hc
    · split at hc
      · obtain ⟨k, -, rfl⟩ := Option.map_eq_some_iff.mp hc
        rfl
      · cases hc
  rwa [this]

/-- Settles O57. -/
theorem channelReceiveChooses : Obligations.ChannelReceiveChooses := by
  intro s mask
  refine ⟨fun f e ha h h1 h2 hq hm => ?_, fun c hc => ?_⟩
  · have hmem : f ∈ s.funnels.active := ha.elim (fun hok => (hok.2 f).mpr ⟨e, h, hq⟩) id
    obtain ⟨pre, post, hl⟩ := List.append_of_mem hmem
    obtain ⟨d, l, l', -, -, hd, -⟩ := State.candidates_append hl h h1 h2 hq hm
    rw [← Option.isSome_iff_exists, Option.isSome_iff_ne_none, Ne, bestCandidate_eq_none, hd]
    simp
  · obtain ⟨ha, hf, -, h1, -, hm, hb⟩ := State.mem_candidates (bestCandidate_mem hc)
    refine ⟨h1, ha, hf, hm, hb, fun pre f post e hl h h1 h2 hq hm => ?_⟩
    obtain ⟨d, l, l', rfl, rfl, hd, hpre⟩ := State.candidates_append hl h h1 h2 hq hm
    obtain ⟨hle, heq⟩ := bestCandidate_best hc hd
    exact ⟨hle, fun he => (heq he).imp (congrArg Candidate.funnel) (hpre c)⟩


/-! ### Delivery (R578, R703) -/

/-- The state after a message has reached the tail of a funnel's queue, before an interrupt. -/
def State.arrived (s : State) (f : Nat) (e : Funnel) (m : Message) : State :=
  { s.enqueue f e m with lp := min s.lp e.channel }

theorem State.arrived_queued (f : Nat) (e : Funnel) (m : Message) : Queued f e m s (s.arrived f e m) := by
  refine ⟨?_, fun g hg => ?_, rfl, ?_, rfl⟩
  · exact (State.enqueue_funnel f e m f).trans (if_pos rfl)
  · exact (State.enqueue_funnel f e m g).trans (if_neg hg)
  · simp only [State.arrived, State.enqueue, List.isEmpty_iff]

theorem deliverTo_eq (f : Nat) (e : Funnel) (m : Message) : deliverTo f e m s =
    if (s.arrived f e m).interrupts e.channel s.lp then interruptEntry f e.vector s.lp (s.arrived f e m)
    else .next (s.arrived f e m) := rfl

/-- An arrival interrupts exactly where it is accepted. -/
theorem State.interrupts_arrived {f : Nat} {e : Funnel} {m : Message} :
    ((s.arrived f e m).interrupts e.channel s.lp = true → Accepts s f e) ∧
    (Accepts s f e → s.tablesOk → (s.arrived f e m).interrupts e.channel s.lp = true) := by
  have hown : (s.arrived f e m).funnel f = some { e with queue := e.queue ++ [m] } := (s.arrived_queued f e m).1
  have hother : ∀ g, g ≠ f → (s.arrived f e m).funnel g = s.funnel g := (s.arrived_queued f e m).2.1
  have hle : (s.arrived f e m).hpac ≤ e.channel :=
    highest_le (mem_activeChannels.mpr ⟨f, _, Assoc.mem_of_get hown, by simp, rfl⟩)
  simp only [State.interrupts, Bool.and_eq_true, decide_eq_true_eq]
  refine ⟨fun ⟨⟨hb, hc⟩, hlp⟩ => ⟨hb, hlp, fun g h hg hf hq => ?_⟩, fun ⟨hb, hlp, hall⟩ ht => ⟨⟨hb, ?_⟩, hlp⟩⟩
  · rw [hc]
    exact highest_le (mem_activeChannels.mpr ⟨g, h, Assoc.mem_of_get ((hother g hg).trans hf), hq, rfl⟩)
  · refine le_antisymm ?_ hle
    obtain hmem | ⟨-, h15⟩ := highest_mem (activeChannels (s.arrived f e m).funnels.entries)
    · obtain ⟨g, h, hgh, hq, hch⟩ := mem_activeChannels.mp hmem
      have hsorted : Assoc.sorted (s.arrived f e m).funnels.entries = true := Assoc.sorted_set f _ ht.2.1
      have hget : (s.arrived f e m).funnel g = some h := Assoc.get_of_mem (m := 0) hsorted hgh
      rw [State.hpac, ← hch]
      by_cases hg : g = f
      · rw [hg, hown] at hget
        cases hget
        exact le_refl _
      · exact hall g h hg ((hother g hg).symm.trans hget) hq
    · rw [State.hpac, h15]
      exact Fin.le_last _

/-- A send whose message reaches this process at the instruction's end. -/
theorem delivers_of {x : Reg} {n f : Nat} {e : Funnel} {m : Message} {v : State}
    (h : exec i s = (finishStatus i x n v).bind (deliver f m)) (hpc : v.pc = s.pc) (ho : v.openFunnel f = some e) :
    Delivers i x n f e m s v := by
  have hnext : v.nextPc i = s.nextPc i := by rw [State.nextPc, State.nextPc, hpc]
  have hx : exec i s = deliverTo f e m ((v.setReg x (BitVec.ofNat 64 n)).setPc (s.nextPc i)) := by
    rw [h, finishStatus_eq, Res.bind_next, ← hnext]
    exact deliver_open ho
  have hi : ((v.setReg x (BitVec.ofNat 64 n)).setPc (s.nextPc i)).arrived f e m =
      ((v.arrived f e m).setReg x (BitVec.ofNat 64 n)).setPc (s.nextPc i) := rfl
  rw [deliverTo_eq, hi] at hx
  refine ⟨_, v.arrived_queued f e m, fun ha => hx.trans (if_neg fun hint => ha ?_), fun ha ht => hx.trans (if_pos ?_)⟩
  · exact (State.interrupts_arrived (s := v)).1 hint
  · exact (State.interrupts_arrived (s := v)).2 ha ht

/-! ### Blocks and links -/

theorem withLink_ok {x : Reg} {off id : Nat} {e : Lte} {k : Lte → Res} (h : s.lookup id = .ok e) :
    withLink i x off id s k = k e := by
  rw [withLink, h]

theorem withLink_error {x : Reg} {off id n : Nat} {k : Lte → Res} (h : s.lookup id = .error n) :
    withLink i x off id s k = finishStatus i x (n + off) s := by
  rw [withLink, h]

theorem withData_negative {x y z t v : Reg} {limit : Int} {k : List Byte → Res}
    (h : (s.reg z).toInt < 0 ∨ (s.reg v).toInt < 0) : withData i x y z t v limit s k = finishStatus i x 46 s := if_pos h

theorem withData_long {x y z t v : Reg} {limit : Int} {k : List Byte → Res} (hz : 0 ≤ (s.reg z).toInt)
    (hv : 0 ≤ (s.reg v).toInt) (h : limit < (s.reg z).toInt + (s.reg v).toInt) :
    withData i x y z t v limit s k = finishStatus i x 6 s :=
  (if_neg (not_or.mpr ⟨not_lt.mpr hz, not_lt.mpr hv⟩)).trans (if_pos h)

theorem withData_denied {x y z t v : Reg} {limit : Int} {k : List Byte → Res} (hz : 0 ≤ (s.reg z).toInt)
    (hv : 0 ≤ (s.reg v).toInt) (h : (s.reg z).toInt + (s.reg v).toInt ≤ limit)
    (hd : s.allowedRange .read (lo32 (s.reg y) + 16) (s.reg z).toInt.toNat = false ∨
      s.allowedRange .read (lo32 (s.reg t)) (s.reg v).toInt.toNat = false) :
    withData i x y z t v limit s k = accessViolation i s := by
  unfold withData State.len
  rw [if_neg (not_or.mpr ⟨not_lt.mpr hz, not_lt.mpr hv⟩), if_neg (not_lt.mpr h)]
  obtain hd | hd := hd
  · rw [State.load_of_denied hd]
  · rw [State.load_of_denied hd]
    cases s.load (lo32 (s.reg y) + 16) (s.reg z).toInt.toNat <;> rfl

/-- The data of the two blocks of a send (R610). -/
def State.twoBlocks (s : State) (y z t v : Reg) : List Byte :=
  readBytes s.mem (lo32 (s.reg y) + 16) (s.reg z).toInt.toNat ++ readBytes s.mem (lo32 (s.reg t)) (s.reg v).toInt.toNat

theorem withData_ok {x y z t v : Reg} {limit : Int} {k : List Byte → Res} (hz : 0 ≤ (s.reg z).toInt)
    (hv : 0 ≤ (s.reg v).toInt) (h : (s.reg z).toInt + (s.reg v).toInt ≤ limit)
    (h1 : s.allowedRange .read (lo32 (s.reg y) + 16) (s.reg z).toInt.toNat = true)
    (h2 : s.allowedRange .read (lo32 (s.reg t)) (s.reg v).toInt.toNat = true) :
    withData i x y z t v limit s k = k (s.twoBlocks y z t v) := by
  unfold withData State.len
  rw [if_neg (not_or.mpr ⟨not_lt.mpr hz, not_lt.mpr hv⟩), if_neg (not_lt.mpr h), State.load_of_allowed h1,
    State.load_of_allowed h2]
  rfl

theorem withField_denied {a : Addr} {n : Nat} {k : Nat → Res} (h : s.allowedRange .read a n = false) :
    withField i a n s k = accessViolation i s := by
  rw [withField, State.loadNat, State.load_of_denied h]
  rfl

/-! ### The end of a send (R592, D57) -/

/-- A message's control information, as the statements say it. -/
theorem Lte.message_labelled (e : Lte) (type : BitVec 8) (d : List Byte) (l : Option Lte) :
    Labelled s e type (e.message type s.processId d l) :=
  ⟨mkRci_code .., mkRci_funnel .., mkRci_type .., mkRci_sender .., mkRci_length ..⟩

/-- A send to this process that is turned away, from a state that differs from the first in nothing the send reads. -/
theorem turnedAway_of {x : Reg} {l : List Nat} {e : Lte} {m : Message} {ok : State → State} {n : Nat}
    (h : exec i s = sendMessage i x l e m ok n t) (hpc : t.pc = s.pc) (hp : t.processId = s.processId)
    (hv : t.versionId = s.versionId) (ho : t.openFunnel e.toFunnel.toNat = s.openFunnel e.toFunnel.toNat)
    (hf : t.poolFull = s.poolFull) (hl : shortages l ≠ []) : TurnedAway i x (shortages l) e s t := by
  intro hown
  obtain ⟨hver, hopen⟩ := State.sendStatus_own (s := t) (l := l) (hown.trans hp.symm)
  have refused : ∀ k, t.sendStatus l e = k → k ≠ 0 → Status i x k s t := fun k hk h0 =>
    status_of (h.trans (hk ▸ sendMessage_refused (hown.trans hp.symm) (hk ▸ h0))) hpc
  refine ⟨fun hne => refused 36 (hver (hv ▸ hne)) (by decide), fun he => ⟨fun hn => ?_, fun hn hfull => ?_⟩⟩
  · exact refused 47 ((hopen (he.trans hv.symm)).1 (ho.trans hn)) (by decide)
  · have hmem : t.anyOf .sendStatus (shortages l) 39 ∈ shortages l := State.anyOf_mem _ _ hl
    have h0 : t.anyOf .sendStatus (shortages l) 39 ≠ 0 := fun h0 => by
      rw [h0, shortages, List.mem_filter] at hmem
      exact absurd hmem.2 (by decide)
    exact ⟨_, hmem, refused _ (((hopen (he.trans hv.symm)).2 (ho ▸ hn)).1 (hf.trans hfull)) h0⟩

/-- A send to another process: its status, and what is done with status 0. -/
theorem away_of {x : Reg} {l : List Nat} {e : Lte} {m : Message} {ok : State → State} {n : Nat}
    (h : exec i s = sendMessage i x l e m ok n t) (hpc : t.pc = s.pc) (hok : (ok (t.emit (.send e m))).pc = t.pc)
    (he : e.toProcess ≠ t.processId) (hl : l ≠ []) : ∃ k ∈ l,
      (k = 0 → Status i x n s (ok (t.emit (.send e m)))) ∧ (k ≠ 0 → Status i x k s (t.emit (.send e m))) := by
  have hstat : t.sendStatus l e = t.anyOf .sendStatus l 0 := by
    unfold State.sendStatus State.owns
    rw [if_neg (by simpa using he)]
  refine ⟨t.sendStatus l e, hstat ▸ State.anyOf_mem _ _ hl, fun h0 => ?_, fun h0 => ?_⟩
  · exact status_of (h.trans ((sendMessage_away he).trans (if_pos h0))) (hok.trans hpc)
  · exact status_of (h.trans ((sendMessage_away he).trans (if_neg h0))) hpc

/-- A send to this process's own open funnel, with buffers free. -/
theorem delivered_of {x : Reg} {l : List Nat} {e : Lte} {m : Message} {ok : State → State} {n : Nat} {fe : Funnel}
    (h : exec i s = sendMessage i x l e m ok n t) (hpc : t.pc = s.pc) (hok : (ok t).pc = t.pc)
    (he : e.toProcess = t.processId) (hv : e.versionId = t.versionId) (hopen : t.openFunnel e.toFunnel.toNat ≠ none)
    (hf : t.poolFull = false) (ho : (ok t).openFunnel e.toFunnel.toNat = some fe) :
    Delivers i x n e.toFunnel.toNat fe m s (ok t) :=
  delivers_of (h.trans (sendMessage_delivered he ((((State.sendStatus_own he).2 hv).2 hopen).2 hf))) (hok.trans hpc) ho


/-! ### The ID of a new link -/

theorem linkSlot_of {p id : Nat} (h : LinkIdFor s p id) : s.linkSlot p = .ok id := by
  obtain ⟨rfl, h⟩ | ⟨h0, rfl, hl, hn, hp⟩ := h
  · have hnext : s.links.nextId = some id := by
      obtain h | ⟨hf, hc, hp, hi, q, rfl, hq0, hq, hn, hl⟩ := h
      · exact LinkTable.nextId_of_nextFree h
      · exact State.nextId_of_page hf hc hp hq0 hq hn hl hi
    rw [State.linkSlot_zero, hnext]
  · exact State.linkSlot_preferred h0 hl hn hp

theorem linkSlot_error_of {p n : Nat} (h : NoLinkIdFor s p n) : s.linkSlot p = .error n := by
  obtain ⟨rfl, rfl, hf, hp⟩ | ⟨rfl, h0, hl⟩ | ⟨rfl, h0, hl, hn⟩ | ⟨rfl, hl, hn, h1, h2, hc⟩ := h
  · rw [State.linkSlot_zero, LinkTable.nextId_eq_none hf hp]
  · exact (State.linkSlot_refused h0).1 hl
  · exact (State.linkSlot_refused h0).2.1 hl hn
  · exact (State.linkSlot_refused (by omega)).2.2 hl hn h1 h2 hc

/-- A link put into a table, as the statements say it. -/
theorem linkDefined_putLink {u : State} (hu : u.links = s.links) {id : Nat} {e : Lte}
    (ht : t.links = (u.putLink id e).links) : LinkDefined s t id e := by
  have hlink : ∀ n, t.link n = if n = id then some e else s.link n := fun n => by
    have : t.link n = (u.putLink id e).link n := by rw [State.link, ht]; rfl
    rw [this, State.putLink_link, State.link, hu]
    rfl
  have hin : id / 128 = 0 ∨ id / 128 ∈ s.links.pages ↔ s.links.pageAllocated (id / linksPerPage) = true :=
    LinkTable.pageAllocated_iff.symm
  have hpages : t.links.pages = (s.links.allocate (id / linksPerPage)).pages ∧
      t.links.allocatablePageCount = (s.links.allocate (id / linksPerPage)).allocatablePageCount := by
    rw [ht, ← hu]
    exact ⟨rfl, rfl⟩
  refine ⟨by rw [hlink, if_pos rfl], fun n hn => by rw [hlink, if_neg hn], by rw [ht, ← hu]; rfl, by rw [ht, ← hu]; rfl,
    by rw [ht, ← hu]; rfl, fun h => ?_, fun h0 h1 => ?_⟩
  · rw [hpages.1, hpages.2, LinkTable.allocate, if_pos (hin.mp h)]
    exact ⟨rfl, rfl⟩
  · rw [hpages.1, hpages.2, LinkTable.allocate, if_neg fun h => (hin.mpr h).elim h0 h1]
    refine ⟨rfl, ?_⟩
    rw [BitVec.toNat_ofNat, Nat.mod_eq_of_lt]
    have := s.links.allocatablePageCount.isLt
    omega

/-- A deleted link, as the statements say it. -/
theorem State.dropLink_gone (h : s.tablesOk) (id : Nat) : LinkGone s (s.dropLink id) id := by
  refine ⟨?_, fun n hn => ?_, State.dropLink_free id, rfl⟩
  · rw [State.dropLink_link h, if_pos rfl]
  · rw [State.dropLink_link h, if_neg hn]

/-! ### CREATE.LINK and DEL.LINK -/

theorem beNat_readBytes_one (m : List Host.Cell) (a : Addr) : beNat (readBytes m a 1) < 256 := beNat_readBytes_lt m a 1
theorem beNat_readBytes_two (m : List Host.Cell) (a : Addr) : beNat (readBytes m a 2) < 65536 := beNat_readBytes_lt m a 2

/-- The rights of a created link: the block's, but To Hardware (R600). -/
theorem createdRights_getLsbD (r k : Nat) (hk : k < 8) :
    (BitVec.ofNat 8 r &&& 0xFE).getLsbD k = if k = 0 then false else r.testBit k := by
  have hmask : (0xFE : BitVec 8).getLsbD k = decide (k ≠ 0) := by
    revert k
    decide
  rw [BitVec.getLsbD_and, hmask, BitVec.getLsbD_ofNat]
  by_cases h : k = 0 <;> simp [h, hk]

/-- The unassigned statuses (U27). -/
theorem mem_unassignedStatuses {n : Nat} (h : n ∈ unassignedStatuses) :
    n ∈ [13, 16, 19, 20, 22, 24, 25, 26, 27, 33, 35, 44, 53] ∨ (57 ≤ n ∧ n ≤ 135) ∨
      n ∈ [137, 138, 144, 146, 148, 149, 150, 151] := by
  unfold unassignedStatuses at h
  rw [List.mem_append, List.mem_append, List.mem_range'_1] at h
  obtain (h | h) | h := h
  · exact .inl h
  · exact .inr (.inl (by omega))
  · exact .inr (.inr h)

/-- The three fields CREATE.LINK reads first. -/
theorem createLink_fields {x y z : Reg} (h : s.allowedRange .read (lo32 (s.reg y)) 4 = true) :
    let pb := lo32 (s.reg y)
    let i := Instr.createLink x y z
    exec i s = withFunnel i x (beNat (readBytes s.mem pb 1)) s fun _ =>
      if beNat (readBytes s.mem pb 1) = 1 then finishStatus i x s.unnamedStatus s
      else match s.linkSlot (beNat (readBytes s.mem (pb + 2) 2)) with
        | .error status => finishStatus i x status s
        | .ok id =>
          withField i (pb + 8) 2 s fun code =>
          withField i (pb + 10) 6 s fun grail =>
          withStore i (pb + 2) (beBytes 2 id) s fun t => finishStatus i x 0 (t.putLink id
            { toFunnel := BitVec.ofNat 8 (beNat (readBytes s.mem pb 1)),
              rights := BitVec.ofNat 8 (beNat (readBytes s.mem (pb + 1) 1)) &&& 0xFE, toProcess := s.processId,
              versionId := s.versionId, linkCode := BitVec.ofNat 16 code, linkGrail := BitVec.ofNat 48 grail }) := by
  intro pb i
  have h0 : s.allowedRange .read pb 1 = true := State.allowedRange_sub h (j := 0) (by simp [pb]) (by omega)
  have h1 : s.allowedRange .read (pb + 1) 1 = true := State.allowedRange_sub h (j := 1) rfl (by omega)
  have h2 : s.allowedRange .read (pb + 2) 2 = true := State.allowedRange_sub h (j := 2) rfl (by omega)
  exact ((withField_allowed h0).trans ((withField_allowed h1).trans (withField_allowed h2))).trans rfl

/-- Settles O49. -/
theorem linksCreatedAndDeleted : Obligations.LinksCreatedAndDeleted := by
  refine ⟨?_, ?_, ?_⟩
  · intro x y z s fe id pb f r hr hw hf h1 h255 hid
    have h4 : s.allowedRange .read pb 4 = true := State.allowedRange_sub hr (j := 0) (by simp [pb]) (by omega)
    have h8 : s.allowedRange .read (pb + 8) 2 = true := State.allowedRange_sub hr (j := 8) rfl (by omega)
    have h10 : s.allowedRange .read (pb + 10) 6 = true := State.allowedRange_sub hr (j := 10) rfl (by omega)
    have hx := (createLink_fields (x := x) (z := z) h4).trans (withFunnel_some (Nat.lt_of_succ_lt h1) h255 hf)
    rw [if_neg (Nat.ne_of_gt h1), linkSlot_of hid] at hx
    replace hx := hx.trans ((withField_allowed h8).trans ((withField_allowed h10).trans
      (withStore_allowed (by rwa [beBytes_length]))))
    refine ⟨_, _, status_of hx rfl, linkDefined_putLink (u := s.poke (pb + 2) (beBytes 2 id)) rfl rfl, ?_, rfl, rfl,
      fun k hk => createdRights_getLsbD _ k hk, ?_, ?_, rfl⟩
    · exact (BitVec.toNat_ofNat _ _).trans (Nat.mod_eq_of_lt (beNat_readBytes_one _ _))
    · exact (BitVec.toNat_ofNat _ _).trans (Nat.mod_eq_of_lt (beNat_readBytes_two _ _))
    · exact (BitVec.toNat_ofNat _ _).trans (Nat.mod_eq_of_lt (beNat_readBytes_lt _ _ 6))
  · intro x y z s pb f hr
    have hx := createLink_fields (x := x) (z := z) hr
    have hlt : f < 256 := beNat_readBytes_one s.mem pb
    refine ⟨fun h => ?_, fun h hn => ?_, fun h hn n hslot => ?_⟩
    · exact status_of (hx.trans (withFunnel_none (h.imp_right .inr))) rfl
    · obtain ⟨fe, hfe⟩ := Option.ne_none_iff_exists'.mp hn
      rw [← h] at hfe
      exact ⟨_, status_of (hx.trans ((withFunnel_some (by omega) (by omega) hfe).trans (if_pos h))) rfl,
        mem_unassignedStatuses (State.anyOf_mem _ _ (by decide))⟩
    · obtain ⟨fe, hfe⟩ := Option.ne_none_iff_exists'.mp hn
      replace hx := hx.trans (withFunnel_some (Nat.lt_of_succ_lt h) (Nat.le_of_lt_succ hlt) hfe)
      rw [if_neg (Nat.ne_of_gt h), linkSlot_error_of hslot] at hx
      exact status_of hx rfl
  · intro x y z u v s e ht pb id hr h0 hl he
    have hlt : id < 65536 := beNat_readBytes_two s.mem (pb + 2)
    have hlookup : s.lookup id = .ok e := State.lookup_of_link (by omega) hl (by omega) he
    have hx : exec (.delLink x y z u v) s = if e.informOnDelete && !s.owns e then
        finishStatus (.delLink x y z u v) x (s.anyOf .status [0, 36, 47, 55, 39] 0) ((s.dropLink id).notify e 0x08 [])
        else finishStatus (.delLink x y z u v) x 0 (s.dropLink id) := (withField_allowed hr).trans (withLink_ok hlookup)
    have howns : s.owns e = decide (e.toProcess = s.processId) := rfl
    by_cases hq : (e.informOnDelete && !s.owns e) = true
    · rw [if_pos hq] at hx
      rw [Bool.and_eq_true, howns, Bool.not_eq_true', decide_eq_false_iff_not] at hq
      refine ⟨_, _, status_of hx rfl, State.dropLink_gone ht id, fun h => absurd h ?_,
        fun _ _ => ⟨State.anyOf_mem _ _ (by decide), _, rfl, rfl, rfl, Lte.message_labelled e 8 [] none⟩, rfl⟩
      rintro (h | h)
      · exact hq.2 h
      · exact Bool.false_ne_true (h.symm.trans hq.1)
    · rw [if_neg hq] at hx
      refine ⟨_, _, status_of hx rfl, State.dropLink_gone ht id, fun _ => ⟨rfl, rfl⟩, fun h h' => absurd ?_ hq, rfl⟩
      rw [howns, decide_eq_false h, Bool.not_false, Bool.and_true]
      exact h'


/-! ### SEND -/

/-- A send to another process that changes nothing else: the message leaves with one of the statuses. -/
theorem left_of {x : Reg} {l : List Nat} {e : Lte} {m : Message} (h : exec i s = sendMessage i x l e m id 0 s)
    (he : e.toProcess ≠ s.processId) (hl : l ≠ []) :
    ∃ k ∈ l, Status i x k s { s with outputs := s.outputs ++ [.send e m] } := by
  obtain ⟨k, hk, h0, h1⟩ := away_of h rfl rfl he hl
  refine ⟨k, hk, ?_⟩
  by_cases hz : k = 0
  · subst hz
    exact h0 rfl
  · exact h1 hz

theorem openFunnel_ne_none {f : Nat} {e : Funnel} (h : s.openFunnel f = some e) : s.openFunnel f ≠ none := by
  rw [h]
  exact Option.some_ne_none e

theorem send_link {x y z t v : Reg} (h0 : s.allowedRange .read (lo32 (s.reg y) + 2) 2 = true) :
    exec (.send x y z t v) s = withData (.send x y z t v) x y z t v 888 s fun d =>
      withLink (.send x y z t v) x 0 (beNat (readBytes s.mem (lo32 (s.reg y) + 2) 2)) s fun e =>
        sendMessage (.send x y z t v) x sendStatuses e (e.message 0 s.processId d none) id 0 s := withField_allowed h0

/-- Settles O50. -/
theorem send : Obligations.Send := by
  intro x y z t v s e pb n1 n2 d h0 hz hv hlen h1 h2 hl
  have hx : exec (.send x y z t v) s = sendMessage (.send x y z t v) x sendStatuses e (e.message 0 s.processId d none) id 0 s :=
    (send_link h0).trans ((withData_ok hz hv hlen h1 h2).trans (withLink_ok hl))
  refine ⟨_, rfl, rfl, e.message_labelled 0 d none, fun fe hp hver ho hf => ?_, fun fe hp hver ho hf => ?_, fun hp => ?_⟩
  · exact ((turnedAway_of hx rfl rfl rfl rfl rfl (by decide) hp).2 hver).2 (openFunnel_ne_none ho) hf
  · exact delivered_of hx rfl rfl hp hver (openFunnel_ne_none ho) hf ho
  · exact left_of hx hp (by decide)

theorem sendSmallMsg_found {x y z : Reg} {e : Lte} (hp : s.params.impl80E = true) (he : s.lookup (s.reg y).toNat = .ok e) :
    exec (.sendSmallMsg x y z) s = sendMessage (.sendSmallMsg x y z) x sendStatuses e
      (e.message 0x10 s.processId (lowBytes 4 (s.reg z)) none) id 0 s := (if_pos hp).trans (withLink_ok he)

/-! ### Refusals -/

theorem lookup_cases (s : State) (id : Nat) :
    (id = 0 → s.lookup id = .error 45) ∧
    (0 < id → (s.links.limit < id ∨ 65535 < id) → s.lookup id = .error 43) ∧
    (0 < id → id ≤ s.links.limit → id ≤ 65535 → s.link id = none →
      (id / 128 = 0 ∨ id / 128 ∈ s.links.pages → s.lookup id = .error 40) ∧
      (id / 128 ≠ 0 → id / 128 ∉ s.links.pages →
        (s.links.canAllocate = true → s.lookup id = .error 41) ∧
        (s.links.canAllocate = false → s.lookup id = .error 42))) ∧
    (∀ e, 0 < id → id ≤ s.links.limit → id ≤ 65535 → s.link id = some e → s.lookup id = .ok e) := by
  refine ⟨fun h => if_pos h, fun h0 h => ?_, fun h0 hl hi hn => ⟨fun hp => ?_, fun h1 h2 => ?_⟩,
    fun e h0 hl hi he => State.lookup_of_link (by omega) hl hi he⟩
  · rw [State.lookup, if_neg (by omega), if_pos h]
  · rw [State.lookup, if_neg (by omega), if_neg (by omega), if_pos ((State.allocated_iff hn).mpr hp), hn]
  · have ha : ¬ s.links.allocated id = true := fun ha => ((State.allocated_iff hn).mp ha).elim h1 h2
    rw [State.lookup, if_neg (by omega), if_neg (by omega), if_neg ha]
    exact ⟨fun hc => by rw [if_pos hc], fun hc => by rw [hc]; rfl⟩

/-- COPY.LINK and PASS.LINK, once the two IDs are read. -/
theorem shareLink_fields {x y z t v : Reg} {can inform : Lte → Bool} {type : BitVec 8} {after : Nat → State → State}
    (h0 : s.allowedRange .read (lo32 (s.reg y) + 2) 2 = true) (h1 : s.allowedRange .read (lo32 (s.reg y) + 6) 2 = true) :
    shareLink i x y z t v can inform type after s =
      withData i x y z t v 672 s fun d =>
      withLink i x 0 (beNat (readBytes s.mem (lo32 (s.reg y) + 2) 2)) s fun e1 =>
      withLink i x 100 (beNat (readBytes s.mem (lo32 (s.reg y) + 6) 2)) s fun e2 =>
      if can e2 then
        sendMessage i x sendStatuses e1 (e1.message 1 s.processId d (some e2))
          (fun u => if inform e2 && !s.owns e2 then
              (after (beNat (readBytes s.mem (lo32 (s.reg y) + 6) 2)) u).notify e2 type (processBytes e1.toProcess)
            else after (beNat (readBytes s.mem (lo32 (s.reg y) + 6) 2)) u)
          (if inform e2 && !s.owns e2 then s.anyOf .status [0, 5, 136, 147, 152, 139] 0 else 0) s
      else finishStatus i x 51 s := (withField_allowed h0).trans (withField_allowed h1)

theorem shareLink_refusals {x y z t v : Reg} {can inform : Lte → Bool} {type : BitVec 8} {after : Nat → State → State}
    {k : Nat} (hx : exec i s = shareLink i x y z t v can inform type after s)
    (hcan : ∀ e : Lte, can e = e.rights.getLsbD k)
    (h0 : s.allowedRange .read (lo32 (s.reg y) + 2) 2 = true) (h1 : s.allowedRange .read (lo32 (s.reg y) + 6) 2 = true) :
    ((s.reg z).toInt < 0 ∨ (s.reg v).toInt < 0 → Status i x 46 s s) ∧
    (0 ≤ (s.reg z).toInt → 0 ≤ (s.reg v).toInt →
      (672 < (s.reg z).toInt + (s.reg v).toInt → Status i x 6 s s) ∧
      ((s.reg z).toInt + (s.reg v).toInt ≤ 672 → s.allowedRange .read (lo32 (s.reg y) + 16) (s.reg z).toInt.toNat = true ∧
          s.allowedRange .read (lo32 (s.reg t)) (s.reg v).toInt.toNat = true →
        (∀ n, s.lookup (beNat (readBytes s.mem (lo32 (s.reg y) + 2) 2)) = .error n → Status i x n s s) ∧
        (∀ e1, s.lookup (beNat (readBytes s.mem (lo32 (s.reg y) + 2) 2)) = .ok e1 →
          (∀ n, s.lookup (beNat (readBytes s.mem (lo32 (s.reg y) + 6) 2)) = .error n → Status i x (n + 100) s s) ∧
          (∀ e2, s.lookup (beNat (readBytes s.mem (lo32 (s.reg y) + 6) 2)) = .ok e2 → e2.rights.getLsbD k = true →
            TurnedAway i x [37, 38, 39] e1 s s)))) := by
  replace hx := hx.trans (shareLink_fields h0 h1)
  refine ⟨fun h => status_of (hx.trans (withData_negative h)) rfl, fun hz hv =>
    ⟨fun h => status_of (hx.trans (withData_long hz hv h)) rfl, fun h hr => ?_⟩⟩
  replace hx := hx.trans (withData_ok hz hv h hr.1 hr.2)
  refine ⟨fun n hn => status_of (hx.trans (withLink_error hn)) rfl, fun e1 he1 => ⟨fun n hn => ?_, fun e2 he2 hk => ?_⟩⟩
  · exact status_of (hx.trans ((withLink_ok he1).trans (withLink_error hn))) rfl
  · exact turnedAway_of (hx.trans ((withLink_ok he1).trans ((withLink_ok he2).trans (if_pos ((hcan e2).trans hk))))) rfl rfl
      rfl rfl rfl (by decide)

theorem forwardMsg_fields {x y z : Reg} (hp : s.params.impl80A = true)
    (h : s.allowedRange .read (lo32 (s.reg y)) 4 = true) :
    let i := Instr.forwardMsg x y z
    exec i s = withHead i x (beNat (readBytes s.mem (lo32 (s.reg y)) 1)) s fun fe m =>
      if m.link.isSome then finishStatus i x 28 s
      else withLink i x 0 (beNat (readBytes s.mem (lo32 (s.reg y) + 2) 2)) s fun e =>
        if e.canForward then forwardOn i x sendStatuses (beNat (readBytes s.mem (lo32 (s.reg y)) 1)) fe m e none s
        else finishStatus i x 23 s :=
  (if_pos hp).trans ((withField_allowed (State.allowedRange_sub h (j := 0) (by simp) (by omega))).trans
    (withField_allowed (State.allowedRange_sub h (j := 2) rfl (by omega))))

/-- EXCH.LINK.FORWARD of a message, once the link is found. -/
def exchangeMessage (i : Instr) (x y : Reg) (f : Nat) (fe : Funnel) (m : Message) (e1 : Lte) (s : State) : Res :=
  if e1.canForward then
    match m.link with
    | none => forwardOn i x exchangeStatuses f fe m e1 none s
    | some l =>
      match s.placeLink (lo32 (s.reg y) + 4) l with
      | none => accessViolation i s
      | some o =>
        if o.keep then finishStatus i x o.status s
        else withField i (lo32 (s.reg y) + 6) 2 s fun id2 =>
          withLink i x 100 id2 o.state fun e2 =>
          if e2.canPass || e2.canCopy then forwardOn i x exchangeStatuses f fe m e1 (some e2) o.state
          else finishStatus i x 51 o.state
  else finishStatus i x 23 s

theorem exchangeMessage_noLink {x y : Reg} {f : Nat} {fe : Funnel} {m : Message} {e : Lte}
    (hr : e.rights.getLsbD 1 = true) (hm : m.link = none) :
    exchangeMessage i x y f fe m e s = sendMessage i x exchangeStatuses e (s.forwarded e m none) (fun u => u.dequeue f fe) 0 s := by
  rw [exchangeMessage, if_pos (show e.canForward = true from hr), hm]
  rfl

theorem exchangeMessage_refused {x y : Reg} {f n : Nat} {fe : Funnel} {m : Message} {e l : Lte}
    (hr : e.rights.getLsbD 1 = true) (hm : m.link = some l) (ha : s.allowedRange .read (lo32 (s.reg y) + 4) 2 = true)
    (hn : s.linkSlot (beNat (readBytes s.mem (lo32 (s.reg y) + 4) 2)) = .error n) :
    exchangeMessage i x y f fe m e s = finishStatus i x n s := by
  rw [exchangeMessage, if_pos (show e.canForward = true from hr), hm]
  simp only [State.placeLink, State.loadNat_of_allowed ha, Option.bind_some, hn]
  rfl

/-- The state in which a received link is placed and its ID written back. -/
def State.placed (s : State) (a : Addr) (id : Nat) (l : Lte) : State := (s.putLink id l).poke a (beBytes 2 id)

theorem State.placeLink_of_slot {a : Addr} {id : Nat} {l : Lte} (ha : s.allowedRange .read a 2 = true)
    (hw : s.allowedRange .write a 2 = true) (hn : s.linkSlot (beNat (readBytes s.mem a 2)) = .ok id) :
    s.placeLink a l = some { status := 0, keep := false, state := s.placed a id l } := by
  have hw' : (s.putLink id l).allowedRange .write a (beBytes 2 id).length = true := by
    rw [beBytes_length]
    exact (State.allowedRange_congr (s := s) (t := s.putLink id l) rfl _ _ _).trans hw
  simp only [State.placeLink, State.loadNat_of_allowed ha, Option.bind_some, hn, State.store_of_allowed hw', Option.map_some]
  rfl

theorem exchangeMessage_placed {x y : Reg} {f id : Nat} {fe : Funnel} {m : Message} {e l : Lte}
    (hr : e.rights.getLsbD 1 = true) (hm : m.link = some l) (ha : s.allowedRange .read (lo32 (s.reg y) + 4) 2 = true)
    (hw : s.allowedRange .write (lo32 (s.reg y) + 4) 2 = true) (hb : s.allowedRange .read (lo32 (s.reg y) + 6) 2 = true)
    (hn : s.linkSlot (beNat (readBytes s.mem (lo32 (s.reg y) + 4) 2)) = .ok id) :
    exchangeMessage i x y f fe m e s =
      withLink i x 100 (beNat (readBytes s.mem (lo32 (s.reg y) + 6) 2)) (s.placed (lo32 (s.reg y) + 4) id l) fun e2 =>
        if e2.canPass || e2.canCopy then
          forwardOn i x exchangeStatuses f fe m e (some e2) (s.placed (lo32 (s.reg y) + 4) id l)
        else finishStatus i x 51 (s.placed (lo32 (s.reg y) + 4) id l) := by
  rw [exchangeMessage, if_pos (show e.canForward = true from hr), hm]
  simp only [State.placeLink_of_slot ha hw hn, withField_allowed hb]
  rfl

theorem exchLinkForward_fields {x y z : Reg} (hp : s.params.impl809 = true)
    (h : s.allowedRange .read (lo32 (s.reg y)) 4 = true) :
    let i := Instr.exchLinkForward x y z
    exec i s = withHead i x (beNat (readBytes s.mem (lo32 (s.reg y)) 1)) s fun fe m =>
      withLink i x 0 (beNat (readBytes s.mem (lo32 (s.reg y) + 2) 2)) s fun e1 =>
        exchangeMessage i x y (beNat (readBytes s.mem (lo32 (s.reg y)) 1)) fe m e1 s := by
  have h2 : s.allowedRange .read (lo32 (s.reg y) + 2) 2 = true := State.allowedRange_sub h (j := 2) rfl (by omega)
  refine (if_pos hp).trans ((withField_allowed (State.allowedRange_sub h (j := 0) (by simp) (by omega))).trans ?_)
  simp only [withField_allowed h2]
  rfl

/-- Settles O51. -/
theorem sendRefusals : Obligations.SendRefusals := by
  refine ⟨lookup_cases, ?_, ?_, ?_⟩
  · intro x y z t v s pb n1 n2 found second readable h0
    have hsend := send_link (x := x) (z := z) (t := t) (v := v) h0
    refine ⟨fun n hn => ?_, fun h => ?_, fun hz hv => ⟨fun h => ?_, fun h hr => ⟨fun n hn => ?_, fun e he => ?_⟩⟩,
      fun h1 p hp => ?_⟩
    · exact status_of ((withField_allowed h0).trans (withLink_error hn)) rfl
    · exact status_of (hsend.trans (withData_negative h)) rfl
    · exact status_of (hsend.trans (withData_long hz hv h)) rfl
    · exact status_of (hsend.trans ((withData_ok hz hv h hr.1 hr.2).trans (withLink_error hn))) rfl
    · exact turnedAway_of (hsend.trans ((withData_ok hz hv h hr.1 hr.2).trans (withLink_ok he))) rfl rfl rfl rfl rfl
        (by decide)
    · simp only [List.mem_cons, List.not_mem_nil, or_false] at hp
      obtain rfl | rfl := hp
      · exact shareLink_refusals (can := Lte.canCopy) (k := 2) rfl (fun _ => rfl) h0 h1
      · exact shareLink_refusals (can := Lte.canPass) (k := 3) rfl (fun _ => rfl) h0 h1
  · intro x y z s found
    refine ⟨fun n hn => status_of (withLink_error hn) rfl, fun e he h => ?_, fun hp =>
      ⟨fun n hn => status_of ((if_pos hp).trans (withLink_error hn)) rfl, fun e he => ?_⟩⟩
    · exact status_of ((withLink_ok he).trans (if_neg (by rw [Lte.toHardware, Lte.right, h]; decide))) rfl
    · exact turnedAway_of (sendSmallMsg_found hp he) rfl rfl rfl rfl rfl (by decide)
  · intro x y z s pb f found h p hp himpl
    have hlt : f ≤ 255 := Nat.le_of_lt_succ (beNat_readBytes_one s.mem pb)
    simp only [List.mem_cons, List.not_mem_nil, or_false] at hp
    obtain rfl | rfl := hp
    · have hx := forwardMsg_fields (x := x) (z := z) himpl h
      refine ⟨fun hf => ?_, fun fe hpos hf => ⟨fun hq => ?_, fun m hm => ⟨fun hl _ => ?_, fun hl => ?_⟩⟩⟩
      · exact status_of (hx.trans (withFunnel_none (hf.imp_right .inr))) rfl
      · exact status_of (hx.trans (withHead_empty hpos hlt hf hq)) rfl
      · exact status_of (hx.trans ((withHead_some hpos hlt hf hm).trans (if_pos (Option.isSome_iff_ne_none.mpr hl)))) rfl
      · have hnone : m.link = none := hl.resolve_right (by simp)
        replace hx := hx.trans ((withHead_some hpos hlt hf hm).trans (if_neg (by rw [hnone]; decide)))
        refine ⟨fun n hn => status_of (hx.trans (withLink_error hn)) rfl, fun e he hr => ?_, fun e he hr _ => ?_⟩
        · exact status_of (hx.trans ((withLink_ok he).trans (if_neg (by rw [Lte.canForward, Lte.right, hr]; decide)))) rfl
        · exact turnedAway_of (hx.trans ((withLink_ok he).trans (if_pos hr))) rfl rfl rfl rfl rfl (by decide)
    · have hx := exchLinkForward_fields (x := x) (z := z) himpl h
      refine ⟨fun hf => ?_, fun fe hpos hf => ⟨fun hq => ?_, fun m hm => ⟨fun _ h => by simp at h, fun _ => ?_⟩⟩⟩
      · exact status_of (hx.trans (withFunnel_none (hf.imp_right .inr))) rfl
      · exact status_of (hx.trans (withHead_empty hpos hlt hf hq)) rfl
      · replace hx := hx.trans (withHead_some hpos hlt hf hm)
        refine ⟨fun n hn => status_of (hx.trans (withLink_error hn)) rfl, fun e he hr => ?_, fun e he hr hnone => ?_⟩
        · exact status_of (hx.trans ((withLink_ok he).trans (if_neg (by rw [Lte.canForward, Lte.right, hr]; decide)))) rfl
        · exact turnedAway_of (hx.trans ((withLink_ok he).trans (exchangeMessage_noLink hr hnone))) rfl rfl rfl rfl rfl
            (by decide)

/-! ### COPY.LINK and PASS.LINK -/

/-- The notification that follows a shared link. -/
def noticeOf (s : State) (e1 e2 : Lte) (tell : Bool) (type : BitVec 8) : List OutEvent :=
  if tell then [.send e2 (e2.message type s.processId (processBytes e1.toProcess) none)] else []

/-- Its status. -/
def noticeStatus (s : State) (tell : Bool) : Nat := if tell then s.anyOf .status [0, 5, 136, 147, 152, 139] 0 else 0

theorem noticeStatus_mem (s : State) (tell : Bool) : noticeStatus s tell ∈ [0, 5, 136, 147, 152, 139] := by
  unfold noticeStatus
  split
  · exact State.anyOf_mem _ _ (by decide)
  · decide

theorem notice_of {e1 e2 : Lte} {tell : Bool} {p : Prop} (hp : tell = true ↔ p) (type : BitVec 8) :
    Notice s e1 e2 p type (noticeStatus s tell) (noticeOf s e1 e2 tell type) := by
  unfold noticeStatus noticeOf
  refine ⟨fun h => ?_, fun h => ?_⟩
  · rw [if_neg (mt hp.mp h), if_neg (mt hp.mp h)]
    exact ⟨rfl, rfl⟩
  · rw [if_pos (hp.mpr h), if_pos (hp.mpr h)]
    exact ⟨State.anyOf_mem _ _ (by decide), _, rfl, rfl, rfl, e2.message_labelled type _ none⟩

/-- The changes of a shared link. -/
def shared (s : State) (e1 e2 : Lte) (tell : Bool) (type : BitVec 8) (u : State) : State :=
  { u with outputs := u.outputs ++ noticeOf s e1 e2 tell type }

theorem notify_eq_shared {u : State} {e1 e2 : Lte} {tell : Bool} {type : BitVec 8} (hu : u.processId = s.processId) :
    (if tell then u.notify e2 type (processBytes e1.toProcess) else u) = shared s e1 e2 tell type u := by
  cases tell with
  | false => simp [shared, noticeOf]
  | true =>
    simp only [if_true, shared, noticeOf, State.notify, State.emit, hu]

/-- What COPY.LINK and PASS.LINK come to with the right to share the link. -/
theorem shareLink_send {x y z t v : Reg} {can inform : Lte → Bool} {type : BitVec 8} {after : Nat → State → State}
    {e1 e2 : Lte} (hx : exec i s = shareLink i x y z t v can inform type after s)
    (hafter : ∀ n u, (after n u).processId = u.processId)
    (h0 : s.allowedRange .read (lo32 (s.reg y) + 2) 6 = true) (hz : 0 ≤ (s.reg z).toInt) (hv : 0 ≤ (s.reg v).toInt)
    (hlen : (s.reg z).toInt + (s.reg v).toInt ≤ 672)
    (h1 : s.allowedRange .read (lo32 (s.reg y) + 16) (s.reg z).toInt.toNat = true)
    (h2 : s.allowedRange .read (lo32 (s.reg t)) (s.reg v).toInt.toNat = true)
    (he1 : s.lookup (beNat (readBytes s.mem (lo32 (s.reg y) + 2) 2)) = .ok e1)
    (he2 : s.lookup (beNat (readBytes s.mem (lo32 (s.reg y) + 6) 2)) = .ok e2) :
    (can e2 = true → ∃ ok : State → State,
      (∀ u, u.processId = s.processId → ok u = shared s e1 e2 (inform e2 && !s.owns e2) type
        (after (beNat (readBytes s.mem (lo32 (s.reg y) + 6) 2)) u)) ∧
      exec i s = sendMessage i x sendStatuses e1 (e1.message 1 s.processId (s.twoBlocks y z t v) (some e2)) ok
        (noticeStatus s (inform e2 && !s.owns e2)) s) ∧
    (can e2 = false → Status i x 51 s s) := by
  have ha : s.allowedRange .read (lo32 (s.reg y) + 2) 2 = true := State.allowedRange_sub h0 (j := 0) (by simp) (by omega)
  have hb : s.allowedRange .read (lo32 (s.reg y) + 6) 2 = true :=
    State.allowedRange_sub h0 (j := 4) (by rw [BitVec.add_assoc]; rfl) (by omega)
  replace hx := hx.trans ((shareLink_fields ha hb).trans ((withData_ok hz hv hlen h1 h2).trans ((withLink_ok he1).trans
    (withLink_ok he2))))
  refine ⟨fun h => ⟨_, fun u hu => ?_, hx.trans (if_pos h)⟩, fun h => status_of (hx.trans (if_neg (by rw [h]; decide))) rfl⟩
  exact notify_eq_shared ((hafter _ _).trans hu)

theorem mem_failures {k : Nat} (h : k ∈ sendStatuses) (h0 : k ≠ 0) : k ∈ [36, 47, 37, 38, 39, 48, 52, 54, 55, 56] :=
  (List.mem_cons.mp h).resolve_left h0

/-- On a link to another process the message leaves; with status 0 the notification follows, and the link is kept or given
up. -/
theorem shareLink_away {x : Reg} {type : BitVec 8} {after : State → State} {e1 e2 : Lte} {tell : Bool}
    {p : Prop} {ok : State → State} {d : List Byte} (hp : tell = true ↔ p)
    (hafter : ∀ u e, (after (State.emit u e)) = (after u).emit e ∧ (after u).pc = u.pc ∧
      (after u).outputs = u.outputs)
    (hok : ∀ u, u.processId = s.processId → ok u = shared s e1 e2 tell type (after u))
    (hx : exec i s = sendMessage i x sendStatuses e1 (e1.message 1 s.processId d (some e2)) ok (noticeStatus s tell) s)
    (he : e1.toProcess ≠ s.processId) : ∃ (n : Nat) (l : List OutEvent) (u : State),
      Shares s e1 e2 d p type n l ∧ Status i x n s u ∧
      ((n ∈ [36, 47, 37, 38, 39, 48, 52, 54, 55, 56] ∧ u = { s with outputs := s.outputs ++ l }) ∨
        (n ∈ [0, 5, 136, 147, 152, 139] ∧ u = { after s with outputs := s.outputs ++ l })) := by
  have hcarries : Carries s e1 e2 d (e1.message 1 s.processId d (some e2)) := ⟨rfl, rfl, e1.message_labelled 1 d _⟩
  obtain ⟨hemit, hpc, hout⟩ := hafter s (.send e1 (e1.message 1 s.processId d (some e2)))
  have hend := hok (s.emit (.send e1 (e1.message 1 s.processId d (some e2)))) rfl
  rw [hemit] at hend
  obtain ⟨k, hk, h0, h1⟩ := away_of hx rfl (by rw [hend]; exact hpc) he (by decide)
  by_cases hz : k = 0
  · refine ⟨_, _, _, ⟨_, _, hcarries, .inr ⟨notice_of hp type, rfl⟩⟩, h0 hz, .inr ⟨noticeStatus_mem _ _, ?_⟩⟩
    rw [hend, shared, State.emit, hout, List.append_assoc]
    rfl
  · exact ⟨_, _, _, ⟨_, [], hcarries, .inl ⟨mem_failures hk hz, rfl⟩⟩, h1 hz, .inl ⟨mem_failures hk hz, rfl⟩⟩

/-- Settles O52. -/
theorem shareLinks : Obligations.ShareLinks := by
  intro x y z t v s e1 e2 ht pb n1 n2 id2 d other h0 hz hv hlen h1 h2 he1 he2
  obtain ⟨copyOk, copyNot⟩ := shareLink_send (i := .copyLink x y z t v) rfl (fun _ _ => rfl) h0 hz hv hlen h1 h2 he1 he2
  obtain ⟨passOk, passNot⟩ := shareLink_send (i := .passLink x y z t v) rfl (fun _ _ => rfl) h0 hz hv hlen h1 h2 he1 he2
  have hcopy : (e2.informOnCopy && !s.owns e2) = true ↔ e2.rights.getLsbD 5 = true ∧ other := by
    simp [Lte.informOnCopy, Lte.right, State.owns, other]
  have hpass : (e2.informOnPass && !s.owns e2) = true ↔ e2.rights.getLsbD 6 = true ∧ other := by
    simp [Lte.informOnPass, Lte.right, State.owns, other]
  refine ⟨fun hr he => ?_, fun hr he => ?_, fun fe he hver ho hf => ⟨fun hr => ?_, fun hr => ?_⟩, copyNot, passNot⟩
  · obtain ⟨ok, hok, hx⟩ := copyOk hr
    obtain ⟨n, l, u, hs, hst, hu⟩ := shareLink_away (after := fun u => u) hcopy
      (fun u e => ⟨rfl, rfl, rfl⟩) hok hx he
    have hu : u = { s with outputs := s.outputs ++ l } := hu.elim And.right And.right
    exact ⟨n, l, hs, hu ▸ hst⟩
  · obtain ⟨ok, hok, hx⟩ := passOk hr
    obtain ⟨n, l, u, hs, hst, ⟨hn, rfl⟩ | ⟨hn, rfl⟩⟩ := shareLink_away (after := fun u => u.dropLink id2)
      hpass (fun u e => ⟨rfl, rfl, rfl⟩) hok hx he
    · refine ⟨n, l, _, hs, hst, rfl, fun _ => rfl, fun hm => ?_⟩
      simp only [List.mem_cons, List.not_mem_nil, or_false] at hn hm
      omega
    · refine ⟨n, l, _, hs, hst, rfl, fun hm => ?_, fun _ => State.dropLink_gone ht id2⟩
      simp only [List.mem_cons, List.not_mem_nil, or_false] at hn hm
      omega
  · obtain ⟨ok, hok, hx⟩ := copyOk hr
    have hend := hok s rfl
    have hd := delivered_of (fe := fe) hx rfl (by rw [hend]; rfl) he hver (openFunnel_ne_none ho) hf (by rw [hend]; exact ho)
    rw [hend] at hd
    exact ⟨_, _, _, ⟨rfl, rfl, e1.message_labelled 1 d _⟩, notice_of hcopy _, hd⟩
  · obtain ⟨ok, hok, hx⟩ := passOk hr
    have hend := hok s rfl
    have hd := delivered_of (fe := fe) hx rfl (by rw [hend]; rfl) he hver (openFunnel_ne_none ho) hf (by rw [hend]; exact ho)
    rw [hend] at hd
    refine ⟨_, _, _, shared s e1 e2 (e2.informOnPass && !s.owns e2) 2 (s.dropLink id2),
      ⟨rfl, rfl, e1.message_labelled 1 d _⟩, notice_of hpass _, rfl, State.dropLink_gone ht id2, ?_, hd⟩
    exact ⟨Assoc.sorted_erase _ ht.1, ht.2⟩


/-! ### Forwarded messages -/

theorem openFunnel_of_dequeue {f g : Nat} {fe ge : Funnel} (hf : s.funnel f = some fe)
    (h : (s.dequeue f fe).openFunnel g = some ge) : s.openFunnel g ≠ none := by
  obtain ⟨he, hg⟩ := State.openFunnel_some h
  have he : s.funnelEnabled g = true := he
  rw [State.openFunnel, if_pos he]
  rw [State.dequeue_funnel] at hg
  split at hg
  · next hgf => rw [hgf, hf]; exact Option.some_ne_none fe
  · rw [hg]; exact Option.some_ne_none ge

theorem forwarded_fields (e : Lte) (m : Message) (l : Option Lte) :
    let k := s.forwarded e m l
    k.data = m.data ∧ k.link = l ∧ k.rci.extractLsb' 48 16 = e.linkCode ∧ k.rci.extractLsb' 40 8 = e.toFunnel ∧
      k.rci.getLsbD 32 = l.isSome ∧ k.rci.extractLsb' 0 16 = BitVec.ofNat 16 m.data.length :=
  ⟨rfl, rfl, mkRci_code .., mkRci_funnel .., State.forwarded_link e m l, mkRci_length ..⟩

/-- A forwarded message to another process: with status 0 the original leaves its funnel. -/
theorem forward_away {x : Reg} {l : List Nat} {f : Nat} {fe : Funnel} {e : Lte} {m : Message}
    (h : exec i s = sendMessage i x l e m (fun u => u.dequeue f fe) 0 t) (hpc : t.pc = s.pc) (he : e.toProcess ≠ t.processId)
    (hl : l ≠ []) : ∃ n ∈ l, Status i x n s ((if n = 0 then t.dequeue f fe else t).emit (.send e m)) := by
  obtain ⟨k, hk, h0, h1⟩ := away_of h hpc rfl he hl
  refine ⟨k, hk, ?_⟩
  by_cases hz : k = 0
  · rw [if_pos hz, hz]
    exact h0 hz
  · rw [if_neg hz]
    exact h1 hz

/-- Settles O53. -/
theorem registerSendsAndForwards : Obligations.RegisterSendsAndForwards := by
  refine ⟨fun x y z s e hl => ⟨fun hr => ?_, fun hp => ?_⟩, ?_, ?_⟩
  · exact ⟨_, State.anyOf_mem _ _ (by decide), status_of ((withLink_ok hl).trans (if_pos hr)) rfl⟩
  · have hx := sendSmallMsg_found (x := x) (z := z) hp hl
    exact ⟨_, rfl, rfl, e.message_labelled 0x10 _ none, fun he => left_of hx he (by decide), fun fe he hv ho hf =>
      delivered_of hx rfl rfl he hv (openFunnel_ne_none ho) hf ho⟩
  · intro x y z s fe m e pb f h hf h0 h255 hm hnone hl hr
    have hfwd : s.params.impl80A = true → exec (.forwardMsg x y z) s = sendMessage (.forwardMsg x y z) x sendStatuses e
        (s.forwarded e m none) (fun u => u.dequeue f fe) 0 s := fun hp =>
      (forwardMsg_fields hp h).trans ((withHead_some h0 h255 hf hm).trans ((if_neg (by rw [hnone]; decide)).trans
        ((withLink_ok hl).trans (if_pos hr))))
    have hexch : s.params.impl809 = true → exec (.exchLinkForward x y z) s = sendMessage (.exchLinkForward x y z) x
        exchangeStatuses e (s.forwarded e m none) (fun u => u.dequeue f fe) 0 s := fun hp =>
      (exchLinkForward_fields hp h).trans ((withHead_some h0 h255 hf hm).trans ((withLink_ok hl).trans
        (exchangeMessage_noLink hr hnone)))
    obtain ⟨hdata, hlink, hcode, hfun, hbit, hlen⟩ := forwarded_fields (s := s) e m none
    refine ⟨_, hdata, hlink, hcode, hfun, hbit, hlen, fun he => ⟨fun hp => ?_, fun hp => ?_⟩, fun ge he hv hfull ho =>
      ⟨fun hp => ?_, fun hp => ?_⟩⟩
    · exact forward_away (hfwd hp) rfl he (by decide)
    · exact forward_away (hexch hp) rfl he (by decide)
    · exact delivered_of (hfwd hp) rfl rfl he hv (openFunnel_of_dequeue hf ho) hfull ho
    · exact delivered_of (hexch hp) rfl rfl he hv (openFunnel_of_dequeue hf ho) hfull ho
  · intro x y z s fe m l e i pb f pref id2 hp h hf h0 hm hlink hl hr
    have h4 : s.allowedRange .read pb 4 = true := State.allowedRange_sub h (j := 0) (by simp [pb]) (by omega)
    have ha : s.allowedRange .read (pb + 4) 2 = true := State.allowedRange_sub h (j := 4) rfl (by omega)
    have hb : s.allowedRange .read (pb + 6) 2 = true := State.allowedRange_sub h (j := 6) rfl (by omega)
    have hx := (exchLinkForward_fields (x := x) (z := z) hp h4).trans ((withHead_some h0
      (Nat.le_of_lt_succ (beNat_readBytes_one s.mem pb)) hf hm).trans (withLink_ok hl))
    refine ⟨fun n hn => status_of (hx.trans (exchangeMessage_refused hr hlink ha (linkSlot_error_of hn))) rfl,
      fun id hid hw => ⟨s.placed (pb + 4) id l, linkDefined_putLink (u := s) rfl rfl, rfl, ?_⟩⟩
    replace hx := hx.trans (exchangeMessage_placed hr hlink ha hw hb (linkSlot_of hid))
    refine ⟨fun n hn => status_of (hx.trans (withLink_error hn)) rfl, fun e2 he2 => ⟨fun h2 h3 => ?_, fun hcan => ?_⟩⟩
    · refine status_of (hx.trans ((withLink_ok he2).trans (if_neg ?_))) rfl
      rw [Lte.canPass, Lte.canCopy, Lte.right, Lte.right, h2, h3]
      decide
    · have hcan : (e2.canPass || e2.canCopy) = true := by
        rw [Bool.or_eq_true]
        exact hcan.symm
      replace hx := hx.trans ((withLink_ok he2).trans (if_pos hcan))
      obtain ⟨hdata, hlink, hcode, hfun, hbit, hlen⟩ := forwarded_fields (s := s.placed (pb + 4) id l) e m (some e2)
      exact ⟨turnedAway_of hx rfl rfl rfl rfl rfl (by decide), _, hdata, hlink, hcode, hfun, hbit, hlen,
        fun he => forward_away hx rfl he (by decide),
        fun ge he hv hfull ho => delivered_of hx rfl rfl he hv (openFunnel_of_dequeue (s := s.placed (pb + 4) id l) hf ho) hfull ho⟩

/-! ### Table entries in registers (R46, R47, R51, R52) -/

theorem getMsbD_zero_append {n m : Nat} (a : BitVec n) (b : BitVec m) (h : 0 < n) :
    (a ++ b).getMsbD 0 = a.getMsbD 0 := by
  rw [BitVec.getMsbD_append, if_neg (by omega)]

theorem one_getMsbD_zero : (1#1).getMsbD 0 = true := rfl
theorem zero_getMsbD_zero : (0#1).getMsbD 0 = false := rfl
theorem ofBool_getMsbD_zero (b : Bool) : (BitVec.ofBool b).getMsbD 0 = b := by cases b <;> rfl

theorem fteEntry0_fields (f : Nat) (e : Funnel) :
    (s.fteEntry0 f e).getMsbD 0 = true ∧ (s.fteEntry0 f e).extractLsb' 56 4 = BitVec.ofNat 4 e.channel.val ∧
      (s.fteEntry0 f e).extractLsb' 48 8 = BitVec.ofNat 8 (if e.queue.isEmpty then 0 else s.nextOf f e.channel) ∧
      (s.fteEntry0 f e).extractLsb' 32 16 = BitVec.ofNat 16 e.queue.length ∧
      (s.fteEntry0 f e).extractLsb' 0 32 = e.vector := by
  unfold State.fteEntry0
  refine ⟨?_, ?_, ?_, ?_, ?_⟩ <;>
    simp (disch := decide) only [getMsbD_zero_append, one_getMsbD_zero, BitVec.extractLsb'_append_eq_of_le, BitVec.extractLsb'_append_eq_of_add_le,
      Nat.reduceSub, BitVec.extractLsb'_eq_self]

theorem nonZero_ne_zero (a : Addr) : nonZero a ≠ 0 := by
  unfold nonZero
  split
  · decide
  · assumption

theorem fteEntry1_empty {e : Funnel} (h : e.queue = []) : s.fteEntry1 e = 0 := by
  rw [State.fteEntry1, h]
  rfl

theorem fteEntry1_fields {e : Funnel} (h : e.queue ≠ []) :
    (s.fteEntry1 e).extractLsb' 32 32 ≠ 0 ∧ (s.fteEntry1 e).extractLsb' 0 32 ≠ 0 := by
  unfold State.fteEntry1
  rw [if_neg (by simpa using h)]
  refine ⟨?_, ?_⟩ <;>
    simpa (disch := decide) only [BitVec.extractLsb'_append_eq_of_le, BitVec.extractLsb'_append_eq_of_add_le,
      Nat.reduceSub, BitVec.extractLsb'_eq_self] using nonZero_ne_zero _

theorem lteEntry0_fields (e : Lte) :
    (s.lteEntry0 e).getMsbD 0 = true ∧ (s.lteEntry0 e).extractLsb' 48 8 = e.toFunnel ∧
      (s.lteEntry0 e).extractLsb' 40 8 = e.rights ∧ (s.lteEntry0 e).extractLsb' 24 16 = e.toProcess ∧
      (s.lteEntry0 e).extractLsb' 0 22 = e.versionId := by
  unfold State.lteEntry0
  refine ⟨?_, ?_, ?_, ?_, ?_⟩ <;>
    simp (disch := decide) only [getMsbD_zero_append, one_getMsbD_zero, BitVec.extractLsb'_append_eq_of_le, BitVec.extractLsb'_append_eq_of_add_le,
      Nat.reduceSub, BitVec.extractLsb'_eq_self]

theorem undefinedEntry_bit : s.undefinedEntry.getMsbD 0 = false := by
  exact getMsbD_zero_append _ _ (by decide)

theorem fteHeader_fields :
    (s.fteWord0 0).getMsbD 0 = false ∧ (s.fteWord0 0).extractLsb' 40 8 = BitVec.ofNat 8 s.funnels.maxCreated ∧
      (s.fteWord0 0).extractLsb' 8 8 = BitVec.ofNat 8 (s.funnels.nextFree.getD 0) ∧
      (s.fteWord0 0).extractLsb' 0 8 = BitVec.ofNat 8 (s.funnels.prevFree.getD 0) ∧
      (s.fteWord1 0).getMsbD 0 = s.funnels.allocatablePages := by
  unfold State.fteWord0 State.fteWord1 idBits
  simp only [if_true]
  refine ⟨?_, ?_, ?_, ?_, ?_⟩ <;>
    simp (disch := decide) only [getMsbD_zero_append, zero_getMsbD_zero, ofBool_getMsbD_zero,
      BitVec.extractLsb'_append_eq_of_le, BitVec.extractLsb'_append_eq_of_add_le,
      Nat.reduceSub, BitVec.extractLsb'_eq_self]

theorem lteHeader_fields :
    (s.lteWord0 0).getMsbD 0 = false ∧ (s.lteWord0 0).extractLsb' 32 16 = BitVec.ofNat 16 s.links.maxCreated ∧
      (s.lteWord0 0).extractLsb' 16 16 = BitVec.ofNat 16 (s.links.nextFree.getD 0) ∧
      (s.lteWord0 0).extractLsb' 0 16 = BitVec.ofNat 16 (s.links.prevFree.getD 0) ∧
      (s.lteWord1 0).getMsbD 0 = s.links.allocatablePages ∧
      (s.lteWord1 0).extractLsb' 40 16 = s.links.allocatablePageCount := by
  unfold State.lteWord0 State.lteWord1 idBits
  simp only [if_true]
  refine ⟨?_, ?_, ?_, ?_, ?_, ?_⟩ <;>
    simp (disch := decide) only [getMsbD_zero_append, zero_getMsbD_zero, ofBool_getMsbD_zero,
      BitVec.extractLsb'_append_eq_of_le, BitVec.extractLsb'_append_eq_of_add_le,
      Nat.reduceSub, BitVec.extractLsb'_eq_self]

/-- READ.FTE of an ID on an allocated page. -/
theorem readFte_gives {x y z t v : Reg} (h : (s.reg y).toNat ≤ s.funnels.limit) :
    Status (.readFte x y z t v) x 0 s ((s.setReg z (s.fteWord0 (s.reg y).toNat)).setReg t (s.fteWord1 (s.reg y).toNat)) := by
  have : s.funnels.limit ≤ 255 := by unfold FunnelTable.limit; split <;> decide
  exact status_of ((if_neg (by omega)).trans (if_neg (by omega))) rfl

/-- READ.LTE of an ID on an allocated page. -/
theorem readLte_gives {x y z t v : Reg} (h : (s.reg y).toNat ≤ s.links.limit) (h' : (s.reg y).toNat ≤ 65535)
    (ha : s.links.allocated (s.reg y).toNat = true) :
    Status (.readLte x y z t v) x 0 s ((s.setReg z (s.lteWord0 (s.reg y).toNat)).setReg t (s.lteWord1 (s.reg y).toNat)) :=
  status_of ((if_neg (by omega)).trans (if_neg (by rw [ha]; decide))) rfl

/-- Settles O58. -/
theorem tableEntriesRead : Obligations.TableEntriesRead := by
  intro x y z t v s gives
  refine ⟨?_, fun h => status_of (if_pos h) rfl, fun h h' hp => ?_, ?_, fun h => status_of (if_pos h) rfl, fun h => ⟨?_, ?_⟩⟩
  · rintro f rfl h0 hl
    have hread := readFte_gives (x := x) (z := z) (t := t) (v := v) (FunnelTable.le_limit.mpr hl)
    refine ⟨fun e he => ?_, fun hn => ?_⟩
    · have h0 : s.fteWord0 (s.reg y).toNat = s.fteEntry0 (s.reg y).toNat e := by rw [State.fteWord0, if_neg (by omega), he]
      have h1 : s.fteWord1 (s.reg y).toNat = s.fteEntry1 e := by rw [State.fteWord1, if_neg (by omega), he]
      obtain ⟨hbit, hchan, hnext, hcount, hvec⟩ := fteEntry0_fields (s := s) (s.reg y).toNat e
      rw [h0, h1] at hread
      refine ⟨_, _, hread, hbit, hchan, hcount, hvec, fun hq => ⟨?_, fteEntry1_empty hq⟩, fteEntry1_fields⟩
      rw [hnext, hq]
      rfl
    · have h0 : s.fteWord0 (s.reg y).toNat = s.undefinedEntry := by rw [State.fteWord0, if_neg (by omega), hn]
      exact ⟨_, _, hread, h0 ▸ undefinedEntry_bit⟩
  · have : s.funnels.limit = 127 := if_neg (by rw [hp]; decide)
    exact status_of ((if_neg (by omega)).trans (if_pos (by omega))) rfl
  · rintro id rfl h0 hl hi
    refine ⟨fun e he => ?_, fun hn => ⟨fun hp => ?_, fun h1 h2 => ?_⟩⟩
    · have h0 : s.lteWord0 (s.reg y).toNat = s.lteEntry0 e := by rw [State.lteWord0, if_neg (by omega), he]
      have h1 : s.lteWord1 (s.reg y).toNat = e.word1 := by rw [State.lteWord1, if_neg (by omega), he]
      have hread := readLte_gives (x := x) (z := z) (t := t) (v := v) hl hi (LinkTable.allocated_of_some he)
      obtain ⟨hbit, hfun, hrights, hproc, hver⟩ := lteEntry0_fields (s := s) e
      rw [h0, h1] at hread
      exact ⟨_, _, hread, hbit, hfun, hrights, hproc, hver, rfl⟩
    · have h0 : s.lteWord0 (s.reg y).toNat = s.undefinedEntry := by rw [State.lteWord0, if_neg (by omega), hn]
      exact ⟨_, _, readLte_gives hl hi ((State.allocated_iff hn).mpr hp), h0 ▸ undefinedEntry_bit⟩
    · have ha : s.links.allocated (s.reg y).toNat = false := by
        rw [← Bool.not_eq_true, State.allocated_iff hn]
        exact fun h => h.elim h1 h2
      exact status_of ((if_neg (by omega)).trans (if_pos (by rw [ha]; decide))) rfl
  · have hread := readFte_gives (s := s) (x := x) (y := y) (z := z) (t := t) (v := v) (by omega)
    rw [h] at hread
    exact ⟨_, _, hread, fteHeader_fields⟩
  · have ha : s.links.allocated (s.reg y).toNat = true := by rw [h]; rfl
    have hread := readLte_gives (s := s) (x := x) (y := y) (z := z) (t := t) (v := v) (by omega) (by omega) ha
    rw [h] at hread
    exact ⟨_, _, hread, lteHeader_fields⟩

end Sys2Proof.Machine

/-! SUPPORT. The receives and the general instructions. -/

namespace Sys2Proof.Machine

open Sys2Proof Sys2Proof.Stmt

variable {s t : State} {i : Instr}


/-! ### What a receive finds -/

theorem beNat_readBytes_byte (a : Addr) : beNat (readBytes s.mem a 1) = (s.byteAt a).toNat := by
  simp [readBytes, beNat, State.byteAt]

theorem typeByte_eq (a : Addr) : BitVec.ofNat 8 (beNat (readBytes s.mem a 1)) = s.byteAt a := by
  rw [beNat_readBytes_byte, BitVec.ofNat_toNat, BitVec.setWidth_eq]

/-- A receive's registers. -/
def receiveOf (x y z t v : Reg) (wantLink : Bool) : Receive := { x := x, y := y, z := z, t := t, v := v, wantLink := wantLink }

theorem exec_rcv {x y z t v : Reg} :
    exec (.rcv x y z t v) s = receiveFunnel (.rcv x y z t v) (receiveOf x y z t v false) s := rfl
theorem exec_rcvLink {x y z t v : Reg} :
    exec (.rcvLink x y z t v) s = receiveFunnel (.rcvLink x y z t v) (receiveOf x y z t v true) s := rfl
theorem exec_rcvChan {x y z t v : Reg} :
    exec (.rcvChan x y z t v) s = receiveChannel (.rcvChan x y z t v) (receiveOf x y z t v false) s := rfl
theorem exec_rcvLinkOnChan {x y z t v : Reg} :
    exec (.rcvLinkOnChan x y z t v) s = receiveChannel (.rcvLinkOnChan x y z t v) (receiveOf x y z t v true) s := rfl

theorem receiveFunnel_missing {r : Receive} (h : s.allowedRange .read (lo32 (s.reg r.y)) 1 = true)
    (hf : s.byteAt (lo32 (s.reg r.y)) = 0 ∨ s.funnel (s.byteAt (lo32 (s.reg r.y))).toNat = none) :
    receiveFunnel i r s = finishStatus i r.x 1 s := by
  refine (withField_allowed h).trans (withFunnel_none ?_)
  rw [beNat_readBytes_byte]
  exact hf.imp (fun h => by rw [h]; rfl) .inr

section

variable {r : Receive} {f : Nat} {fe : Funnel}

theorem receiveFunnel_fields (h : s.allowedRange .read (lo32 (s.reg r.y)) 3 = true) (hf : s.funnel f = some fe)
    (hb : (s.byteAt (lo32 (s.reg r.y))).toNat = f) (h0 : 0 < f) :
    (fe.receivable f = none → receiveFunnel i r s = receiveNothing i r (s.byteAt (lo32 (s.reg r.y) + 2)) 14 s) ∧
    (∀ m, fe.receivable f = some m →
      receiveFunnel i r s = receiveMessage i r (s.byteAt (lo32 (s.reg r.y) + 2)) f fe m s) := by
  have h1 : s.allowedRange .read (lo32 (s.reg r.y)) 1 = true := State.allowedRange_sub h (j := 0) (by simp) (by omega)
  have h2 : s.allowedRange .read (lo32 (s.reg r.y) + 2) 1 = true := State.allowedRange_sub h (j := 2) rfl (by omega)
  have hle : f ≤ 255 := hb ▸ Nat.le_of_lt_succ (s.byteAt (lo32 (s.reg r.y))).isLt
  have hnum : beNat (readBytes s.mem (lo32 (s.reg r.y)) 1) = f := (beNat_readBytes_byte _).trans hb
  have hx : ∀ k : Nat → Funnel → Nat → Res,
      (withField i (lo32 (s.reg r.y)) 1 s fun f => withFunnel i r.x f s fun e =>
        withField i (lo32 (s.reg r.y) + 2) 1 s (k f e)) = k f fe (beNat (readBytes s.mem (lo32 (s.reg r.y) + 2) 1)) :=
    fun k => by rw [withField_allowed h1, hnum, withFunnel_some h0 hle hf, withField_allowed h2]
  unfold receiveFunnel
  refine ⟨fun hr => ?_, fun m hr => ?_⟩
  · refine (hx _).trans ?_
    rw [hr, typeByte_eq]
  · refine (hx _).trans ?_
    rw [hr, typeByte_eq]

theorem receiveChannel_fields (h : s.allowedRange .read (lo32 (s.reg r.y)) 3 = true) :
    (bestCandidate (s.candidates (BitVec.ofNat 16 (beNat (readBytes s.mem (lo32 (s.reg r.y)) 2)))) = none →
      receiveChannel i r s = receiveNothing i r (s.byteAt (lo32 (s.reg r.y) + 2)) 29 s) ∧
    (∀ c, bestCandidate (s.candidates (BitVec.ofNat 16 (beNat (readBytes s.mem (lo32 (s.reg r.y)) 2)))) = some c →
      receiveChannel i r s = receiveMessage i r (s.byteAt (lo32 (s.reg r.y) + 2)) c.funnel c.entry c.message s) := by
  have h1 : s.allowedRange .read (lo32 (s.reg r.y)) 2 = true := State.allowedRange_sub h (j := 0) (by simp) (by omega)
  have h2 : s.allowedRange .read (lo32 (s.reg r.y) + 2) 1 = true := State.allowedRange_sub h (j := 2) rfl (by omega)
  unfold receiveChannel
  simp only [withField_allowed h1, withField_allowed h2, typeByte_eq]
  exact ⟨fun hc => by rw [hc], fun c hc => by rw [hc]⟩

/-! ### A receive that finds no message -/

theorem State.dismiss_pc (ty : Byte) : (s.dismiss ty).pc = s.pc := by
  unfold State.dismiss
  split <;> rfl

theorem receiveNothing_waits {ty : Byte} {n : Nat} (h : ty.getLsbD 0 = true) :
    receiveNothing i r ty n s = .next { s with blocked := true } := if_pos h

theorem status_of_receiveNothing {ty : Byte} {n : Nat} (hx : exec i s = receiveNothing i r ty n s)
    (h : ty.getLsbD 0 = false) : Status i r.x n s (s.dismiss ty) :=
  status_of (hx.trans (if_neg (by rw [synchronous, h]; decide))) (State.dismiss_pc ty)

theorem receivable_eq_none (h : f = 1 ∨ fe.queue = []) : fe.receivable f = none := by
  unfold Funnel.receivable
  split
  · rfl
  · rw [h.resolve_left ‹_›]
    rfl

theorem receivable_eq_head (h : 1 < f) : fe.receivable f = fe.queue.head? := if_neg (Nat.ne_of_gt h)

end

/-- Settles O56. -/
theorem receivesOfNothing : Obligations.ReceivesOfNothing := by
  refine ⟨?_, ?_⟩
  · intro x y z t v s pb h hf
    exact ⟨status_of (exec_rcv.trans (receiveFunnel_missing h hf)) rfl,
      status_of (exec_rcvLink.trans (receiveFunnel_missing h hf)) rfl⟩
  · intro x y z t v s ty pb t' h hty
    subst hty
    refine ⟨fun f fe hf hb h0 hq => ?_, fun hc => ?_⟩
    · have hx := fun w i => (receiveFunnel_fields (i := i) (r := receiveOf x y z t v w) h hf hb h0).1 (receivable_eq_none hq)
      exact ⟨fun h => ⟨(exec_rcv.trans (hx false _)).trans (receiveNothing_waits h),
          (exec_rcvLink.trans (hx true _)).trans (receiveNothing_waits h)⟩,
        fun h => ⟨status_of_receiveNothing (exec_rcv.trans (hx false _)) h,
          status_of_receiveNothing (exec_rcvLink.trans (hx true _)) h⟩⟩
    · have hx := fun w i => (receiveChannel_fields (i := i) (r := receiveOf x y z t v w) h).1 hc
      exact ⟨fun h => ⟨(exec_rcvChan.trans (hx false _)).trans (receiveNothing_waits h),
          (exec_rcvLinkOnChan.trans (hx true _)).trans (receiveNothing_waits h)⟩,
        fun h => ⟨status_of_receiveNothing (exec_rcvChan.trans (hx false _)) h,
          status_of_receiveNothing (exec_rcvLinkOnChan.trans (hx true _)) h⟩⟩

/-! ### A receive that finds a message -/

section

variable {r : Receive} {ty : Byte} {f : Nat} {fe : Funnel} {m : Message} {s1 s2 s3 : State}

theorem receiveMessage_negative (h : (s.reg r.z).toInt < 0 ∨ (s.reg r.v).toInt < 0) :
    receiveMessage i r ty f fe m s = finishStatus i r.x 46 s := if_pos h

theorem receiveMessage_copied (hz : 0 ≤ (s.reg r.z).toInt) (hv : 0 ≤ (s.reg r.v).toInt)
    (h1 : s.store (lo32 (s.reg r.y) + 8) (wordBytes m.rci) = some s1)
    (h2 : s1.store (lo32 (s.reg r.y) + 16) (m.data.take (s.reg r.z).toInt.toNat) = some s2)
    (h3 : s2.store (lo32 (s.reg r.t)) ((m.data.drop (s.reg r.z).toInt.toNat).take (s.reg r.v).toInt.toNat) = some s3)
    {o : Received} (ho : s3.receiveLink r m = some o) :
    receiveMessage i r ty f fe m s = finishStatus i r.x o.status
      ((if o.keep || interrogate ty then o.state else o.state.dequeue f fe).dismiss ty) := by
  have hc : s.copyMessage r m = some s3 := by
    simp only [State.copyMessage, State.len, h1, h2, h3, Option.bind_some]
  unfold receiveMessage State.len
  rw [if_neg (not_or.mpr ⟨not_lt.mpr hz, not_lt.mpr hv⟩), hc, Option.bind_some, ho]

/-- The end of a receive that has copied its message. -/
theorem status_of_copied (hx : exec i s = receiveMessage i r ty f fe m s) (hz : 0 ≤ (s.reg r.z).toInt)
    (hv : 0 ≤ (s.reg r.v).toInt)
    (h1 : s.store (lo32 (s.reg r.y) + 8) (wordBytes m.rci) = some s1)
    (h2 : s1.store (lo32 (s.reg r.y) + 16) (m.data.take (s.reg r.z).toInt.toNat) = some s2)
    (h3 : s2.store (lo32 (s.reg r.t)) ((m.data.drop (s.reg r.z).toInt.toNat).take (s.reg r.v).toInt.toNat) = some s3)
    {n : Nat} {keep : Bool} {u : State} (ho : s3.receiveLink r m = some ⟨n, keep, u⟩) (hpc : u.pc = s3.pc) :
    (keep = false → Status i r.x n s ((if interrogate ty then u else u.dequeue f fe).dismiss ty)) ∧
    (keep = true → Status i r.x n s (u.dismiss ty)) := by
  have hend : Status i r.x n s ((if keep || interrogate ty then u else u.dequeue f fe).dismiss ty) := by
    refine status_of (hx.trans (receiveMessage_copied hz hv h1 h2 h3 ho)) ((State.dismiss_pc ty).trans ?_)
    obtain ⟨rfl, -⟩ := State.store_eq_some h1
    obtain ⟨rfl, -⟩ := State.store_eq_some h2
    obtain ⟨rfl, -⟩ := State.store_eq_some h3
    split <;> exact hpc
  refine ⟨fun hk => ?_, fun hk => ?_⟩ <;> subst hk
  · exact hend
  · exact hend

end

/-- Settles O54. -/
theorem receivesComplete : Obligations.ReceivesComplete := by
  refine ⟨?_, ?_⟩
  · intro x y z t v s s1 s2 s3 ty f fe m pb h hty hl hz hv h1 h2 h3 s4 s5
    subst hty
    have plain : ∀ {i}, exec i s = receiveMessage i (receiveOf x y z t v false) (s.byteAt (pb + 2)) f fe m s →
        Status i x 0 s s5 := fun hx => by
      have ho : s3.receiveLink (receiveOf x y z t v false) m = some ⟨0, false, s3⟩ := by rw [State.receiveLink, hl]; rfl
      have hend := (status_of_copied hx hz hv h1 h2 h3 ho rfl).1 rfl
      exact hend
    have link : ∀ {i}, exec i s = receiveMessage i (receiveOf x y z t v true) (s.byteAt (pb + 2)) f fe m s →
        Status i x 30 s s5 := fun hx => by
      have ho : s3.receiveLink (receiveOf x y z t v true) m = some ⟨30, false, s3⟩ := by rw [State.receiveLink, hl]; rfl
      have hend := (status_of_copied hx hz hv h1 h2 h3 ho rfl).1 rfl
      exact hend
    refine ⟨fun hf hm hb hone => ?_, fun hc => ?_⟩
    · have hx := fun w i => (receiveFunnel_fields (i := i) (r := receiveOf x y z t v w) h hf hb (Nat.lt_of_succ_lt hone)).2 m
        ((receivable_eq_head hone).trans hm)
      exact ⟨plain (exec_rcv.trans (hx false _)), link (exec_rcvLink.trans (hx true _))⟩
    · have hx := fun w i => (receiveChannel_fields (i := i) (r := receiveOf x y z t v w) h).2 _ hc
      exact ⟨plain (exec_rcvChan.trans (hx false _)), link (exec_rcvLinkOnChan.trans (hx true _))⟩
  · intro x y z t v s pb h hneg
    refine ⟨fun f fe hb hone hf hq => ?_, fun hc => ?_⟩
    · obtain ⟨m, q, hmq⟩ := List.exists_cons_of_ne_nil hq
      have hx := fun w i => (receiveFunnel_fields (i := i) (r := receiveOf x y z t v w) h hf hb (Nat.lt_of_succ_lt hone)).2 m
        ((receivable_eq_head hone).trans (by rw [hmq]; rfl))
      exact ⟨status_of ((exec_rcv.trans (hx false _)).trans (receiveMessage_negative hneg)) rfl,
        status_of ((exec_rcvLink.trans (hx true _)).trans (receiveMessage_negative hneg)) rfl⟩
    · obtain ⟨c, hc⟩ := Option.ne_none_iff_exists'.mp hc
      have hx := fun w i => (receiveChannel_fields (i := i) (r := receiveOf x y z t v w) h).2 c hc
      exact ⟨status_of ((exec_rcvChan.trans (hx false _)).trans (receiveMessage_negative hneg)) rfl,
        status_of ((exec_rcvLinkOnChan.trans (hx true _)).trans (receiveMessage_negative hneg)) rfl⟩

theorem State.placeLink_ok {a : Addr} {id : Nat} {l : Lte} (ha : s.allowedRange .read a 2 = true)
    (hn : s.linkSlot (beNat (readBytes s.mem a 2)) = .ok id) :
    s.placeLink a l = ((s.putLink id l).store a (beBytes 2 id)).map fun s1 => { status := 0, keep := false, state := s1 } := by
  simp only [State.placeLink, State.loadNat_of_allowed ha, Option.bind_some, hn]

theorem State.placeLink_error {a : Addr} {n : Nat} {l : Lte} (ha : s.allowedRange .read a 2 = true)
    (hn : s.linkSlot (beNat (readBytes s.mem a 2)) = .error n) :
    s.placeLink a l = some { status := n, keep := true, state := s } := by
  simp only [State.placeLink, State.loadNat_of_allowed ha, Option.bind_some, hn]

/-- Settles O55. -/
theorem receivesOfLinks : Obligations.ReceivesOfLinks := by
  intro x y z t v s s1 s2 s3 ty f fe m l pb dis h hty hl hz hv h1 h2 h3 takes
  subst hty
  have plain : ∀ {i}, exec i s = receiveMessage i (receiveOf x y z t v false) (s.byteAt (pb + 2)) f fe m s →
      Status i x 28 s (dis s3) := fun hx => by
    have ho : s3.receiveLink (receiveOf x y z t v false) m = some ⟨28, true, s3⟩ := by rw [State.receiveLink, hl]; rfl
    have hend := (status_of_copied hx hz hv h1 h2 h3 ho rfl).2 rfl
    exact hend
  have hregs : s3.regs = s.regs ∧ s3.links = s.links := by
    obtain ⟨rfl, -⟩ := State.store_eq_some h1
    obtain ⟨rfl, -⟩ := State.store_eq_some h2
    obtain ⟨rfl, -⟩ := State.store_eq_some h3
    exact ⟨rfl, rfl⟩
  have hslot : ∀ p, s3.linkSlot p = s.linkSlot p := fun p => by
    unfold State.linkSlot State.link
    rw [hregs.2]
  have hrecv : s3.receiveLink (receiveOf x y z t v true) m = s3.placeLink (pb + 4) l := by
    have hpb : lo32 (s3.reg y) = pb := by rw [State.reg, hregs.1]; rfl
    rw [State.receiveLink, hl, ← hpb]
    rfl
  have link : ∀ {i}, exec i s = receiveMessage i (receiveOf x y z t v true) (s.byteAt (pb + 2)) f fe m s → takes i :=
    fun {i} hx hr => by
      intro pref
      refine ⟨fun id s4 hid hst => ?_, fun n hn => ?_⟩
      · have ho := hrecv.trans (State.placeLink_ok hr ((hslot _).trans (linkSlot_of hid)))
        simp only [hst, Option.map_some] at ho
        obtain ⟨rfl, -⟩ := State.store_eq_some hst
        have hend := (status_of_copied hx hz hv h1 h2 h3 ho rfl).1 rfl
        exact ⟨linkDefined_putLink hregs.2 rfl, hend⟩
      · have ho := hrecv.trans (State.placeLink_error hr ((hslot _).trans (linkSlot_error_of hn)))
        have hend := (status_of_copied hx hz hv h1 h2 h3 ho rfl).2 rfl
        exact hend
  refine ⟨fun hf hm hb hone => ?_, fun hc => ?_⟩
  · have hx := fun w i => (receiveFunnel_fields (i := i) (r := receiveOf x y z t v w) h hf hb (Nat.lt_of_succ_lt hone)).2 m
      ((receivable_eq_head hone).trans hm)
    exact ⟨plain (exec_rcv.trans (hx false _)), link (exec_rcvLink.trans (hx true _))⟩
  · have hx := fun w i => (receiveChannel_fields (i := i) (r := receiveOf x y z t v w) h).2 _ hc
    exact ⟨plain (exec_rcvChan.trans (hx false _)), link (exec_rcvLinkOnChan.trans (hx true _))⟩


/-! ### Map entries (R91, R673, R676) -/

theorem traceBits_getMsbD (p : Page) : p.traceBits.getMsbD 0 = p.maintenance ∧ p.traceBits.getMsbD 1 = p.readTrace ∧
    p.traceBits.getMsbD 2 = p.writeTrace ∧ p.traceBits.getMsbD 3 = p.executeTrace := by
  have bits : ∀ a b c d : Bool, (BitVec.ofBool a ++ BitVec.ofBool b ++ BitVec.ofBool c ++ BitVec.ofBool d).getMsbD 0 = a ∧
      (BitVec.ofBool a ++ BitVec.ofBool b ++ BitVec.ofBool c ++ BitVec.ofBool d).getMsbD 1 = b ∧
      (BitVec.ofBool a ++ BitVec.ofBool b ++ BitVec.ofBool c ++ BitVec.ofBool d).getMsbD 2 = c ∧
      (BitVec.ofBool a ++ BitVec.ofBool b ++ BitVec.ofBool c ++ BitVec.ofBool d).getMsbD 3 = d := by decide
  exact bits _ _ _ _

theorem withPage_some {a : Addr} {p : Page} {k : Page → Res} (h : s.pageAt a = some p) : withPage i a s k = k p := by
  rw [withPage, h]

theorem withPage_none {a : Addr} {k : Page → Res} (h : s.pageAt a = none) : withPage i a s k = accessViolation i s := by
  rw [withPage, h]

/-- The bits that READ.PME gives (R676). -/
theorem getMsbD_append_traceBits (w : BitVec 60) (b : BitVec 4) (k : Nat) : (w ++ b).getMsbD (60 + k) = b.getMsbD k := by
  rw [BitVec.getMsbD_append, if_pos (by omega), Nat.add_sub_cancel_left]

/-- A trace bit after the clear mask and the set mask (R673). -/
theorem modifiedBits_getMsbD (b : BitVec 4) (x y : Word) {k : Nat} (hk : k < 4) :
    (b &&& ~~~(x.setWidth 4) ||| y.setWidth 4).getMsbD k =
      ((b.getMsbD k && !x.getMsbD (60 + k)) || y.getMsbD (60 + k)) := by
  have hlow : ∀ w : Word, (w.setWidth 4).getMsbD k = w.getMsbD (60 + k) := fun w => by
    simp only [BitVec.getMsbD_eq_getLsbD, BitVec.getLsbD_setWidth]
    rw [show 64 - 1 - (60 + k) = 4 - 1 - k by omega, decide_eq_true (by omega : 4 - 1 - k < 4), decide_eq_true hk,
      decide_eq_true (by omega : 60 + k < 64), Bool.true_and]
  rw [BitVec.getMsbD_or, BitVec.getMsbD_and, BitVec.getMsbD_not, hlow, hlow, decide_eq_true hk, Bool.true_and]

theorem pageAt_set {a : Addr} {p q : Page} (h : s.pageAt a = some p) :
    State.pageAt { s with pages := Assoc.set s.pages (pageNo a) q } a = some q := by
  unfold State.pageAt at h ⊢
  split at h
  · rw [if_pos ‹_›, Assoc.get_set, if_pos rfl]
  · cases h

/-! ### MEMORY.MAN (R671) -/

theorem get_filter_key {α : Type} (g : Nat → Bool) (l : List (Nat × α)) (n : Nat) :
    Assoc.get (l.filter fun c => g c.1) n = if g n then Assoc.get l n else none := by
  induction l with
  | nil => simp [Assoc.get]
  | cons c l ih =>
    obtain ⟨k, a⟩ := c
    by_cases hk : k = n
    · subst hk
      cases hg : g k with
      | true => simp [hg, Assoc.get]
      | false => simp [hg, ih]
    · cases hg : g k with
      | true => simp only [List.filter_cons, hg, if_true, Assoc.get, if_neg hk, ih]
      | false => simp only [List.filter_cons, hg, Bool.false_eq_true, if_false, Assoc.get, if_neg hk, ih]

/-- CLEANSE makes the range's allocated pages read as zero. -/
theorem State.cleanse_byteAt (a n : Nat) (b : Addr) : (s.cleanse a n).byteAt b =
    if (s.pageAt b).isSome ∧ a / 2048 ≤ b.toNat / 2048 ∧ b.toNat / 2048 * 2048 < a + n then 0 else s.byteAt b := by
  have hget := get_filter_key (fun m => !(pageInRange a n (m / 2048) && (s.pageAt (BitVec.ofNat 32 m)).isSome)) s.mem b.toNat
  have hcell : (s.cleanse a n).byteAt b = (Assoc.get (s.mem.filter fun c =>
      !(pageInRange a n (c.1 / 2048) && (s.pageAt (BitVec.ofNat 32 c.1)).isSome)) b.toNat).getD 0 := rfl
  rw [hcell, hget, BitVec.ofNat_toNat, BitVec.setWidth_eq]
  by_cases h : (s.pageAt b).isSome ∧ a / 2048 ≤ b.toNat / 2048 ∧ b.toNat / 2048 * 2048 < a + n
  · have : pageInRange a n (b.toNat / 2048) = true := by simp [pageInRange]; omega
    rw [if_pos h, this, h.1]
    rfl
  · have : (pageInRange a n (b.toNat / 2048) && (s.pageAt b).isSome) = false := by
      simp only [pageInRange, Bool.and_eq_false_iff, decide_eq_false_iff_not]
      by_contra hc
      simp only [not_or, not_not, Bool.not_eq_false] at hc
      exact h ⟨hc.2, hc.1.1, by omega⟩
    rw [if_neg h, this]
    rfl

theorem State.memoryEffect_mem (a n : Nat) (op : MemoryOp) :
    s.memoryEffect a n op = { s with mem := (s.memoryEffect a n op).mem } := by cases op <;> rfl

theorem State.memoryEffect_byteAt (a n : Nat) (op : MemoryOp) (b : Addr) : (s.memoryEffect a n op).byteAt b =
    if op = .cleanse ∧ (s.pageAt b).isSome ∧ a / 2048 ≤ b.toNat / 2048 ∧ b.toNat / 2048 * 2048 < a + n then 0
    else s.byteAt b := by
  cases op with
  | touch => simp [State.memoryEffect]
  | force => simp [State.memoryEffect]
  | cleanse => simpa [State.memoryEffect] using State.cleanse_byteAt a n b

section

variable {x y z : Reg} {op : MemoryOp}

/-- The request of MEMORY.MAN. -/
def State.asked (s : State) (x y z : Reg) : State := s.emit (.memoryManager (s.reg x) (lo32 (s.reg y)) (s.reg z))

theorem memoryMan_unnamed (hp : s.params.impl700 = true) (hop : memoryOp s.params (s.reg x) = none) :
    Done (.memoryMan x y z) s s := by
  refine done_of_advance ((if_pos hp).trans ?_) rfl
  rw [hop]

theorem memoryMan_async (hp : s.params.impl700 = true) (hop : memoryOp s.params (s.reg x) = some op)
    (h : op.synchronous s.params = false) : exec (.memoryMan x y z) s = advance (.memoryMan x y z)
      ((s.asked x y z).memoryEffect (lo32 (s.reg y)).toNat (s.reg z).toNat op) := by
  refine (if_pos hp).trans ?_
  rw [hop]
  exact if_neg (by rw [h]; decide)

theorem memoryMan_sync (hp : s.params.impl700 = true) (hop : memoryOp s.params (s.reg x) = some op)
    (h : op.synchronous s.params = true) :
    (s.manager = .idle → exec (.memoryMan x y z) s =
      .next { s.asked x y z with blocked := true, manager := .waiting }) ∧
    (s.manager = .waiting → exec (.memoryMan x y z) s = .next { s with blocked := true }) ∧
    (s.manager = .restarted → exec (.memoryMan x y z) s = advance (.memoryMan x y z)
      (State.memoryEffect { s with manager := .idle } (lo32 (s.reg y)).toNat (s.reg z).toNat op)) := by
  have hx : exec (.memoryMan x y z) s = match s.manager with
      | .idle => .next { s.asked x y z with blocked := true, manager := .waiting }
      | .waiting => .next { s with blocked := true }
      | .restarted => advance (.memoryMan x y z)
        (State.memoryEffect { s with manager := .idle } (lo32 (s.reg y)).toNat (s.reg z).toNat op) := by
    refine (if_pos hp).trans ?_
    rw [hop]
    exact (if_pos h).trans rfl
  exact ⟨fun hm => by rw [hx, hm], fun hm => by rw [hx, hm], fun hm => by rw [hx, hm]⟩

theorem memoryOp_cleanse {p : Config.Params} {c : Word} : memoryOp p c = some .cleanse ↔ c = p.mmCleanse := by
  unfold memoryOp
  split
  · simpa
  · split
    · simpa
    · split <;> simpa

end

theorem memoryOp_force {p : Config.Params} {c : Word} : memoryOp p c = some .force ↔ c = p.mmForce ∧ c ≠ p.mmCleanse := by
  unfold memoryOp
  by_cases h1 : c = p.mmCleanse
  · simp [h1]
  · by_cases h2 : c = p.mmForce
    · rw [if_neg h1, if_pos h2]
      exact iff_of_true rfl ⟨h2, h1⟩
    · rw [if_neg h1, if_neg h2]
      split <;> simp [h2]

theorem memoryOp_none {p : Config.Params} {c : Word} :
    memoryOp p c = none ↔ ¬ (c = p.mmTouch ∨ c = p.mmForce ∨ c = p.mmCleanse) := by
  unfold memoryOp
  by_cases h1 : c = p.mmCleanse
  · simp [h1]
  · by_cases h2 : c = p.mmForce
    · rw [if_neg h1, if_pos h2]
      exact iff_of_false (Option.some_ne_none _) (not_not.mpr (.inr (.inl h2)))
    · rw [if_neg h1, if_neg h2]
      split <;> simp [*]

/-- The synchronous operations, by code. -/
theorem synchronous_iff {p : Config.Params} {c : Word} {op : MemoryOp} (h : memoryOp p c = some op) :
    op.synchronous p = true ↔ (c = p.mmCleanse ∧ p.mmCleanseSync = true) ∨
      (c = p.mmForce ∧ c ≠ p.mmCleanse ∧ p.mmForceSync = true) := by
  cases op with
  | touch =>
    have h1 : ¬ c = p.mmCleanse := fun hc => by
      rw [memoryOp_cleanse.mpr hc] at h
      cases h
    have h2 : ¬ (c = p.mmForce ∧ c ≠ p.mmCleanse) := fun hc => by
      rw [memoryOp_force.mpr hc] at h
      cases h
    refine ⟨fun hs => (Bool.false_ne_true hs).elim, fun hs => ?_⟩
    obtain ⟨hc, -⟩ | ⟨hc, hn, -⟩ := hs
    · exact absurd hc h1
    · exact absurd ⟨hc, hn⟩ h2
  | force =>
    obtain ⟨hc, hn⟩ := memoryOp_force.mp h
    exact ⟨fun hs => .inr ⟨hc, hn, hs⟩, fun hs => hs.elim (fun h => absurd h.1 hn) fun h => h.2.2⟩
  | cleanse =>
    have hc := memoryOp_cleanse.mp h
    exact ⟨fun hs => .inl ⟨hc, hs⟩, fun hs => hs.elim And.right fun h => absurd hc h.2.1⟩

/-- Settles O60. -/
theorem statusAndSystemInstructions : Obligations.StatusAndSystemInstructions := by
  refine ⟨fun p x s => ⟨⟨rfl, done_of_finishReg rfl rfl⟩, ⟨rfl, done_of_advance rfl rfl⟩, ⟨rfl, done_of_finishReg rfl rfl⟩,
    ⟨rfl, done_of_finishReg rfl rfl⟩⟩, fun x y z s => ⟨fun p hp => ?_, fun hp => done_of_finishReg (if_pos hp) rfl, ?_,
    fun p himpl hp => ?_⟩⟩
  · obtain ⟨h0, h1, h2, h3⟩ := traceBits_getMsbD p
    exact ⟨_, done_of_finishReg (withPage_some hp) rfl, (getMsbD_append_traceBits _ _ 0).trans h0,
      (getMsbD_append_traceBits _ _ 1).trans h1, (getMsbD_append_traceBits _ _ 2).trans h2,
      (getMsbD_append_traceBits _ _ 3).trans h3⟩
  · intro hp asks sync named ends
    have ended : ∀ {u : State} {op : MemoryOp}, u.mem = s.mem → u.pages = s.pages → u.pc = s.pc →
        memoryOp s.params (s.reg x) = some op → exec (.memoryMan x y z) s = advance (.memoryMan x y z)
          (u.memoryEffect (lo32 (s.reg y)).toNat (s.reg z).toNat op) → ends u := by
      intro u op hmem hpages hpc hop hx
      have hcl : op = .cleanse ↔ s.reg x = s.params.mmCleanse := by
        rw [← memoryOp_cleanse, hop, Option.some.injEq]
      refine ⟨_, done_of_advance hx ?_, State.memoryEffect_mem _ _ _, fun a => ?_⟩
      · rw [State.memoryEffect_mem]
        exact hpc
      · have hpage : u.pageAt a = s.pageAt a := by rw [State.pageAt, State.pageAt, hpages]
        rw [State.memoryEffect_byteAt, hpage, State.byteAt, hmem]
        simp only [hcl]
        rfl
    have op_of : named → ∃ op, memoryOp s.params (s.reg x) = some op := fun hn =>
      Option.ne_none_iff_exists'.mp fun h => memoryOp_none.mp h hn
    have named_of : sync → named := fun h => h.elim (fun h => .inr (.inr h.1)) fun h => .inr (.inl h.1)
    refine ⟨fun hn => memoryMan_unnamed hp (memoryOp_none.mpr hn), fun hn hs => ?_, fun hs => ?_, fun hs => ?_, fun hs hm => ?_⟩
    · obtain ⟨op, hop⟩ := op_of hn
      have hsync : op.synchronous s.params = false := by
        rw [← Bool.not_eq_true, synchronous_iff hop]
        exact hs
      exact ended rfl rfl rfl hop (memoryMan_async hp hop hsync)
    all_goals
      obtain ⟨op, hop⟩ := op_of (named_of hs)
      obtain ⟨hidle, hwait, hend⟩ := memoryMan_sync (y := y) (z := z) hp hop ((synchronous_iff hop).mpr hs)
    · exact hidle
    · exact hwait
    · exact ended (u := { s with manager := .idle }) rfl rfl rfl hop (hend hm)
  · obtain ⟨h0, h1, h2, h3⟩ := traceBits_getMsbD p
    have hbit : ∀ k, k < 4 → ∀ b, p.traceBits.getMsbD k = b → (p.traceBits &&& ~~~((s.reg x).setWidth 4) |||
        (s.reg y).setWidth 4).getMsbD k = ((b && !(s.reg x).getMsbD (60 + k)) || (s.reg y).getMsbD (60 + k)) :=
      fun k hk b hb => hb ▸ modifiedBits_getMsbD _ _ _ hk
    refine ⟨_, _, done_of_advance ((if_pos himpl).trans (withPage_some hp)) rfl, rfl, pageAt_set hp, rfl, rfl, rfl,
      hbit 0 (by decide) _ h0, hbit 1 (by decide) _ h1, hbit 2 (by decide) _ h2, hbit 3 (by decide) _ h3, fun n hn => ?_⟩
    exact (Assoc.get_set _ _ _ n).trans (if_neg hn)

end Sys2Proof.Machine

/-! SUPPORT. Frames, interrupts, the Debugger, the environment, violating accesses. -/

namespace Sys2Proof.Machine

open Sys2Proof Sys2Proof.Stmt

variable {s t : State} {i : Instr}


/-! ### Words of memory and of a frame -/

@[simp] theorem lo32_zext32 (a : Addr) : lo32 (zext32 a) = a := by
  apply BitVec.eq_of_toNat_eq
  simp only [lo32, zext32, BitVec.toNat_setWidth]
  omega

theorem readBytes_add (m : List Host.Cell) (a : Addr) (n k : Nat) :
    readBytes m a (n + k) = readBytes m a n ++ readBytes m (a + BitVec.ofNat 32 n) k := by
  induction n generalizing a with
  | zero => simp [readBytes]
  | succ n ih =>
    have hstep : a + 1 + BitVec.ofNat 32 n = a + BitVec.ofNat 32 (n + 1) := by
      rw [BitVec.add_assoc, Nat.add_comm, BitVec.ofNat_add]
      rfl
    rw [show n + 1 + k = n + k + 1 by omega, readBytes_succ, readBytes_succ, ih, hstep]
    rfl

/-- A word of a range of memory. -/
theorem wordAt_eq_frameWord (a : Addr) {off n : Nat} (h : off + 8 ≤ n) :
    wordAt s (a + BitVec.ofNat 32 off) = frameWord (readBytes s.mem a n) off := by
  rw [show n = off + (8 + (n - off - 8)) by omega, readBytes_add, readBytes_add, frameWord,
    List.drop_left' (readBytes_length _ _ _), List.take_left' (readBytes_length _ _ _)]
  rfl

theorem frameWord_wordBytes_append (w : Word) (l : List Byte) : frameWord (wordBytes w ++ l) 0 = w := by
  rw [frameWord, List.drop_zero, List.take_left' (wordBytes_length w), wordOf_wordBytes]

theorem frameWord_append {l l' : List Byte} {n off : Nat} (h : l.length = n) : frameWord (l ++ l') (n + off) = frameWord l' off := by
  rw [frameWord, frameWord, ← List.drop_drop, List.drop_left' h]

theorem flatMap_wordBytes_length (l : List Word) : (l.flatMap wordBytes).length = 8 * l.length := by
  induction l with
  | nil => rfl
  | cons w l ih =>
    rw [List.flatMap_cons, List.length_append, wordBytes_length, ih, List.length_cons]
    omega

theorem frameWord_flatMap (l : List Word) (rest : List Byte) {k : Nat} (hk : k < l.length) :
    frameWord (l.flatMap wordBytes ++ rest) (8 * k) = l[k] := by
  induction l generalizing k with
  | nil => cases hk
  | cons w l ih =>
    rw [List.flatMap_cons, List.append_assoc]
    cases k with
    | zero => exact frameWord_wordBytes_append w _
    | succ k =>
      rw [show 8 * (k + 1) = 8 + 8 * k by omega, frameWord_append (wordBytes_length w), ih (by simpa using hk)]
      rfl

theorem State.regBytes_length : s.regBytes.length = 128 := by
  rw [State.regBytes, flatMap_wordBytes_length, Vector.length_toList]

/-- A register in its frame. -/
theorem frameWord_regBytes (rest : List Byte) {k : Nat} (hk : k < 16) : frameWord (s.regBytes ++ rest) (8 * k) = s.regs[k] :=
  (frameWord_flatMap _ rest (by simpa using hk)).trans (by simp)

theorem frameWord_after_regBytes (rest : List Byte) (off : Nat) : frameWord (s.regBytes ++ rest) (128 + off) = frameWord rest off :=
  frameWord_append State.regBytes_length

theorem frameRegs_regBytes (rest : List Byte) : frameRegs (s.regBytes ++ rest) = s.regs := by
  refine Vector.ext fun k hk => ?_
  rw [frameRegs, Vector.getElem_ofFn]
  exact frameWord_regBytes rest hk

/-- A register restored from a frame. -/
theorem frameRegs_getElem {bs : List Byte} (k : Reg) : (frameRegs bs)[k.toNat] = frameWord bs (8 * k.toNat) := by
  rw [frameRegs, Vector.getElem_ofFn]
  rfl

theorem leaveInterrupt_reg {bs : List Byte} (k : Reg) : (s.leaveInterrupt bs).reg k = frameWord bs (8 * k.toNat) :=
  frameRegs_getElem k

theorem leaveDebugger_reg {step : Bool} {bs : List Byte} (k : Reg) :
    (s.leaveDebugger step bs).reg k = frameWord bs (8 * k.toNat) := frameRegs_getElem k

theorem leaveInterrupt_lp {bs : List Byte} : (s.leaveInterrupt bs).lp = min (lowChan (frameWord bs 128)) s.hpac := rfl

theorem leaveInterrupt_pc {bs : List Byte} : (s.leaveInterrupt bs).pc = lo32 (frameWord bs 136) := rfl

theorem leaveDebugger_pc {step : Bool} {bs : List Byte} : (s.leaveDebugger step bs).pc = lo32 (frameWord bs 128) := rfl

theorem leaveDebugger_pswBit {step : Bool} {bs : List Byte} {j : Nat} (hj : j < 64) :
    (s.leaveDebugger step bs).pswBit j = if j = 12 then step else s.pswBit j :=
  State.pswBit_setPswBit _ _ _ _ (by decide) hj

theorem lowChan_eq {w : Word} {p : Chan} (h : w.toNat % 16 = p.val) : lowChan w = p := Fin.ext h

/-- The offset of a register in a frame. -/
theorem regOffset_eq (k : Reg) : (8 * k.setWidth 32 : Addr) = BitVec.ofNat 32 (8 * k.toNat) := by
  revert k
  decide

theorem State.intFrame_length (lp : Chan) : (s.intFrame lp).length = 144 := by
  simp [State.intFrame, State.regBytes_length]

theorem State.dbgFrame_length : s.dbgFrame.length = 136 := by
  simp [State.dbgFrame, State.regBytes_length]

theorem State.intFrame_eq (lp : Chan) : s.intFrame lp =
    s.regBytes ++ (wordBytes (BitVec.ofNat 64 lp.val) ++ (wordBytes (zext32 s.pc) ++ [])) := by
  rw [State.intFrame, List.append_nil, List.append_assoc]

theorem State.dbgFrame_eq : s.dbgFrame = s.regBytes ++ (wordBytes (zext32 s.pc) ++ []) := by
  rw [State.dbgFrame, List.append_nil]

theorem intFrame_words (lp : Chan) : (∀ k : Reg, frameWord (s.intFrame lp) (8 * k.toNat) = s.reg k) ∧
    frameWord (s.intFrame lp) 128 = BitVec.ofNat 64 lp.val ∧ frameWord (s.intFrame lp) 136 = zext32 s.pc := by
  rw [State.intFrame_eq]
  refine ⟨fun k => frameWord_regBytes _ k.isLt, ?_, ?_⟩
  · exact (frameWord_after_regBytes _ 0).trans (frameWord_wordBytes_append _ _)
  · refine (frameWord_after_regBytes _ 8).trans ?_
    exact (frameWord_append (off := 0) (wordBytes_length _)).trans (frameWord_wordBytes_append _ _)

theorem dbgFrame_words : (∀ k : Reg, frameWord s.dbgFrame (8 * k.toNat) = s.reg k) ∧ frameWord s.dbgFrame 128 = zext32 s.pc := by
  rw [State.dbgFrame_eq]
  exact ⟨fun k => frameWord_regBytes _ k.isLt, (frameWord_after_regBytes _ 0).trans (frameWord_wordBytes_append _ _)⟩

/-- Bytes put into memory read back. -/
theorem readBytes_poke (hm : s.memOk) {bs : List Byte} {n : Nat} (a : Addr) (h : bs.length = n) (hn : n ≤ 2 ^ 32) :
    readBytes (s.poke a bs).mem a n = bs := by
  subst h
  exact readBytes_writeBytes a bs hm hn

/-- The bytes outside what was put into memory. -/
theorem byteAt_poke_ne {a b : Addr} {bs : List Byte} {n : Nat} (h : bs.length = n)
    (hb : ∀ k, k < n → b ≠ a + BitVec.ofNat 32 k) : (s.poke a bs).byteAt b = s.byteAt b := by
  subst h
  exact readCell_writeBytes_ne _ _ _ _ fun j hj he => hb j hj (BitVec.eq_of_toNat_eq he.symm)

/-! ### The entry of an interrupt handler (R706, R707) -/

theorem interruptEntry_stored {f : Nat} {v : Addr} {lp0 : Chan} (hm : s.memOk)
    (h : s.allowedRange .write (lo32 (s.reg 15) - 144) 144 = true) :
    ∃ t, interruptEntry f v lp0 s = .next t ∧ InterruptEntered f v lp0 s t ∧
      t.mem = (s.poke (lo32 (s.reg 15) - 144) (s.intFrame lp0)).mem := by
  have hst : s.store (lo32 (s.reg sp) - 144) (s.intFrame lp0) = some (s.poke (lo32 (s.reg sp) - 144) (s.intFrame lp0)) :=
    State.store_of_allowed (by rw [State.intFrame_length]; exact h)
  have hread := readBytes_poke hm (lo32 (s.reg 15) - 144) (State.intFrame_length (s := s) lp0) (by decide)
  obtain ⟨hregs, hlp, hpc⟩ := intFrame_words (s := s) lp0
  have hx : ∃ t, interruptEntry f v lp0 s = .next t ∧ t =
      { ((((s.poke (lo32 (s.reg 15) - 144) (s.intFrame lp0)).setReg 15 (zext32 (lo32 (s.reg 15) - 144))).setReg 0
        (zext32 (lo32 (s.reg 15) - 144 + 136))).setReg 1 (zext32 (lo32 (s.reg 15) - 144))).setReg 2
        (BitVec.ofNat 64 f) with pc := v, blocked := false, manager := .idle } := by
    refine ⟨_, ?_, rfl⟩
    unfold interruptEntry
    simp only [hst]
    rfl
  obtain ⟨t, hx, ht⟩ := hx
  have hmem : t.mem = (s.poke (lo32 (s.reg 15) - 144) (s.intFrame lp0)).mem := by rw [ht]; rfl
  have hword : ∀ off, off + 8 ≤ 144 → wordAt t (lo32 (s.reg 15) - 144 + BitVec.ofNat 32 off) = frameWord (s.intFrame lp0) off :=
    fun off ho => by rw [wordAt_eq_frameWord _ ho, hmem, hread]
  have hreg : ∀ r, t.reg r = if r = 2 then BitVec.ofNat 64 f else if r = 1 then zext32 (lo32 (s.reg 15) - 144) else
      if r = 0 then zext32 (lo32 (s.reg 15) - 144 + 136) else if r = 15 then zext32 (lo32 (s.reg 15) - 144) else s.reg r :=
    fun r => by
      have : t.reg r = (((((s.poke (lo32 (s.reg 15) - 144) (s.intFrame lp0)).setReg 15 (zext32 (lo32 (s.reg 15) - 144))).setReg 0
        (zext32 (lo32 (s.reg 15) - 144 + 136))).setReg 1 (zext32 (lo32 (s.reg 15) - 144))).setReg 2 (BitVec.ofNat 64 f)).reg r := by
        rw [ht]
        rfl
      rw [this, State.reg_setReg, State.reg_setReg, State.reg_setReg, State.reg_setReg]
      rfl
  refine ⟨t, hx, ⟨hreg 15, hreg 0, hreg 1, hreg 2, fun r hr => ?_, fun k => ?_, ?_, ?_, fun a ha => ?_, ?_⟩, hmem⟩
  · simp only [List.mem_cons, List.not_mem_nil, or_false, not_or] at hr
    rw [hreg, if_neg hr.2.2.1, if_neg hr.2.1, if_neg hr.1, if_neg hr.2.2.2]
  · have := k.isLt
    rw [regOffset_eq, hword _ (by omega), hregs]
  · exact (hword 128 (by decide)).trans hlp
  · exact (hword 136 (by decide)).trans hpc
  · rw [State.byteAt, hmem]
    exact byteAt_poke_ne (State.intFrame_length lp0) ha
  · rw [ht]
    rfl

theorem interruptEntry_denied {f : Nat} {v : Addr} {lp0 : Chan}
    (h : s.allowedRange .write (lo32 (s.reg 15) - 144) 144 = false) : interruptEntry f v lp0 s = .fault .frameStore := by
  have hst : s.store (lo32 (s.reg sp) - 144) (s.intFrame lp0) = none :=
    State.store_of_denied (by rw [State.intFrame_length]; exact h)
  unfold interruptEntry
  simp only [hst]

/-! ### The entry of the Debugger (R709, R710) -/

theorem enterDebugger_stored {r : BreakReason} {oldPc data : Addr} (hm : s.memOk)
    (h : s.allowedRange .write (lo32 (s.reg 15) - 136) 136 = true) :
    ∃ t, enterDebugger r oldPc data s = some t ∧ DebuggerEntered s t r.code (r.r3 oldPc) (r.r4 data) s.pc ∧
      t.mem = (s.poke (lo32 (s.reg 15) - 136) s.dbgFrame).mem := by
  have hst : s.store (lo32 (s.reg sp) - 136) s.dbgFrame = some (s.poke (lo32 (s.reg sp) - 136) s.dbgFrame) :=
    State.store_of_allowed (by rw [State.dbgFrame_length]; exact h)
  have hread := readBytes_poke hm (lo32 (s.reg 15) - 136) (State.dbgFrame_length (s := s)) (by decide)
  obtain ⟨hregs, hpc⟩ := dbgFrame_words (s := s)
  have hx : ∃ t, enterDebugger r oldPc data s = some t ∧ t =
      ((((((((s.poke (lo32 (s.reg 15) - 136) s.dbgFrame).setReg 15 (zext32 (lo32 (s.reg 15) - 136))).setReg 0
        (zext32 (lo32 (s.reg 15) - 136 + 128))).setReg 1 (zext32 (lo32 (s.reg 15) - 136))).setReg 2
        r.code).setReg 3 (r.r3 oldPc)).setReg 4 (r.r4 data)).setSs false).setPc s.params.debuggerPc := by
    refine ⟨_, ?_, rfl⟩
    unfold enterDebugger
    simp only [hst]
    rfl
  obtain ⟨t, hx, ht⟩ := hx
  have hmem : t.mem = (s.poke (lo32 (s.reg 15) - 136) s.dbgFrame).mem := by rw [ht]; rfl
  have hpsw : ∀ j, j < 64 → t.pswBit j = if j = 12 then false else s.pswBit j := fun j hj => by
    rw [ht]
    exact State.pswBit_setPswBit _ _ _ _ (by decide) hj
  have hword : ∀ off, off + 8 ≤ 136 → wordAt t (lo32 (s.reg 15) - 136 + BitVec.ofNat 32 off) = frameWord s.dbgFrame off :=
    fun off ho => by rw [wordAt_eq_frameWord _ ho, hmem, hread]
  have hreg : ∀ q, t.reg q = if q = 4 then r.r4 data else if q = 3 then r.r3 oldPc else if q = 2 then r.code else
      if q = 1 then zext32 (lo32 (s.reg 15) - 136) else if q = 0 then zext32 (lo32 (s.reg 15) - 136 + 128) else
      if q = 15 then zext32 (lo32 (s.reg 15) - 136) else s.reg q := fun q => by
    have : t.reg q = (((((((s.poke (lo32 (s.reg 15) - 136) s.dbgFrame).setReg 15 (zext32 (lo32 (s.reg 15) - 136))).setReg 0
        (zext32 (lo32 (s.reg 15) - 136 + 128))).setReg 1 (zext32 (lo32 (s.reg 15) - 136))).setReg 2
        r.code).setReg 3 (r.r3 oldPc)).setReg 4 (r.r4 data)).reg q := by
      rw [ht]
      rfl
    rw [this, State.reg_setReg, State.reg_setReg, State.reg_setReg, State.reg_setReg, State.reg_setReg, State.reg_setReg]
    rfl
  refine ⟨t, hx, ⟨by rw [ht]; rfl, hreg 15, hreg 0, hreg 1, hreg 2, hreg 3, hreg 4, fun q hq => ?_, hpsw 12 (by decide),
    fun j hj hn => ?_, by rw [ht]; rfl, fun k => ?_, ?_, fun a ha => ?_, ?_⟩, hmem⟩
  · simp only [List.mem_cons, List.not_mem_nil, or_false, not_or] at hq
    obtain ⟨h0, h1, h2, h3, h4, h15⟩ := hq
    rw [hreg, if_neg h4, if_neg h3, if_neg h2, if_neg h1, if_neg h0, if_neg h15]
  · rw [hpsw j hj, if_neg (by simpa using hn)]
  · have := k.isLt
    rw [regOffset_eq, hword _ (by omega), hregs]
  · exact (hword 128 (by decide)).trans hpc
  · rw [State.byteAt, hmem]
    exact byteAt_poke_ne State.dbgFrame_length ha
  · rw [ht]
    rfl

theorem enterDebugger_denied {r : BreakReason} {oldPc data : Addr}
    (h : s.allowedRange .write (lo32 (s.reg 15) - 136) 136 = false) : enterDebugger r oldPc data s = none := by
  have hst : s.store (lo32 (s.reg sp) - 136) s.dbgFrame = none :=
    State.store_of_denied (by rw [State.dbgFrame_length]; exact h)
  unfold enterDebugger
  simp only [hst]
  rfl

theorem debuggerEntry_stored {r : BreakReason} {oldPc data : Addr} (hm : s.memOk)
    (h : s.allowedRange .write (lo32 (s.reg 15) - 136) 136 = true) :
    ∃ t, debuggerEntry r oldPc data s = .next t ∧ DebuggerEntered s t r.code (r.r3 oldPc) (r.r4 data) s.pc := by
  obtain ⟨t, hx, ht, -⟩ := enterDebugger_stored (r := r) (oldPc := oldPc) (data := data) hm h
  exact ⟨t, by rw [debuggerEntry, hx], ht⟩

/-! ### Returns (R556, R557) -/

/-- IXIT takes the frame it can read. -/
theorem ixit_loaded {u : Nib} {d : BitVec 8} (h : s.allowedRange .read (lo32 (s.reg 15 + d.setWidth 64)) 144 = true) :
    exec (.ixit u d) s = .next (s.leaveInterrupt (readBytes s.mem (lo32 (s.reg 15 + d.setWidth 64)) 144)) := by
  have hl : s.load (s.frameAddr d) intFrameSize = some (readBytes s.mem (lo32 (s.reg 15 + d.setWidth 64)) 144) :=
    State.load_of_allowed h
  show returnFromInterrupt _ d s = _
  unfold returnFromInterrupt
  rw [hl]

/-- BXIT takes the frame it can read. -/
theorem bxit_loaded {u : Nib} {d : BitVec 8} {c : Bool} (h0 : s.reg 0 = if c then 1 else 0)
    (h : s.allowedRange .read (lo32 (s.reg 15 + d.setWidth 64)) 136 = true) :
    exec (.bxit u d) s = .next (s.leaveDebugger c (readBytes s.mem (lo32 (s.reg 15 + d.setWidth 64)) 136)) := by
  have hl : s.load (s.frameAddr d) dbgFrameSize = some (readBytes s.mem (lo32 (s.reg 15 + d.setWidth 64)) 136) :=
    State.load_of_allowed h
  have hc : s.reg 0 = 0 ∨ s.reg 0 = 1 := by
    rw [h0]
    cases c
    · exact .inl rfl
    · exact .inr rfl
  have hstep : decide (s.reg 0 = 1) = c := by
    rw [h0]
    cases c <;> rfl
  show returnFromDebugger _ d s = _
  unfold returnFromDebugger
  rw [if_pos hc, hl, hstep]

/-! ### The boundary before the timers (R702, R711) -/

theorem singleStep_armed (hs : s.ss = true) (hb : s.blocked = false) : singleStep true s = debuggerEntry .singleStep 0 0 s :=
  if_pos (by rw [hs, hb]; rfl)

theorem singleStep_unarmed {armed : Bool} (h : armed = false ∨ s.ss = false) : singleStep armed s = .next s :=
  if_neg (by obtain h | h := h <;> simp [h])

theorem singleStep_waiting {armed : Bool} (h : s.blocked = true) : singleStep armed s = .next s :=
  if_neg (by simp [h])

/-- The boundary of an instruction that has ended. -/
theorem boundary_ended {a : Addr} {armed : Bool} (hb : s.blocked = false)
    (h : singleStep armed { s with lastPc := a, manager := .idle } = .next t) :
    boundary (some a) armed s = environment t.tick := by
  unfold boundary
  simp only [hb, Bool.false_eq_true, if_false, Option.getD_some]
  rw [← hb, h]
  rfl

theorem lo32_add_zero (a : Addr) : lo32 (zext32 a + (0 : BitVec 8).setWidth 64) = a := by
  rw [show ((0 : BitVec 8).setWidth 64 : Word) = 0#64 from rfl, BitVec.add_zero, lo32_zext32]

/-- Settles O17. -/
theorem interruptReturns : Obligations.InterruptReturns := by
  refine ⟨fun s t f v lp0 u hm hx hr => ?_, ?_⟩
  · have hw : s.allowedRange .write (lo32 (s.reg 15) - 144) 144 = true := by
      by_contra hd
      rw [interruptEntry_denied (Bool.not_eq_true _ ▸ hd)] at hx
      cases hx
    obtain ⟨t', hx', ⟨h15, -, -, -, -, -, -, -, hbytes, ht⟩, hmem⟩ := interruptEntry_stored (f := f) (v := v) (lp0 := lp0) hm hw
    obtain rfl : t = t' := Host.Outcome.next.inj (hx.symm.trans hx')
    have haddr : lo32 (t.reg 15 + (0 : BitVec 8).setWidth 64) = lo32 (s.reg 15) - 144 := by rw [h15, lo32_add_zero]
    have hpages : t.pages = s.pages := by rw [ht]
    have hread : readBytes t.mem (lo32 (s.reg 15) - 144) 144 = s.intFrame lp0 := by
      rw [hmem]
      exact readBytes_poke hm _ (State.intFrame_length lp0) (by decide)
    have hexit := ixit_loaded (s := t) (u := u) (d := 0) (by rw [haddr, State.allowedRange_congr hpages, hr])
    rw [haddr, hread] at hexit
    obtain ⟨-, hlp, hpc⟩ := intFrame_words (s := s) lp0
    have hfun : t.funnels = s.funnels := by rw [ht]
    refine ⟨_, hexit, ?_, ?_, ?_, ?_, ?_, hbytes⟩
    · rw [State.intFrame_eq]
      exact frameRegs_regBytes _
    · show lo32 (frameWord (s.intFrame lp0) 136) = s.pc
      rw [hpc, lo32_zext32]
    · show t.psw = s.psw
      rw [ht]
    · show min (lowChan (frameWord (s.intFrame lp0) 128)) (highest (activeChannels t.funnels.entries)) = min lp0 s.hpac
      have hlow : lowChan (BitVec.ofNat 64 lp0.val) = lp0 := lowChan_eq (by
        have := lp0.isLt
        rw [BitVec.toNat_ofNat]
        omega)
      rw [hlp, hlow, hfun]
      rfl
    · exact hfun
  · intro s u d b h
    refine ⟨_, ixit_loaded h, fun k => ?_, fun p hp => ?_, ?_, rfl⟩
    · have := k.isLt
      rw [regOffset_eq, wordAt_eq_frameWord (n := 144) b (by omega)]
      exact leaveInterrupt_reg k
    · have h128 : wordAt s (b + 128) = frameWord (readBytes s.mem b 144) 128 := wordAt_eq_frameWord (off := 128) b (by decide)
      rw [h128] at hp
      rw [leaveInterrupt_lp, lowChan_eq hp]
    · have h136 : wordAt s (b + 136) = frameWord (readBytes s.mem b 144) 136 := wordAt_eq_frameWord (off := 136) b (by decide)
      rw [h136]
      exact leaveInterrupt_pc

/-- Settles O18. -/
theorem breakpointReturns : Obligations.BreakpointReturns := by
  refine ⟨fun s u hm hw hr => ?_, ?_, fun s a hm hb => ⟨fun hs hw => ?_, fun armed ha => ?_⟩, fun s a armed hb => ?_⟩
  · have hw' : (s.setPc (s.pc + 1)).allowedRange .write (lo32 ((s.setPc (s.pc + 1)).reg 15) - 136) 136 = true :=
      (State.allowedRange_congr (s := s) (t := s.setPc (s.pc + 1)) rfl _ _ _).trans hw
    obtain ⟨t, hx, hent, hmem⟩ := enterDebugger_stored (s := s.setPc (s.pc + 1)) (r := .breakpoint) (oldPc := s.pc) (data := 0)
      hm hw'
    have hexec : exec .breakpoint s = .next t := by
      show execBreakpoint s = _
      unfold execBreakpoint
      rw [hx]
    refine ⟨t, hexec, hent, fun c => ?_⟩
    obtain ⟨-, h15, -, -, -, -, -, -, -, hpsw, hlp, -, -, -, ht⟩ := hent
    have h15' : (t.setReg 0 (if c then 1 else 0)).reg 15 = zext32 (lo32 (s.reg 15) - 136) :=
      (State.reg_setReg_ne t _ (by decide)).trans h15
    have haddr : lo32 ((t.setReg 0 (if c then 1 else 0)).reg 15 + (0 : BitVec 8).setWidth 64) = lo32 (s.reg 15) - 136 := by
      rw [h15', lo32_add_zero]
    have hpages : (t.setReg 0 (if c then 1 else 0)).pages = s.pages := by
      show t.pages = s.pages
      rw [ht]
      rfl
    have hread : readBytes t.mem (lo32 (s.reg 15) - 136) 136 = (s.setPc (s.pc + 1)).dbgFrame := by
      rw [hmem]
      exact readBytes_poke (s := s.setPc (s.pc + 1)) hm _ State.dbgFrame_length (by decide)
    have hexit := bxit_loaded (s := t.setReg 0 (if c then 1 else 0)) (u := u) (d := 0) (c := c) (State.reg_setReg_same _ _ _)
      (by rw [haddr, State.allowedRange_congr hpages, hr])
    rw [haddr] at hexit
    replace hexit : exec (.bxit u 0) (t.setReg 0 (if c then 1 else 0)) = .next
        ((t.setReg 0 (if c then 1 else 0)).leaveDebugger c (s.setPc (s.pc + 1)).dbgFrame) := hexit.trans (by rw [← hread]; rfl)
    have hregs : frameRegs (s.setPc (s.pc + 1)).dbgFrame = s.regs := by
      rw [State.dbgFrame_eq]
      exact frameRegs_regBytes (s := s) _
    have hpc : lo32 (frameWord (s.setPc (s.pc + 1)).dbgFrame 128) = s.pc + 1 := by
      rw [dbgFrame_words.2, lo32_zext32]
      rfl
    refine ⟨_, hexit, hregs, hpc, ?_, fun j hj hn => ?_, hlp, ?_⟩
    · exact leaveDebugger_pswBit (j := 12) (by decide)
    · refine (leaveDebugger_pswBit hj).trans ((if_neg (by simpa using hn)).trans (hpsw j hj hn))
    · rw [State.leaveDebugger, hregs, ht]
      rfl
  · intro s u d c b h0 h
    refine ⟨_, bxit_loaded h0 h, fun k => ?_, ?_, ?_, fun j hj hn => ?_, rfl⟩
    · have := k.isLt
      rw [regOffset_eq, wordAt_eq_frameWord (n := 136) b (by omega)]
      exact leaveDebugger_reg k
    · have h128 : wordAt s (b + 128) = frameWord (readBytes s.mem b 136) 128 := wordAt_eq_frameWord (off := 128) b (by decide)
      rw [h128]
      exact leaveDebugger_pc
    · exact leaveDebugger_pswBit (j := 12) (by decide)
    · exact (leaveDebugger_pswBit hj).trans (if_neg (by simpa using hn))
  · have hw' : State.allowedRange { s with lastPc := a, manager := .idle } .write (lo32 (s.reg 15) - 136) 136 = true :=
      (State.allowedRange_congr (s := s) (t := { s with lastPc := a, manager := .idle }) rfl _ _ _).trans hw
    obtain ⟨t, hx, hent⟩ := debuggerEntry_stored (s := { s with lastPc := a, manager := .idle }) (r := .singleStep) (oldPc := 0)
      (data := 0) hm hw'
    have ht := hent
    obtain ⟨-, -, -, -, -, -, -, -, -, -, -, -, -, -, ht⟩ := ht
    exact ⟨t, boundary_ended hb ((singleStep_armed (s := { s with lastPc := a, manager := .idle }) hs hb).trans hx), by rw [ht], by rw [ht], hent⟩
  · exact ⟨_, boundary_ended hb (singleStep_unarmed ha), rfl⟩
  · unfold boundary
    simp only [hb, if_true, singleStep_waiting hb]
    rfl


/-! ### Deliveries and the environment's events (R10, R578) -/

theorem deliver_accepted {f : Nat} {e : Funnel} {m : Message} (ho : s.openFunnel f = some e) (ha : Accepts s f e)
    (ht : s.tablesOk) : deliver f m s = interruptEntry f e.vector s.lp (s.arrived f e m) := by
  rw [deliver_open ho, deliverTo_eq, if_pos (State.interrupts_arrived.2 ha ht)]

theorem deliver_unaccepted {f : Nat} {e : Funnel} {m : Message} (ho : s.openFunnel f = some e) (ha : ¬ Accepts s f e) :
    deliver f m s = .next (s.arrived f e m) := by
  rw [deliver_open ho, deliverTo_eq, if_neg fun h => ha (State.interrupts_arrived.1 h)]

theorem Upd.keeps_arrivals {k : Kind} (hu : Upd k s t) : t.arrivals = s.arrivals := by
  cases hu <;> rfl

theorem Reach.keeps_arrivals {K : Kind → Prop} (h : Reach K s t) : t.arrivals = s.arrivals :=
  h.rel (R := fun a b => b.arrivals = a.arrivals) (fun _ => rfl) (fun _ _ _ h h' => h'.trans h) fun _ _ _ _ hu => hu.keeps_arrivals

theorem debuggerBreak_keeps_arrivals {r : BreakReason} {p d : Addr}
    (h : (if s.blocked = true then Host.Outcome.next s else debuggerEntry r p d s) = .next t) : t.arrivals = s.arrivals := by
  split at h
  · cases h
    rfl
  · exact (Leads.debuggerEntry (K := fun _ => True) trivial .refl _ h).keeps_arrivals

/-- No event touches the lists of the boundaries to come. -/
theorem applyEvent_keeps_arrivals {e : EnvEvent} (h : applyEvent e s = .next t) : t.arrivals = s.arrivals := by
  unfold applyEvent at h
  split at h
  case h_1 => exact (Leads.deliver (K := fun _ => True) trivial _ _ .refl _ h).keeps_arrivals
  case h_2 =>
    split at h <;> cases h <;> rfl
  case h_3 =>
    cases h
    unfold State.remap
    split
    · rfl
    · split <;> rfl
  case h_4 | h_5 | h_6 => exact debuggerBreak_keeps_arrivals h
  case h_11 =>
    cases h
    split <;> rfl
  all_goals
    cases h
    rfl

theorem environment_nil (h : s.arrivals.headD [] = []) : environment s = .next { s with arrivals := s.arrivals.tail } := by
  unfold environment
  rw [h]
  rfl

theorem environment_cons {e : EnvEvent} {es : List EnvEvent} {rest : List (List EnvEvent)} (h : s.arrivals = (e :: es) :: rest) :
    environment s = Res.bind (applyEvent e { s with arrivals := rest }) fun u => environment { u with arrivals := es :: rest } := by
  unfold environment
  rw [h]
  show (applyEvent e { s with arrivals := rest }).bind (applyEvents es) = _
  cases hx : applyEvent e { s with arrivals := rest } with
  | fault f => rfl
  | refused n => rfl
  | next u =>
    show applyEvents es u = applyEvents es { u with arrivals := rest }
    rw [← show u.arrivals = rest from applyEvent_keeps_arrivals hx]

/-- A byte that another agent stores. -/
theorem State.poke_byteAt (hm : s.memOk) (a c : Addr) (b : Byte) : (s.poke a [b]).byteAt c = if c = a then b else s.byteAt c := by
  show readCell (writeCell s.mem a.toNat b) c.toNat = _
  split
  · next h => rw [h, readCell_writeCell_same _ _ hm]
  · next h => exact readCell_writeCell_ne _ _ fun he => h (BitVec.eq_of_toNat_eq he)

theorem sharedStore_ends (hm : s.memOk) (a : Addr) (b : Byte) :
    ∃ t, applyEvent (.sharedStore a b) s = .next t ∧ t = { s with mem := t.mem } ∧
      ∀ c, t.byteAt c = if c = a ∧ (s.pageAt a).isSome then b else s.byteAt c := by
  by_cases hp : (s.pageAt a).isSome = true
  · exact ⟨_, if_pos hp, rfl, fun c => by simp only [State.poke_byteAt hm, hp, and_true]⟩
  · exact ⟨_, if_neg hp, rfl, fun c => by simp [hp]⟩

theorem readCell_zeroPage (m : List Host.Cell) (n k : Nat) :
    readCell (zeroPage m n) k = if k / 2048 = n then 0 else readCell m k := by
  have h := get_filter_key (fun k => decide (k / 2048 ≠ n)) m k
  rw [readCell, zeroPage, h]
  by_cases hk : k / 2048 = n <;> simp [hk, readCell]

/-- What becomes of the map and of memory where a page's entry changes. -/
theorem State.remap_fields (ht : s.tablesOk) (n : Nat) (q : Option Page) :
    s.remap n q = { s with pages := (s.remap n q).pages, mem := (s.remap n q).mem } ∧
    Assoc.get (s.remap n q).pages n = q ∧ (∀ k, k ≠ n → Assoc.get (s.remap n q).pages k = Assoc.get s.pages k) ∧
    ∀ a : Addr, (s.remap n q).byteAt a =
      if a.toNat / 2048 = n ∧ ¬ (q.isSome ∧ (Assoc.get s.pages n).isSome) then 0 else s.byteAt a := by
  obtain ⟨-, -, hp⟩ := ht
  have hset : ∀ (p : Page) k, Assoc.get (Assoc.set s.pages n p) k = if k = n then some p else Assoc.get s.pages k :=
    fun p k => Assoc.get_set _ _ _ _
  cases q with
  | none =>
    refine ⟨rfl, Assoc.get_erase_same n hp, fun k hk => Assoc.get_erase_ne _ hk, fun a => ?_⟩
    exact (readCell_zeroPage s.mem n a.toNat).trans (by simp [State.byteAt])
  | some p =>
    cases hg : Assoc.get s.pages n with
    | none =>
      have hr : s.remap n (some p) = { s with pages := Assoc.set s.pages n p, mem := zeroPage s.mem n } := by
        simp only [State.remap, hg]
      rw [hr]
      refine ⟨rfl, (hset p n).trans (if_pos rfl), fun k hk => (hset p k).trans (if_neg hk), fun a => ?_⟩
      exact (readCell_zeroPage s.mem n a.toNat).trans (by simp [State.byteAt])
    | some p' =>
      have hr : s.remap n (some p) = { s with pages := Assoc.set s.pages n p } := by
        simp only [State.remap, hg]
      rw [hr]
      exact ⟨rfl, (hset p n).trans (if_pos rfl), fun k hk => (hset p k).trans (if_neg hk), fun a => by simp [State.byteAt]⟩

/-- A break of the environment enters the Debugger unless the process waits (R709). -/
theorem debuggerBreak_ends {r : BreakReason} {p d : Addr} (hm : s.memOk) :
    (s.blocked = false → s.allowedRange .write (lo32 (s.reg 15) - 136) 136 = true →
      ∃ t, (if s.blocked = true then Host.Outcome.next s else debuggerEntry r p d s) = .next t ∧
        DebuggerEntered s t r.code (r.r3 p) (r.r4 d) s.pc) ∧
    (s.blocked = true → (if s.blocked = true then Host.Outcome.next s else debuggerEntry r p d s) = .next s) := by
  refine ⟨fun hb hw => ?_, fun hb => if_pos hb⟩
  obtain ⟨t, hx, ht⟩ := debuggerEntry_stored (r := r) (oldPc := p) (data := d) hm hw
  exact ⟨t, (if_neg (by rw [hb]; exact Bool.false_ne_true)).trans hx, ht⟩

/-- Settles O16. -/
theorem deliveriesAndEvents : Obligations.DeliveriesAndEvents := by
  refine ⟨fun f m s => ⟨deliver_closed, fun e ho => ⟨s.arrived f e m, s.arrived_queued f e m, deliver_unaccepted ho, deliver_accepted ho⟩⟩,
    fun f v lp0 s hm => ⟨fun h => ?_, interruptEntry_denied⟩, fun s => ⟨environment_nil, fun _ _ _ => environment_cons⟩,
    fun _ _ _ => rfl, fun s hm ht => ⟨sharedStore_ends hm, fun n q => ⟨s.remap n q, rfl, State.remap_fields ht n q⟩, ?_, ⟨rfl, ?_⟩,
      fun _ => rfl, fun c v => ⟨_, rfl, rfl, fun k => ?_⟩, fun h => ?_, fun h => ?_⟩⟩
  · obtain ⟨t, hx, ht, -⟩ := interruptEntry_stored (f := f) (v := v) (lp0 := lp0) hm h
    exact ⟨t, hx, ht⟩
  · simp only [List.forall_mem_cons, List.not_mem_nil, false_imp_iff, implies_true, and_true]
    exact ⟨fun a => debuggerBreak_ends hm, fun a => debuggerBreak_ends hm, fun a => debuggerBreak_ends hm⟩
  · unfold step
    exact if_pos rfl
  · show (s.chanPrio.set c.val v c.isLt)[k.val] = _
    rw [Vector.getElem_set]
    simp only [Fin.ext_iff, eq_comm]
    rfl
  · exact congrArg Host.Outcome.next (if_pos h)
  · exact congrArg Host.Outcome.next (if_neg h)

/-! ### The message of an exception (R722) -/

theorem leftJustify_length (n : Nat) (bs : List Byte) : (leftJustify n bs).length = n := by
  simp [leftJustify]

theorem excData_fields (bytes : List Byte) (a : Addr) (e : Exc) :
    (excData bytes a e).length = 104 ∧ (excData bytes a e).take 9 = leftJustify 9 bytes ∧
    (excData bytes a e)[15]? = some (BitVec.ofNat 8 e.code.num) ∧ ((excData bytes a e).drop 16).take 4 = beBytes 4 a.toNat ∧
    wordOf (((excData bytes a e).drop 40).take 8) = e.src1 ∧ wordOf (((excData bytes a e).drop 56).take 8) = e.src2 ∧
    wordOf (((excData bytes a e).drop 64).take 8) = e.high ∧ wordOf (((excData bytes a e).drop 72).take 8) = e.low := by
  have hj := leftJustify_length 9 bytes
  refine ⟨?_, ?_, ?_, ?_, ?_, ?_, ?_, ?_⟩
  · simp [excData, hj, wordBytes_length, beBytes_length]
  · simp only [excData, List.append_assoc]
    exact List.take_left' hj
  · simp [excData, hj, List.getElem?_append, -List.reduceReplicate]
  all_goals simp [excData, hj, List.drop_append, List.drop_eq_nil_of_le, wordBytes_length, beBytes_length, wordOf_wordBytes,
    -List.reduceReplicate]

/-- Settles O15. -/
theorem enabledExceptionInterrupts : Obligations.EnabledExceptionInterrupts := by
  refine ⟨fun _ _ _ => rfl, fun bytes pcField next e s l fe hm ht hen hl ho ha hw => ?_⟩
  let v := (s.setOccurred e.code).setPc next
  let m : Message := { rci := mkRci l.linkCode 2 0 v.excSender 104, data := excData bytes pcField e, link := none }
  have hsend : raiseAt bytes pcField next e s = deliver 2 m v := by
    rw [raiseAt_enabled hen]
    unfold sendException
    rw [show ((s.setOccurred e.code).setPc next).link excLink = some l from hl]
    rfl
  have hdel : deliver 2 m v = interruptEntry 2 fe.vector s.lp (v.arrived 2 fe m) := deliver_accepted (s := v) ho ha ht
  obtain ⟨t, hx, hint, -⟩ := interruptEntry_stored (s := v.arrived 2 fe m) (f := 2) (v := fe.vector) (lp0 := s.lp) hm
    ((State.allowedRange_congr (s := s) (t := v.arrived 2 fe m) rfl _ _ _).trans hw)
  obtain ⟨hlen, htake, hcode, hpc, h1, h2, hhigh, hlow⟩ := excData_fields bytes pcField e
  exact ⟨t, _, m, hsend.trans (hdel.trans hx), v.arrived_queued 2 fe m, hint, hlen, htake, hcode, hpc, h1, h2, hhigh, hlow, rfl,
    mkRci_code .., mkRci_funnel .., mkRci_type .., mkRci_length ..⟩


/-! ### Violating accesses (R100, R571, R740) -/

/-- An access violation: exception 21 and nothing else (R740, D18). -/
theorem gone_of (h : exec i s = accessViolation i s) :
    exec i s = raiseAt [] s.pc (s.nextPc i) { code := .accessViolation } s ∧
    (s.excEnabled .accessViolation = false → Done i s (s.setOccurred .accessViolation)) ∧
    (s.excEnabled .accessViolation = true →
      exec i s = sendException [] s.pc { code := .accessViolation } ((s.setOccurred .accessViolation).setPc (s.nextPc i))) :=
  ⟨h, fun hd => h.trans (accessViolation_disabled hd), fun he => h.trans (raiseAt_enabled he)⟩

theorem readers_denied : ∀ e ∈ readers, ∀ o, s.lastVal e.2.1 e.2.2 o = none → exec (e.1 o) s = accessViolation (e.1 o) s := by
  unfold readers loads signedOps divisions dyadics shiftLoads floatOps
  simp only [List.map_cons, List.map_nil, List.cons_append, List.nil_append, List.forall_mem_cons, List.not_mem_nil,
    false_imp_iff, implies_true, and_true]
  and_intros <;> exact fun _ h => withLast_none h

theorem compares_denied : ∀ e ∈ compares, ∀ o a, s.lastVal e.2.1 e.2.2 o = none →
    exec (e.1 o a) s = accessViolation (e.1 o a) s := by
  unfold compares compareBranches compareTests floatCompares
  simp only [List.map_cons, List.map_nil, List.cons_append, List.nil_append, List.forall_mem_cons, List.not_mem_nil,
    false_imp_iff, implies_true, and_true]
  and_intros <;> exact fun _ _ h => withLast_none h

theorem convertOp_denied {n : Nat} {dst : Fmt} {op : FEnv → Word → FOut} {o : GOp} (h : s.lastVal .zero n o = none)
    (hx : dst = .extended → o.x.toNat < 14) : convertOp i n dst op o s = accessViolation i s := by
  refine (if_neg fun ⟨hd, hp⟩ => ?_).trans (withLast_none h)
  exact absurd (hx hd) (not_lt.mpr (pairTarget_eq_false.mp hp))

theorem conversions_exec : ∀ e ∈ conversions, ∃ op, ∀ o s, exec (e.1 o) s = convertOp (e.1 o) e.2.1 e.2.2 op o s := by
  unfold conversions
  simp only [List.forall_mem_cons, List.not_mem_nil, false_imp_iff, implies_true, and_true]
  exact ⟨⟨fun env b => fconvert env .double .extended (wordDatum .double b), fun _ _ => rfl⟩,
    ⟨fun env b => fconvert env .double .single (wordDatum .double b), fun _ _ => rfl⟩,
    ⟨fun env b => fconvert env .single .double (wordDatum .single b), fun _ _ => rfl⟩,
    ⟨fun env b => fconvert env .single .extended (wordDatum .single b), fun _ _ => rfl⟩,
    ⟨fun env b => ofInteger env .double b.toInt, fun _ _ => rfl⟩, ⟨fun env b => ofInteger env .single b.toInt, fun _ _ => rfl⟩,
    ⟨fun env b => finp env .single (wordDatum .single b), fun _ _ => rfl⟩,
    ⟨fun env b => finp env .double (wordDatum .double b), fun _ _ => rfl⟩⟩

theorem conversions_denied : ∀ e ∈ conversions, ∀ o, s.lastVal .zero e.2.1 o = none → (e.2.2 = .extended → o.x.toNat < 14) →
    exec (e.1 o) s = accessViolation (e.1 o) s := by
  intro e he o h hx
  obtain ⟨op, hop⟩ := conversions_exec e he
  exact (hop o s).trans (convertOp_denied h hx)

theorem withStore_lowBytes_denied {a : Addr} {n : Nat} {v : Word} {k : State → Res} (h : s.allowedRange .write a n = false) :
    withStore i a (lowBytes n v) s k = accessViolation i s :=
  withStore_denied (by rwa [lowBytes_length])

theorem stores_denied : ∀ e ∈ stores ++ checkedStores, ∀ o, s.allowedRange .write (s.ea o) e.2 = false →
    exec (e.1 o) s = accessViolation (e.1 o) s := by
  intro e he o h
  obtain he | he := List.mem_append.mp he
  · exact (stores_exec e he o s).trans (withStore_lowBytes_denied h)
  · obtain ⟨-, -, hx⟩ := checkedStores_exec e he
    exact (hx o s).trans (withStore_lowBytes_denied h)

theorem storeLast_denied {n : Nat} {o : GOp} {v : Word} (hm : o.last = .mem) (h : s.allowedRange .write (s.ea o) n = false) :
    storeLast i n o v s = accessViolation i s := by
  unfold storeLast
  rw [hm]
  exact withStore_lowBytes_denied h

theorem exchangeOp_denied {f : Word → Word → Word} {x z : Reg} (ha : (lo32 (s.reg z)).toNat % 8 = 0)
    (h : s.allowedRange .read (lo32 (s.reg z)) 8 = false ∨ s.allowedRange .write (lo32 (s.reg z)) 8 = false) :
    exchangeOp i f x z s = accessViolation i s := by
  unfold exchangeOp
  rw [if_pos ha]
  cases hr : s.allowedRange .read (lo32 (s.reg z)) 8 with
  | false => rw [State.load_of_denied hr]
  | true =>
    rw [State.load_of_allowed hr]
    exact withStore_denied (by rw [wordBytes_length]; exact h.resolve_left (by rw [hr]; decide))

theorem frames_denied : (∀ u d, s.allowedRange .write (lo32 (s.reg 15)) 4 = false → exec (.call u d) s = accessViolation (.call u d) s) ∧
    (∀ u b, s.allowedRange .read (lo32 (s.reg 15 + b.setWidth 64)) 4 = false → exec (.exit u b) s = accessViolation (.exit u b) s) ∧
    (∀ u b, s.allowedRange .read (lo32 (s.reg 15 + b.setWidth 64)) 144 = false →
      exec (.ixit u b) s = accessViolation (.ixit u b) s) ∧
    (∀ u b, s.reg 0 = 0 ∨ s.reg 0 = 1 → s.allowedRange .read (lo32 (s.reg 15 + b.setWidth 64)) 136 = false →
      exec (.bxit u b) s = accessViolation (.bxit u b) s) ∧
    (s.allowedRange .write (lo32 (s.reg 15) - 136) 136 = false → exec .breakpoint s = accessViolation .breakpoint s) := by
  refine ⟨fun u d h => ?_, fun u b h => ?_, fun u b h => ?_, fun u b h0 h => ?_, fun h => ?_⟩
  · exact withStore_denied (by rwa [beBytes_length])
  · have hl : s.loadNat (lo32 (s.reg 15 + b.setWidth 64)) 4 = none := by
      rw [State.loadNat, State.load_of_denied h]
      rfl
    show execExit u b s = _
    unfold execExit
    simp only [show sp = (15 : Reg) from rfl, hl]
  · have hl : s.load (s.frameAddr b) intFrameSize = none := State.load_of_denied h
    show returnFromInterrupt _ b s = _
    unfold returnFromInterrupt
    rw [hl]
  · have hl : s.load (s.frameAddr b) dbgFrameSize = none := State.load_of_denied h
    show returnFromDebugger _ b s = _
    unfold returnFromDebugger
    rw [if_pos h0, hl]
  · have hx : enterDebugger .breakpoint s.pc 0 (s.setPc (s.pc + 1)) = none :=
      enterDebugger_denied ((State.allowedRange_congr (s := s) (t := s.setPc (s.pc + 1)) rfl _ _ _).trans h)
    show execBreakpoint s = _
    unfold execBreakpoint
    rw [hx]

/-! ### Violating blocks of the message instructions -/

theorem State.allowedRange_append {k : Access} {a b : Addr} {n m : Nat} (h : s.allowedRange k a n = true)
    (hb : b = a + BitVec.ofNat 32 n) (h' : s.allowedRange k b m = true) : s.allowedRange k a (n + m) = true := by
  rw [State.allowedRange_iff] at h h' ⊢
  intro j hj
  by_cases hn : j < n
  · exact h j hn
  · have := h' (j - n) (by omega)
    rwa [hb, BitVec.add_assoc, ← BitVec.ofNat_add, Nat.add_sub_cancel' (not_lt.mp hn)] at this

theorem createLink_block_denied {x y z : Reg} (h : s.allowedRange .read (lo32 (s.reg y)) 4 = false) :
    exec (.createLink x y z) s = accessViolation (.createLink x y z) s := by
  show execCreateLink x y z s = _
  unfold execCreateLink
  cases h0 : s.allowedRange .read (lo32 (s.reg y)) 1 with
  | false => exact withField_denied h0
  | true =>
    refine (withField_allowed h0).trans ?_
    cases h1 : s.allowedRange .read (lo32 (s.reg y) + 1) 1 with
    | false => exact withField_denied h1
    | true =>
      refine (withField_allowed h1).trans (withField_denied ?_)
      by_contra h2
      have h4 := State.allowedRange_append (State.allowedRange_append h0 rfl h1) rfl (Bool.not_eq_false _ ▸ h2)
      rw [h] at h4
      cases h4

theorem createLink_id_unstored {x y z : Reg} {f id : Nat} {fe : Funnel}
    (h : s.allowedRange .read (lo32 (s.reg y)) 16 = true) (hw : s.allowedRange .write (lo32 (s.reg y) + 2) 2 = false)
    (hb : beNat (readBytes s.mem (lo32 (s.reg y)) 1) = f) (h1 : 1 < f) (hf : s.funnel f = some fe)
    (hn : s.linkSlot (beNat (readBytes s.mem (lo32 (s.reg y) + 2) 2)) = .ok id) :
    exec (.createLink x y z) s = accessViolation (.createLink x y z) s := by
  have hle : f ≤ 255 := hb ▸ Nat.le_of_lt_succ (beNat_readBytes_one _ _)
  subst hb
  have hx := (createLink_fields (x := x) (z := z) (State.allowedRange_sub h (j := 0) (m := 4) (by simp) (by omega))).trans
    (withFunnel_some (Nat.lt_of_succ_lt h1) hle hf)
  rw [if_neg (Nat.ne_of_gt h1), hn] at hx
  exact hx.trans ((withField_allowed (State.allowedRange_sub h (j := 8) rfl (by omega))).trans
    ((withField_allowed (State.allowedRange_sub h (j := 10) rfl (by omega))).trans
      (withStore_denied (by rwa [beBytes_length]))))

theorem forwardMsg_block_denied {x y z : Reg} (hp : s.params.impl80A = true)
    (h : s.allowedRange .read (lo32 (s.reg y)) 1 = false ∨ s.allowedRange .read (lo32 (s.reg y) + 2) 2 = false) :
    exec (.forwardMsg x y z) s = accessViolation (.forwardMsg x y z) s := by
  refine (if_pos hp).trans ?_
  cases h0 : s.allowedRange .read (lo32 (s.reg y)) 1 with
  | false => exact withField_denied h0
  | true => exact (withField_allowed h0).trans (withField_denied (h.resolve_left (by rw [h0]; decide)))

theorem placeLink_unread {a : Addr} {l : Lte} (h : s.allowedRange .read a 2 = false) : s.placeLink a l = none := by
  rw [State.placeLink, State.loadNat, State.load_of_denied h]
  rfl

theorem placeLink_unwritten {a : Addr} {id : Nat} {l : Lte} (ha : s.allowedRange .read a 2 = true)
    (hn : s.linkSlot (beNat (readBytes s.mem a 2)) = .ok id) (h : s.allowedRange .write a 2 = false) :
    s.placeLink a l = none := by
  rw [State.placeLink_ok ha hn, State.store_of_denied]
  · rfl
  · rw [beBytes_length]
    exact (State.allowedRange_congr (s := s) (t := s.putLink id l) rfl _ _ _).trans h

theorem exchangeMessage_denied {x y : Reg} {f : Nat} {fe : Funnel} {m : Message} {e l : Lte}
    (hr : e.rights.getLsbD 1 = true) (hm : m.link = some l)
    (h : s.placeLink (lo32 (s.reg y) + 4) l = none ∨ ∃ u, s.placeLink (lo32 (s.reg y) + 4) l = some ⟨0, false, u⟩ ∧
      s.allowedRange .read (lo32 (s.reg y) + 6) 2 = false) :
    exchangeMessage i x y f fe m e s = accessViolation i s := by
  rw [exchangeMessage, if_pos (show e.canForward = true from hr), hm]
  obtain h | ⟨u, h, hb⟩ := h
  · simp only [h]
  · simp only [h]
    exact withField_denied hb

/-- EXCH.LINK.FORWARD, its funnel found. -/
theorem exchLinkForward_head {x y z : Reg} {f : Nat} {fe : Funnel} {m : Message} (hp : s.params.impl809 = true)
    (h : s.allowedRange .read (lo32 (s.reg y)) 1 = true) (hb : beNat (readBytes s.mem (lo32 (s.reg y)) 1) = f) (h0 : 0 < f)
    (hf : s.funnel f = some fe) (hm : fe.queue.head? = some m) :
    let i := Instr.exchLinkForward x y z
    exec i s = withField i (lo32 (s.reg y) + 2) 2 s fun id => withLink i x 0 id s fun e =>
      exchangeMessage i x y f fe m e s := by
  have hle : f ≤ 255 := hb ▸ Nat.le_of_lt_succ (beNat_readBytes_one _ _)
  subst hb
  exact (if_pos hp).trans ((withField_allowed h).trans (withHead_some h0 hle hf hm))

/-! ### Violating stores of a receive -/

section

variable {r : Receive} {m : Message}

/-- A receive leaves the map and the registers as they were while it copies. -/
theorem State.copyMessage_keeps (h : s.copyMessage r m = some t) : t.pages = s.pages ∧ t.regs = s.regs := by
  simp only [State.copyMessage, Option.bind_eq_some_iff] at h
  obtain ⟨s1, h1, s2, h2, h3⟩ := h
  obtain ⟨rfl, -⟩ := State.store_eq_some h1
  obtain ⟨rfl, -⟩ := State.store_eq_some h2
  obtain ⟨rfl, -⟩ := State.store_eq_some h3
  exact ⟨rfl, rfl⟩

theorem State.copyMessage_denied
    (h : s.allowedRange .write (lo32 (s.reg r.y) + 8) 8 = false ∨
      s.allowedRange .write (lo32 (s.reg r.y) + 16) (m.data.take (s.reg r.z).toInt.toNat).length = false ∨
      s.allowedRange .write (lo32 (s.reg r.t)) ((m.data.drop (s.reg r.z).toInt.toNat).take (s.reg r.v).toInt.toNat).length = false) :
    s.copyMessage r m = none := by
  by_contra hc
  obtain ⟨u, hu⟩ := Option.ne_none_iff_exists'.mp hc
  simp only [State.copyMessage, Option.bind_eq_some_iff] at hu
  obtain ⟨s1, h1, s2, h2, h3⟩ := hu
  obtain ⟨rfl, a1⟩ := State.store_eq_some h1
  obtain ⟨rfl, a2⟩ := State.store_eq_some h2
  obtain ⟨rfl, a3⟩ := State.store_eq_some h3
  rw [wordBytes_length] at a1
  replace a2 := (State.allowedRange_congr (s := s) (t := s.poke _ _) rfl _ _ _).symm.trans a2
  replace a3 := (State.allowedRange_congr (s := s) (t := (s.poke _ _).poke _ _) rfl _ _ _).symm.trans a3
  obtain h | h | h := h
  · exact Bool.false_ne_true (h.symm.trans a1)
  · exact Bool.false_ne_true (h.symm.trans a2)
  · exact Bool.false_ne_true (h.symm.trans a3)

theorem State.receiveLink_denied {l : Lte} (hr : r.wantLink = true) (hl : m.link = some l)
    (h : s.allowedRange .read (lo32 (s.reg r.y) + 4) 2 = false) : s.receiveLink r m = none := by
  rw [State.receiveLink, hl, hr]
  exact placeLink_unread h

theorem receiveMessage_denied {ty : Byte} {f : Nat} {fe : Funnel} (hz : 0 ≤ (s.reg r.z).toInt) (hv : 0 ≤ (s.reg r.v).toInt)
    (h : (s.copyMessage r m).bind (fun u => u.receiveLink r m) = none) :
    receiveMessage i r ty f fe m s = accessViolation i s := by
  unfold receiveMessage State.len
  rw [if_neg (not_or.mpr ⟨not_lt.mpr hz, not_lt.mpr hv⟩), h]

/-- No copy, or no ID for the link that came with it. -/
theorem State.received_denied (hr : r.wantLink = true)
    (h : s.copyMessage r m = none ∨ (m.link ≠ none ∧ s.allowedRange .read (lo32 (s.reg r.y) + 4) 2 = false)) :
    (s.copyMessage r m).bind (fun u => u.receiveLink r m) = none := by
  cases hc : s.copyMessage r m with
  | none => rfl
  | some u =>
    obtain ⟨hl, hd⟩ := h.resolve_left (by rw [hc]; exact nofun)
    obtain ⟨l, hl⟩ := Option.ne_none_iff_exists'.mp hl
    obtain ⟨hpages, hregs⟩ := State.copyMessage_keeps hc
    refine State.receiveLink_denied hr hl ?_
    rw [State.allowedRange_congr hpages, State.reg, hregs]
    exact hd

end

/-- The IDs and the first field of every block (R571). -/
theorem blocks_denied (x y z t v : Reg) :
    (s.allowedRange .read (lo32 (s.reg y)) 1 = false → exec (.rcv x y z t v) s = accessViolation (.rcv x y z t v) s ∧
      exec (.rcvLink x y z t v) s = accessViolation (.rcvLink x y z t v) s ∧
      (s.params.impl809 = true → exec (.exchLinkForward x y z) s = accessViolation (.exchLinkForward x y z) s)) ∧
    (s.allowedRange .read (lo32 (s.reg y)) 2 = false → exec (.rcvChan x y z t v) s = accessViolation (.rcvChan x y z t v) s ∧
      exec (.rcvLinkOnChan x y z t v) s = accessViolation (.rcvLinkOnChan x y z t v) s) ∧
    (s.allowedRange .read (lo32 (s.reg y) + 2) 2 = false → exec (.delLink x y z t v) s = accessViolation (.delLink x y z t v) s ∧
      exec (.send x y z t v) s = accessViolation (.send x y z t v) s ∧
      exec (.copyLink x y z t v) s = accessViolation (.copyLink x y z t v) s ∧
      exec (.passLink x y z t v) s = accessViolation (.passLink x y z t v) s) :=
  ⟨fun h => ⟨withField_denied h, withField_denied h, fun hp => (if_pos hp).trans (withField_denied h)⟩,
    fun h => ⟨withField_denied h, withField_denied h⟩,
    fun h => ⟨withField_denied h, withField_denied h, withField_denied h, withField_denied h⟩⟩

/-- The receives that find a message, by what they do with it. -/
theorem receives_found {x y z t v : Reg} {f : Nat} {fe : Funnel} {m : Message} (h : s.allowedRange .read (lo32 (s.reg y)) 3 = true) :
    ((s.byteAt (lo32 (s.reg y))).toNat = f → 1 < f → s.funnel f = some fe → fe.queue.head? = some m →
      exec (.rcv x y z t v) s =
        receiveMessage (.rcv x y z t v) (receiveOf x y z t v false) (s.byteAt (lo32 (s.reg y) + 2)) f fe m s ∧
      exec (.rcvLink x y z t v) s =
        receiveMessage (.rcvLink x y z t v) (receiveOf x y z t v true) (s.byteAt (lo32 (s.reg y) + 2)) f fe m s) ∧
    (bestCandidate (s.candidates (BitVec.ofNat 16 (beNat (readBytes s.mem (lo32 (s.reg y)) 2)))) =
        some { funnel := f, entry := fe, message := m } →
      exec (.rcvChan x y z t v) s =
        receiveMessage (.rcvChan x y z t v) (receiveOf x y z t v false) (s.byteAt (lo32 (s.reg y) + 2)) f fe m s ∧
      exec (.rcvLinkOnChan x y z t v) s =
        receiveMessage (.rcvLinkOnChan x y z t v) (receiveOf x y z t v true) (s.byteAt (lo32 (s.reg y) + 2)) f fe m s) := by
  refine ⟨fun hb hone hf hm => ?_, fun hc => ?_⟩
  · have hx := fun w i => (receiveFunnel_fields (i := i) (r := receiveOf x y z t v w) h hf hb (Nat.lt_of_succ_lt hone)).2 m
      ((receivable_eq_head hone).trans hm)
    exact ⟨exec_rcv.trans (hx false _), exec_rcvLink.trans (hx true _)⟩
  · have hx := fun w i => (receiveChannel_fields (i := i) (r := receiveOf x y z t v w) h).2 _ hc
    exact ⟨exec_rcvChan.trans (hx false _), exec_rcvLinkOnChan.trans (hx true _)⟩

/-- The data blocks of the sends. -/
theorem sends_denied {x y z t v : Reg} (hz : 0 ≤ (s.reg z).toInt) (hv : 0 ≤ (s.reg v).toInt)
    (h : s.allowedRange .read (lo32 (s.reg y) + 16) (s.reg z).toInt.toNat = false ∨
      s.allowedRange .read (lo32 (s.reg t)) (s.reg v).toInt.toNat = false) :
    ((s.reg z).toInt + (s.reg v).toInt ≤ 888 → s.allowedRange .read (lo32 (s.reg y) + 2) 2 = true →
      exec (.send x y z t v) s = accessViolation (.send x y z t v) s) ∧
    ((s.reg z).toInt + (s.reg v).toInt ≤ 672 → s.allowedRange .read (lo32 (s.reg y) + 2) 6 = true →
      exec (.copyLink x y z t v) s = accessViolation (.copyLink x y z t v) s ∧
      exec (.passLink x y z t v) s = accessViolation (.passLink x y z t v) s) := by
  refine ⟨fun hl h0 => (send_link h0).trans (withData_denied hz hv hl h), fun hl h6 => ?_⟩
  have h0 : s.allowedRange .read (lo32 (s.reg y) + 2) 2 = true := State.allowedRange_sub h6 (j := 0) (by simp) (by omega)
  have h1 : s.allowedRange .read (lo32 (s.reg y) + 6) 2 = true :=
    State.allowedRange_sub h6 (j := 4) (by rw [BitVec.add_assoc]; rfl) (by omega)
  exact ⟨(shareLink_fields h0 h1).trans (withData_denied hz hv hl h), (shareLink_fields h0 h1).trans (withData_denied hz hv hl h)⟩

/-- Settles O19. -/
theorem violatingAccessChangesNothing : Obligations.ViolatingAccessChangesNothing := by
  intro s gone
  obtain ⟨hcall, hexit, hixit, hbxit, hbreak⟩ := frames_denied (s := s)
  refine ⟨fun e he o h => gone_of (readers_denied e he o h), fun e he o a h => gone_of (compares_denied e he o a h),
    fun e he o h hx => gone_of (conversions_denied e he o h hx), fun e he o h => gone_of (stores_denied e he o h),
    fun e he o hm h => gone_of ((immStores_exec e he o s).trans (storeLast_denied hm h)),
    fun e he x y z ha h => gone_of ((exchanges_exec e he x y z s).trans (exchangeOp_denied ha h)),
    fun u d h => gone_of (hcall u d h), fun u b h => gone_of (hexit u b h), fun u b h => gone_of (hixit u b h),
    fun u b h0 h => gone_of (hbxit u b h0 h), fun h => gone_of (hbreak h), fun x h => gone_of (withPage_none h),
    fun x y z hp h => gone_of ((if_pos hp).trans (withPage_none h)), ?_, ?_⟩
  · intro x y z t v pb
    obtain ⟨h1, h2, h22⟩ := blocks_denied (s := s) x y z t v
    refine ⟨fun h => ?_, fun h => gone_of (createLink_block_denied h),
      fun h hp => gone_of (forwardMsg_block_denied hp (.inr h)), ?_, fun h => ?_, fun h => ?_, ?_⟩
    · obtain ⟨hrcv, hrcvLink, hexch⟩ := h1 h
      exact ⟨gone_of (withField_denied h), gone_of hrcv, gone_of hrcvLink, fun hp => gone_of (hexch hp),
        fun hp => gone_of (forwardMsg_block_denied hp (.inl h))⟩
    · intro f fe m hp h hb h0 hf hm
      have hx := exchLinkForward_head (x := x) (z := z) hp h hb h0 hf hm
      refine ⟨fun hd => gone_of (hx.trans (withField_denied hd)), fun e hr he hright hl => ?_⟩
      obtain ⟨l, hl⟩ := Option.ne_none_iff_exists'.mp hl
      have hmsg := hx.trans ((withField_allowed hr).trans (withLink_ok he))
      refine ⟨fun hd => gone_of (hmsg.trans (exchangeMessage_denied hright hl (.inl (placeLink_unread hd)))),
        fun id ha hid hd => gone_of (hmsg.trans (exchangeMessage_denied hright hl ?_))⟩
      cases hw : s.allowedRange .write (pb + 4) 2 with
      | false => exact .inl (placeLink_unwritten ha (linkSlot_of hid) hw)
      | true => exact .inr ⟨_, State.placeLink_of_slot ha hw (linkSlot_of hid), hd.resolve_left (by rw [hw]; decide)⟩
    · obtain ⟨hc, hl⟩ := h2 h
      exact ⟨gone_of hc, gone_of hl⟩
    · obtain ⟨hdel, hsend, hcopy, hpass⟩ := h22 h
      exact ⟨gone_of hdel, gone_of hsend, gone_of hcopy, gone_of hpass⟩
    · exact fun f fe id h hw hb hone hf hn => gone_of (createLink_id_unstored h hw hb hone hf hn)
  · intro x y z t v pb n1 n2 hz hv
    refine ⟨fun h0 h1 => ⟨gone_of ((withField_allowed h0).trans (withField_denied h1)),
      gone_of ((withField_allowed h0).trans (withField_denied h1))⟩, fun hd => ?_, ?_⟩
    · obtain ⟨hsend, hshare⟩ := sends_denied (x := x) hz hv hd
      refine ⟨fun hl h => gone_of (hsend hl h), fun hl h => ?_⟩
      obtain ⟨hcopy, hpass⟩ := hshare hl h
      exact ⟨gone_of hcopy, gone_of hpass⟩
    · intro f fe m h unstored unplaced
      obtain ⟨hfunnel, hchan⟩ := receives_found (x := x) (z := z) (t := t) (v := v) (f := f) (fe := fe) (m := m) h
      have plain : ∀ {i ty}, exec i s = receiveMessage i (receiveOf x y z t v false) ty f fe m s → unstored → gone i :=
        fun hx hu => gone_of (hx.trans (receiveMessage_denied hz hv (by
          rw [State.copyMessage_denied (r := receiveOf x y z t v false) hu]
          rfl)))
      have link : ∀ {i ty}, exec i s = receiveMessage i (receiveOf x y z t v true) ty f fe m s → unplaced → gone i :=
        fun hx hu => gone_of (hx.trans (receiveMessage_denied hz hv (State.received_denied rfl
          (hu.imp_left (State.copyMessage_denied (r := receiveOf x y z t v true))))))
      refine ⟨fun hb hone hf hm => ?_, fun hc => ?_⟩
      · obtain ⟨hrcv, hrcvLink⟩ := hfunnel hb hone hf hm
        exact ⟨plain hrcv, link hrcvLink⟩
      · obtain ⟨hrcv, hrcvLink⟩ := hchan hc
        exact ⟨plain hrcv, link hrcvLink⟩

end Sys2Proof.Machine

/-! SUPPORT. Floating-point data, rounding, the operations and their instructions. -/

namespace Sys2Proof.Machine

open Sys2Proof Sys2Proof.Stmt

variable {s t : State} {i : Instr}


/-! ### Data from their fields and back (R112 to R116) -/

/-- Bits of the biased exponent. -/
def Fmt.expBits : Fmt → Nat
  | .single => 8
  | .double => 11
  | .extended => 15

/-- Bits of the significand field: the fraction, with the integer bit in the extended format. -/
def Fmt.sigBits : Fmt → Nat
  | .single => 23
  | .double => 52
  | .extended => 64

/-- The class and value of a datum's fields. -/
def classifyFields (f : Fmt) (neg : Bool) (biased sig : Nat) : FVal :=
  match f with
  | .single => classifyHidden .single neg biased sig
  | .double => classifyHidden .double neg biased sig
  | .extended => classifyExtended neg biased sig

theorem getLsbD_ofNat_eq_decide (n j : Nat) (hj : j < 128) : (BitVec.ofNat 128 n).getLsbD j = decide (n / 2 ^ j % 2 = 1) := by
  rw [BitVec.getLsbD_ofNat, decide_eq_true hj, Bool.true_and, Nat.testBit_eq_decide_div_mod_eq]

theorem classify_packFields (f : Fmt) (neg : Bool) {biased sig : Nat} (hb : biased < 2 ^ f.expBits) (hs : sig < 2 ^ f.sigBits) :
    classify f (packFields f neg biased sig) = classifyFields f neg biased sig := by
  obtain ⟨n, hn, h1, hd⟩ : ∃ n, (if neg then 1 else 0 : Nat) = n ∧ n ≤ 1 ∧ decide (n = 1) = neg := by
    cases neg
    · exact ⟨0, rfl, by decide, rfl⟩
    · exact ⟨1, rfl, by decide, rfl⟩
  cases f <;> simp only [Fmt.expBits, Fmt.sigBits] at hb hs
  · have hN : n * 2 ^ 31 + biased * 2 ^ 23 + sig < 2 ^ 128 := by omega
    have hsign : (n * 2 ^ 31 + biased * 2 ^ 23 + sig) / 2 ^ 31 % 2 = n := by omega
    have hbiased : (n * 2 ^ 31 + biased * 2 ^ 23 + sig) / 2 ^ 23 % 2 ^ 8 = biased := by omega
    have hsig : (n * 2 ^ 31 + biased * 2 ^ 23 + sig) % 2 ^ 23 = sig := by omega
    simp only [packFields, classify, hn, BitVec.toNat_ofNat]
    rw [getLsbD_ofNat_eq_decide _ _ (by decide), Nat.mod_eq_of_lt hN, hsign, hbiased, hsig, hd]
    rfl
  · have hN : n * 2 ^ 63 + biased * 2 ^ 52 + sig < 2 ^ 128 := by omega
    have hsign : (n * 2 ^ 63 + biased * 2 ^ 52 + sig) / 2 ^ 63 % 2 = n := by omega
    have hbiased : (n * 2 ^ 63 + biased * 2 ^ 52 + sig) / 2 ^ 52 % 2 ^ 11 = biased := by omega
    have hsig : (n * 2 ^ 63 + biased * 2 ^ 52 + sig) % 2 ^ 52 = sig := by omega
    simp only [packFields, classify, hn, BitVec.toNat_ofNat]
    rw [getLsbD_ofNat_eq_decide _ _ (by decide), Nat.mod_eq_of_lt hN, hsign, hbiased, hsig, hd]
    rfl
  · have hN : n * 2 ^ 127 + biased * 2 ^ 112 + sig < 2 ^ 128 := by omega
    have hsign : (n * 2 ^ 127 + biased * 2 ^ 112 + sig) / 2 ^ 127 % 2 = n := by omega
    have hbiased : (n * 2 ^ 127 + biased * 2 ^ 112 + sig) / 2 ^ 112 % 2 ^ 15 = biased := by omega
    have hsig : (n * 2 ^ 127 + biased * 2 ^ 112 + sig) % 2 ^ 64 = sig := by omega
    simp only [packFields, classify, hn, BitVec.toNat_ofNat]
    rw [getLsbD_ofNat_eq_decide _ _ (by decide), Nat.mod_eq_of_lt hN, hsign, hbiased, hsig, hd]
    rfl

theorem cleanBits_packFields (f : Fmt) (neg : Bool) {biased sig : Nat} (hb : biased < 2 ^ f.expBits) (hs : sig < 2 ^ f.sigBits) :
    cleanBits f (packFields f neg biased sig) = packFields f neg biased sig := by
  obtain ⟨n, hn, h1⟩ : ∃ n, (if neg then 1 else 0 : Nat) = n ∧ n ≤ 1 := by
    cases neg
    · exact ⟨0, rfl, by decide⟩
    · exact ⟨1, rfl, by decide⟩
  cases f <;> simp only [Fmt.expBits, Fmt.sigBits] at hb hs <;> simp only [packFields, cleanBits, hn]
  · apply BitVec.eq_of_toNat_eq
    rw [BitVec.toNat_and, BitVec.toNat_ofNat, Nat.mod_eq_of_lt (by omega), show BitVec.toNat (0xFFFFFFFF : FBits) = 2 ^ 32 - 1 from rfl,
      Nat.and_two_pow_sub_one_eq_mod]
    omega
  · apply BitVec.eq_of_toNat_eq
    rw [BitVec.toNat_and, BitVec.toNat_ofNat, Nat.mod_eq_of_lt (by omega),
      show BitVec.toNat (0xFFFFFFFFFFFFFFFF : FBits) = 2 ^ 64 - 1 from rfl, Nat.and_two_pow_sub_one_eq_mod]
    omega
  · have hmask : ∀ j : Fin 128, (0xFFFF000000000000FFFFFFFFFFFFFFFF#128).getLsbD j.val = (decide (j.val < 64) || decide (112 ≤ j.val)) := by
      decide
    refine BitVec.eq_of_getLsbD_eq fun j hj => ?_
    rw [BitVec.getLsbD_and]
    refine (congrArg _ (hmask ⟨j, hj⟩)).trans ?_
    by_cases hmid : j < 64 ∨ 112 ≤ j
    · simp [hmid]
    · have hzero : (BitVec.ofNat 128 (n * 2 ^ 127 + biased * 2 ^ 112 + sig)).getLsbD j = false := by
        rw [BitVec.getLsbD_ofNat, show n * 2 ^ 127 + biased * 2 ^ 112 + sig = 2 ^ 112 * (n * 2 ^ 15 + biased) + sig by omega,
          Nat.testBit_two_pow_mul_add _ (by omega), if_pos (by omega),
          Nat.testBit_lt_two_pow (lt_of_lt_of_le hs (Nat.pow_le_pow_right (by decide) (by omega))), Bool.and_false]
      rw [hzero, Bool.false_and]

theorem packZero_spec (f : Fmt) (neg : Bool) :
    classify f (packZero f neg) = .zero neg ∧ cleanBits f (packZero f neg) = packZero f neg := by
  have hb : 0 < 2 ^ f.expBits := Nat.two_pow_pos _
  have hs : 0 < 2 ^ f.sigBits := Nat.two_pow_pos _
  refine ⟨(classify_packFields f neg hb hs).trans ?_, cleanBits_packFields f neg hb hs⟩
  cases f <;> rfl

theorem packInf_spec (f : Fmt) (neg : Bool) :
    classify f (packInf f neg) = .inf neg ∧ cleanBits f (packInf f neg) = packInf f neg := by
  have hb : f.maxBiased < 2 ^ f.expBits := by cases f <;> decide
  have hs : 0 < 2 ^ f.sigBits := Nat.two_pow_pos _
  refine ⟨(classify_packFields f neg hb hs).trans ?_, cleanBits_packFields f neg hb hs⟩
  cases f <;> rfl

/-- A significand and the exponent of its last place that the format has (R113 to R115). -/
def Fmt.Fits (f : Fmt) (m : Nat) (q : Int) : Prop :=
  m < 2 ^ f.prec ∧ f.qmin ≤ q ∧ q + f.fracBits ≤ f.emax ∧ (2 ^ f.fracBits ≤ m ∨ q = f.qmin)

/-- The fields of a number's datum. -/
theorem packFinite_eq (f : Fmt) (neg : Bool) (m : Nat) (q : Int) : packFinite f neg m q =
    packFields f neg (if m < 2 ^ f.fracBits then 0 else (q + f.fracBits + f.bias).toNat)
      (if f = .extended then m else m % 2 ^ f.fracBits) := by
  cases f <;> rfl

theorem classifyFields_denormal (f : Fmt) (neg : Bool) {m : Nat} (h : m < 2 ^ f.fracBits) :
    classifyFields f neg 0 m = if m = 0 then .zero neg else .fin neg m f.qmin := by
  cases f
  · rfl
  · rfl
  · have hlt : ¬ 2 ^ 63 ≤ m := not_le.mpr h
    simp only [classifyFields, classifyExtended, hlt, if_false]
    rfl

theorem classifyFields_normal (f : Fmt) (neg : Bool) {m b : Nat} (hm : 2 ^ f.fracBits ≤ m) (hlt : m < 2 ^ f.prec)
    (hb : f = .extended ∨ b ≠ 0) (hmax : b < f.maxBiased) :
    classifyFields f neg b (if f = .extended then m else m % 2 ^ f.fracBits) = .fin neg m ((b : Int) - f.bias - f.fracBits) := by
  have hne : b ≠ f.maxBiased := Nat.ne_of_lt hmax
  cases f
  · have hsig : 2 ^ 23 + m % 2 ^ 23 = m := by
      simp only [Fmt.fracBits, Fmt.prec] at hm hlt
      omega
    have hb : b ≠ 0 := hb.resolve_left nofun
    simp only [classifyFields, classifyHidden, hne, hb, if_false, reduceCtorEq]
    exact congrArg₂ (FVal.fin neg) hsig rfl
  · have hsig : 2 ^ 52 + m % 2 ^ 52 = m := by
      simp only [Fmt.fracBits, Fmt.prec] at hm hlt
      omega
    have hb : b ≠ 0 := hb.resolve_left nofun
    simp only [classifyFields, classifyHidden, hne, hb, if_false, reduceCtorEq]
    exact congrArg₂ (FVal.fin neg) hsig rfl
  · have hm : 2 ^ 63 ≤ m := hm
    have hne : b ≠ 32767 := hne
    simp only [classifyFields, classifyExtended, hne, hm, if_false, if_true]
    rfl

theorem packFinite_spec (f : Fmt) (neg : Bool) {m : Nat} {q : Int} (h : f.Fits m q) :
    classify f (packFinite f neg m q) = (if m = 0 then .zero neg else .fin neg m q) ∧
    cleanBits f (packFinite f neg m q) = packFinite f neg m q := by
  obtain ⟨hm, hq, hmax, hlead⟩ := h
  have hsig : (if f = .extended then m else m % 2 ^ f.fracBits) < 2 ^ f.sigBits := by
    cases f
    · exact Nat.mod_lt _ (by decide)
    · exact Nat.mod_lt _ (by decide)
    · exact hm
  rw [packFinite_eq]
  by_cases hlt : m < 2 ^ f.fracBits
  · have hsame : (if f = .extended then m else m % 2 ^ f.fracBits) = m := by rw [Nat.mod_eq_of_lt hlt, ite_self]
    rw [hsame] at hsig
    rw [if_pos hlt, hsame]
    refine ⟨(classify_packFields f neg (Nat.two_pow_pos _) hsig).trans ?_, cleanBits_packFields f neg (Nat.two_pow_pos _) hsig⟩
    rw [classifyFields_denormal f neg hlt, hlead.resolve_left (not_le.mpr hlt)]
  · rw [if_neg hlt]
    obtain ⟨b, hb⟩ : ∃ b : Nat, q + f.fracBits + f.bias = b := Int.eq_ofNat_of_zero_le (by
      cases f <;> simp only [Fmt.qmin, Fmt.emin, Fmt.bias, Fmt.fracBits, Fmt.prec] at hq ⊢ <;> omega)
    have hmaxb : b < f.maxBiased := by
      cases f <;> simp only [Fmt.emax, Fmt.bias, Fmt.fracBits, Fmt.prec, Fmt.maxBiased] at hmax hb ⊢ <;> omega
    have h0 : f = .extended ∨ b ≠ 0 := by
      cases f <;> simp only [Fmt.qmin, Fmt.emin, Fmt.bias, Fmt.fracBits, Fmt.prec, reduceCtorEq, false_or, true_or] at hq hb ⊢ <;>
        omega
    have hexp : b < 2 ^ f.expBits := lt_trans hmaxb (by cases f <;> decide)
    rw [hb, Int.toNat_natCast]
    refine ⟨(classify_packFields f neg hexp hsig).trans ?_, cleanBits_packFields f neg hexp hsig⟩
    rw [classifyFields_normal f neg (not_lt.mp hlt) hm h0 hmaxb, if_neg (by have := Nat.two_pow_pos f.fracBits; omega), ← hb]
    congr 1
    omega

/-- A datum is read by its fields. -/
theorem exists_fields (f : Fmt) (b : FBits) : ∃ neg biased sig, biased < 2 ^ f.expBits ∧ sig < 2 ^ f.sigBits ∧
    classify f b = classifyFields f neg biased sig := by
  cases f
  · exact ⟨_, _, _, Nat.mod_lt _ (by decide), Nat.mod_lt _ (by decide), rfl⟩
  · exact ⟨_, _, _, Nat.mod_lt _ (by decide), Nat.mod_lt _ (by decide), rfl⟩
  · exact ⟨_, _, _, Nat.mod_lt _ (by decide), Nat.mod_lt _ (by decide), rfl⟩

theorem Fmt.fits_single {m : Nat} {q : Int} : Fmt.single.Fits m q ↔ m < 2 ^ 24 ∧ -149 ≤ q ∧ q ≤ 104 ∧ (2 ^ 23 ≤ m ∨ q = -149) := by
  simp only [Fmt.Fits, Fmt.prec, Fmt.qmin, Fmt.emin, Fmt.emax, Fmt.fracBits]
  omega

theorem Fmt.fits_double {m : Nat} {q : Int} : Fmt.double.Fits m q ↔ m < 2 ^ 53 ∧ -1074 ≤ q ∧ q ≤ 971 ∧ (2 ^ 52 ≤ m ∨ q = -1074) := by
  simp only [Fmt.Fits, Fmt.prec, Fmt.qmin, Fmt.emin, Fmt.emax, Fmt.fracBits]
  omega

theorem Fmt.fits_extended {m : Nat} {q : Int} :
    Fmt.extended.Fits m q ↔ m < 2 ^ 64 ∧ -16446 ≤ q ∧ q ≤ 16320 ∧ (2 ^ 63 ≤ m ∨ q = -16446) := by
  simp only [Fmt.Fits, Fmt.prec, Fmt.qmin, Fmt.emin, Fmt.emax, Fmt.fracBits]
  omega

theorem fits_of_classifyHidden {f : Fmt} (hf : f ≠ .extended) {neg g : Bool} {biased sig m : Nat} {e : Int}
    (hb : biased < 2 ^ f.expBits) (hs : sig < 2 ^ f.sigBits) (h : classifyHidden f neg biased sig = .fin g m e) :
    m ≠ 0 ∧ f.Fits m e := by
  unfold classifyHidden nanOf at h
  split_ifs at h with h1 h2 h3 h4
  · cases h
    refine ⟨h4, ?_⟩
    cases f
    · simp only [Fmt.fits_single, Fmt.sigBits, Fmt.qmin, Fmt.emin, Fmt.fracBits, Fmt.prec] at hs ⊢
      omega
    · simp only [Fmt.fits_double, Fmt.sigBits, Fmt.qmin, Fmt.emin, Fmt.fracBits, Fmt.prec] at hs ⊢
      omega
    · exact absurd rfl hf
  · cases h
    have hpos := Nat.two_pow_pos f.fracBits
    refine ⟨by omega, ?_⟩
    cases f
    · simp only [Fmt.fits_single, Fmt.sigBits, Fmt.expBits, Fmt.maxBiased, Fmt.bias, Fmt.fracBits, Fmt.prec] at hb hs h1 ⊢
      omega
    · simp only [Fmt.fits_double, Fmt.sigBits, Fmt.expBits, Fmt.maxBiased, Fmt.bias, Fmt.fracBits, Fmt.prec] at hb hs h1 ⊢
      omega
    · exact absurd rfl hf

theorem fits_of_classifyExtended {neg g : Bool} {biased sig m : Nat} {e : Int}
    (hb : biased < 2 ^ 15) (hs : sig < 2 ^ 64) (h : classifyExtended neg biased sig = .fin g m e) :
    m ≠ 0 ∧ Fmt.extended.Fits m e := by
  unfold classifyExtended nanOf at h
  rw [Fmt.fits_extended]
  split_ifs at h with h1 h2 h3 h4 h5 <;> cases h
  · omega
  · omega

/-- The number of a datum is one its format has. -/
theorem fits_of_classify {f : Fmt} {b : FBits} {neg : Bool} {m : Nat} {e : Int} (h : classify f b = .fin neg m e) :
    m ≠ 0 ∧ f.Fits m e := by
  obtain ⟨g, biased, sig, hb, hs, hc⟩ := exists_fields f b
  rw [hc] at h
  cases f
  · exact fits_of_classifyHidden (by decide) hb hs h
  · exact fits_of_classifyHidden (by decide) hb hs h
  · exact fits_of_classifyExtended hb hs h

theorem packNan_spec (f : Fmt) (neg : Bool) : cleanBits f (packNan f neg) = packNan f neg ∧
    ∃ k, classify f (packNan f neg) = .nan true neg k ∧ classify f (canonicalNan f) = .nan true false k := by
  cases f
  · have hb : 255 < 2 ^ Fmt.single.expBits := by decide
    have hs : 1 < 2 ^ Fmt.single.sigBits := by decide
    exact ⟨cleanBits_packFields .single neg hb hs, 1, (classify_packFields .single neg hb hs).trans rfl, by decide⟩
  · have hb : 2047 < 2 ^ Fmt.double.expBits := by decide
    have hs : 0x20000000 < 2 ^ Fmt.double.sigBits := by decide
    exact ⟨cleanBits_packFields .double neg hb hs, 0x20000000, (classify_packFields .double neg hb hs).trans rfl, by decide⟩
  · have hb : 32767 < 2 ^ Fmt.extended.expBits := by decide
    have hs : 0x8000010000000000 < 2 ^ Fmt.extended.sigBits := by decide
    exact ⟨cleanBits_packFields .extended neg hb hs, 0x10000000000, (classify_packFields .extended neg hb hs).trans rfl, by decide⟩

theorem packNan_canonical (f : Fmt) : packNan f false = canonicalNan f := by
  cases f <;> rfl

theorem packLargest_eq (f : Fmt) (neg : Bool) : packLargest f neg = packFinite f neg (2 ^ f.prec - 1) (f.emax - f.fracBits) := by
  cases f <;> rfl


/-! ### Rounding a number to an integer (R322) -/

theorem roundRat_intCast (mode : Rounding) (n : Int) : roundRat mode (n : Rat) = n := by
  cases mode <;> simp [roundRat]

theorem roundRat_eq_floor_or_ceil (mode : Rounding) (p : Rat) : roundRat mode p = ⌊p⌋ ∨ roundRat mode p = ⌈p⌉ := by
  have hup : 1 / 2 ≤ p - ⌊p⌋ → ⌊p⌋ + 1 = ⌈p⌉ := fun h => by
    symm
    rw [Int.ceil_eq_iff]
    have := Int.lt_floor_add_one p
    push_cast
    constructor <;> linarith
  cases mode with
  | nearest =>
    simp only [roundRat]
    split_ifs with h1 h2 h3
    · exact .inl rfl
    · exact .inr (hup h2.le)
    · exact .inl rfl
    · exact .inr (hup (not_lt.mp h1))
  | zero =>
    simp only [roundRat]
    split_ifs
    · exact .inl rfl
    · exact .inr rfl
  | plus => exact .inr rfl
  | minus => exact .inl rfl

theorem le_roundRat (mode : Rounding) {n : Int} {p : Rat} (h : (n : Rat) ≤ p) : n ≤ roundRat mode p := by
  have hfloor : n ≤ ⌊p⌋ := Int.le_floor.mpr h
  obtain he | he := roundRat_eq_floor_or_ceil mode p
  · rw [he]
    exact hfloor
  · rw [he]
    exact hfloor.trans (Int.floor_le_ceil p)

theorem roundRat_le (mode : Rounding) {n : Int} {p : Rat} (h : p ≤ (n : Rat)) : roundRat mode p ≤ n := by
  have hceil : ⌈p⌉ ≤ n := Int.ceil_le.mpr h
  obtain he | he := roundRat_eq_floor_or_ceil mode p
  · rw [he]
    exact (Int.floor_le_ceil p).trans hceil
  · rw [he]
    exact hceil

/-- No multiple of one half tells the two numbers apart. -/
def SameHalves (p q : Rat) : Prop := ∀ k : Int, ((k : Rat) ≤ 2 * p ↔ (k : Rat) ≤ 2 * q) ∧ (2 * p ≤ k ↔ 2 * q ≤ k)

theorem SameHalves.le_iff {p q : Rat} (h : SameHalves p q) (k : Int) : ((k : Rat) ≤ p ↔ (k : Rat) ≤ q) ∧ (p ≤ k ↔ q ≤ k) := by
  obtain ⟨h1, h2⟩ := h (2 * k)
  push_cast at h1 h2
  simpa using And.intro h1 h2

theorem SameHalves.roundRat_eq {p q : Rat} (h : SameHalves p q) (mode : Rounding) : roundRat mode p = roundRat mode q := by
  have hfloor : ⌊p⌋ = ⌊q⌋ := eq_of_forall_le_iff fun k => by rw [Int.le_floor, Int.le_floor, (h.le_iff k).1]
  have hceil : ⌈p⌉ = ⌈q⌉ := eq_of_forall_ge_iff fun k => by rw [Int.ceil_le, Int.ceil_le, (h.le_iff k).2]
  have hsign : 0 ≤ p ↔ 0 ≤ q := by simpa using (h.le_iff 0).1
  obtain ⟨h1, h2⟩ := h (2 * ⌊q⌋ + 1)
  push_cast at h1 h2
  have hlt : p - ⌊q⌋ < 1 / 2 ↔ q - ⌊q⌋ < 1 / 2 := by
    rw [← not_le, ← not_le, not_iff_not]
    constructor
    · intro hp
      linarith [h1.mp (by linarith)]
    · intro hq
      linarith [h1.mpr (by linarith)]
  have hgt : 1 / 2 < p - ⌊q⌋ ↔ 1 / 2 < q - ⌊q⌋ := by
    rw [← not_le, ← not_le, not_iff_not]
    constructor
    · intro hp
      linarith [h2.mp (by linarith)]
    · intro hq
      linarith [h2.mpr (by linarith)]
  cases mode <;> simp only [roundRat, hfloor, hceil, hsign, hlt, hgt]

/-- Integers are told apart from the rest. -/
theorem SameHalves.isInt_iff {p q : Rat} (h : SameHalves p q) (mode : Rounding) :
    (roundRat mode p : Rat) = p ↔ (roundRat mode q : Rat) = q := by
  have hone : ∀ {p q : Rat}, SameHalves p q → (roundRat mode p : Rat) = p → (roundRat mode q : Rat) = q := fun {p q} h hp => by
    obtain ⟨h1, h2⟩ := h.le_iff (roundRat mode p)
    rw [← h.roundRat_eq mode]
    exact le_antisymm (h1.mp hp.le) (h2.mp hp.ge)
  exact ⟨hone h, hone fun k => ⟨(h k).1.symm, (h k).2.symm⟩⟩

theorem SameHalves.neg {p q : Rat} (h : SameHalves p q) : SameHalves (-p) (-q) := fun k => by
  obtain ⟨h1, h2⟩ := h (-k)
  push_cast at h1 h2
  constructor
  · rw [mul_neg, mul_neg, le_neg, le_neg (b := 2 * q)]
    exact h2
  · rw [mul_neg, mul_neg, neg_le, neg_le (a := 2 * q)]
    exact h1

/-! ### Rounding a magnitude -/

/-- The number of a sign, a significand and an exponent. -/
def numVal (neg : Bool) (m : Nat) (e : Int) : Rat := (if neg then -1 else 1) * (m : Rat) * (2 : Rat) ^ e

/-- A magnitude rounded to a unit of `2 ^ d`. -/
def roundMag (mode : Rounding) (neg : Bool) (m d : Nat) : Nat :=
  if roundsUp mode neg (decide (m / 2 ^ d % 2 = 1)) (m % 2 ^ d) d then m / 2 ^ d + 1 else m / 2 ^ d

theorem roundAt_coarser (mode : Rounding) (neg : Bool) (m : Nat) {e q : Int} (h : e < q) :
    roundAt mode neg m e q = (roundMag mode neg m (q - e).toNat, decide (m % 2 ^ (q - e).toNat ≠ 0)) := by
  unfold roundAt
  rw [if_neg (not_le.mpr h)]
  rfl

theorem roundAt_finer (mode : Rounding) (neg : Bool) (m : Nat) {e q : Int} (h : q ≤ e) :
    roundAt mode neg m e q = (m * 2 ^ (e - q).toNat, false) := if_pos h

/-- Settles O32. -/
theorem roundingModes : Obligations.RoundingModes := by
  intro neg m d e hd r
  have hq : (e + d - e).toNat = d := by omega
  have hr : ∀ mode, roundAt mode neg m e (e + d) = (roundMag mode neg m d, decide (m % 2 ^ d ≠ 0)) := fun mode => by
    rw [roundAt_coarser mode neg m (by omega), hq]
  have hdiv := Nat.div_add_mod m (2 ^ d)
  have hlt := Nat.mod_lt m (Nat.two_pow_pos d)
  simp only [r, hr]
  have hnear : roundMag .nearest neg m d = if 2 ^ d < 2 * (m % 2 ^ d) ∨ 2 ^ d = 2 * (m % 2 ^ d) ∧ m / 2 ^ d % 2 = 1
      then m / 2 ^ d + 1 else m / 2 ^ d := by simp [roundMag, roundsUp]
  have hup : (m + 2 ^ d - 1) / 2 ^ d = if m % 2 ^ d ≠ 0 then m / 2 ^ d + 1 else m / 2 ^ d := by
    split_ifs with h
    · refine (Nat.div_eq_of_lt_le ?_ ?_)
      · rw [Nat.add_mul, Nat.mul_comm]
        omega
      · rw [Nat.add_mul, Nat.add_mul, Nat.mul_comm]
        omega
    · refine (Nat.div_eq_of_lt_le ?_ ?_)
      · rw [Nat.mul_comm]
        omega
      · rw [Nat.add_mul, Nat.mul_comm]
        omega
  refine ⟨?_, ?_, rfl, ?_, ?_, fun _ => trivial⟩
  · rw [hnear]
    split_ifs with h
    · have : 2 * (m / 2 ^ d + 1) * 2 ^ d = 2 * (2 ^ d * (m / 2 ^ d)) + 2 * 2 ^ d := by ring
      omega
    · have : 2 * (m / 2 ^ d) * 2 ^ d = 2 * (2 ^ d * (m / 2 ^ d)) := by ring
      omega
  · intro htie
    rw [hnear]
    split_ifs <;> omega
  · rw [hup]
    cases neg <;> simp [roundMag, roundsUp]
  · rw [hup]
    cases neg <;> simp [roundMag, roundsUp]

/-! ### The rounding of the model is the rounding of the number -/

theorem floor_natDiv (m d : Nat) : ⌊(m : Rat) / 2 ^ d⌋ = (m / 2 ^ d : Nat) := by
  have h := Rat.floor_natCast_div_natCast m (2 ^ d)
  push_cast at h ⊢
  exact h

/-- What a magnitude is above its floor. -/
theorem natDiv_parts (m d : Nat) : ∃ y : Rat, (m : Rat) / 2 ^ d = (m / 2 ^ d : Nat) + y ∧ 0 ≤ y ∧ y < 1 ∧
    (y = 0 ↔ m % 2 ^ d = 0) ∧ (y < 1 / 2 ↔ 2 * (m % 2 ^ d) < 2 ^ d) ∧ (1 / 2 < y ↔ 2 ^ d < 2 * (m % 2 ^ d)) := by
  have hpos : (0 : Rat) < 2 ^ d := by positivity
  have hlt : m % 2 ^ d < 2 ^ d := Nat.mod_lt m (Nat.two_pow_pos d)
  refine ⟨((m % 2 ^ d : Nat) : Rat) / 2 ^ d, ?_, by positivity, ?_, ?_, ?_, ?_⟩
  · have := congrArg (Nat.cast (R := Rat)) (Nat.div_add_mod m (2 ^ d))
    rw [Nat.cast_add, Nat.cast_mul, Nat.cast_pow, Nat.cast_ofNat] at this
    rw [div_eq_iff hpos.ne', add_mul, div_mul_cancel₀ _ hpos.ne']
    linarith
  · rw [div_lt_one hpos]
    exact_mod_cast hlt
  · rw [div_eq_zero_iff, or_iff_left hpos.ne', Nat.cast_eq_zero]
  · rw [div_lt_div_iff₀ hpos two_pos, one_mul, mul_comm]
    exact_mod_cast Iff.rfl
  · rw [div_lt_div_iff₀ two_pos hpos, one_mul, mul_comm]
    exact_mod_cast Iff.rfl

theorem ceil_natDiv (m d : Nat) : ⌈(m : Rat) / 2 ^ d⌉ =
    if m % 2 ^ d = 0 then ((m / 2 ^ d : Nat) : Int) else ((m / 2 ^ d : Nat) : Int) + 1 := by
  obtain ⟨y, hx, h0, h1, hz, -, -⟩ := natDiv_parts m d
  rw [Int.ceil_eq_iff, hx]
  generalize m / 2 ^ d = hi
  split_ifs with h
  · rw [hz.mpr h]
    push_cast
    constructor <;> linarith
  · have hy : 0 < y := lt_of_le_of_ne h0 fun he => h (hz.mp he.symm)
    push_cast
    constructor <;> linarith

theorem roundRat_mag (mode : Rounding) (neg : Bool) (m d : Nat) :
    roundRat mode ((if neg then -1 else 1) * ((m : Rat) / 2 ^ d)) = (if neg then -1 else 1) * (roundMag mode neg m d : Int) := by
  obtain ⟨y, hx, h0, h1, hz, hlt, hgt⟩ := natDiv_parts m d
  have hfloor := floor_natDiv m d
  have hceil := ceil_natDiv m d
  have hpos : 0 ≤ (m : Rat) / 2 ^ d := by positivity
  cases neg with
  | false =>
    simp only [Bool.false_eq_true, if_false, one_mul]
    cases mode with
    | nearest =>
      have hsub : (m : Rat) / 2 ^ d - ((m / 2 ^ d : Nat) : Int) = y := by
        rw [hx, Int.cast_natCast, add_sub_cancel_left]
      simp only [roundRat, hfloor, hsub, hlt, hgt, roundMag, roundsUp, Bool.or_eq_true, Bool.and_eq_true, decide_eq_true_eq]
      split_ifs <;> omega
    | zero => simp [roundRat, hfloor, hpos, roundMag, roundsUp]
    | plus =>
      simp only [roundRat, hceil, roundMag, roundsUp, Bool.not_false, Bool.true_and, decide_eq_true_eq, ne_eq, ite_not]
      split_ifs <;> simp
    | minus => simp [roundRat, hfloor, roundMag, roundsUp]
  | true =>
    simp only [if_true, neg_one_mul]
    cases mode with
    | nearest =>
      simp only [roundRat, Int.floor_neg, hceil, roundMag, roundsUp, Bool.or_eq_true, Bool.and_eq_true, decide_eq_true_eq]
      by_cases h : m % 2 ^ d = 0
      · have hsub : -((m : Rat) / 2 ^ d) - (-((m / 2 ^ d : Nat) : Int) : Int) = 0 := by
          rw [hx, hz.mpr h, Int.cast_neg, Int.cast_natCast]
          ring
        have h2 := Nat.two_pow_pos d
        rw [if_pos h, hsub, if_pos (by norm_num), h, if_neg (by omega)]
      · have hsub : -((m : Rat) / 2 ^ d) - (-(((m / 2 ^ d : Nat) : Int) + 1) : Int) = 1 - y := by
          rw [hx, Int.cast_neg, Int.cast_add, Int.cast_natCast, Int.cast_one]
          ring
        have hl : 1 - y < 1 / 2 ↔ 2 ^ d < 2 * (m % 2 ^ d) := by
          rw [← hgt]
          constructor <;> intro h <;> linarith
        have hg : 1 / 2 < 1 - y ↔ 2 * (m % 2 ^ d) < 2 ^ d := by
          rw [← hlt]
          constructor <;> intro h <;> linarith
        rw [if_neg h, hsub]
        simp only [hl, hg]
        split_ifs <;> omega
    | zero =>
      simp only [roundRat, Int.floor_neg, Int.ceil_neg, hceil, hfloor, roundMag, roundsUp, Bool.false_eq_true, if_false]
      split_ifs with hn h
      · rfl
      · exact absurd (hz.mp (by linarith)) h
      · rfl
    | plus => simp [roundRat, Int.ceil_neg, hfloor, roundMag, roundsUp]
    | minus =>
      simp only [roundRat, Int.floor_neg, hceil, roundMag, roundsUp, Bool.true_and, decide_eq_true_eq, ne_eq, ite_not]
      split_ifs <;> simp

/-- Rounding changes what is no integer. -/
theorem roundRat_eq_self_iff (mode : Rounding) (p : Rat) : (roundRat mode p : Rat) = p ↔ ∃ n : Int, p = n :=
  ⟨fun h => ⟨_, h.symm⟩, fun ⟨n, h⟩ => by rw [h, roundRat_intCast]⟩

/-- A number in finer units is an integer of them. -/
theorem numVal_div_finer (neg : Bool) (m : Nat) {e q : Int} (h : q ≤ e) :
    numVal neg m e / 2 ^ q = (((if neg then -1 else 1) * ((m * 2 ^ (e - q).toNat : Nat) : Int) : Int) : Rat) := by
  have hpow : (2 : Rat) ^ e = 2 ^ (e - q).toNat * 2 ^ q := by
    rw [← zpow_natCast, ← zpow_add₀ two_ne_zero]
    congr 1
    omega
  rw [numVal, hpow, ← mul_assoc, mul_div_cancel_right₀ _ (zpow_ne_zero _ two_ne_zero)]
  cases neg <;> push_cast <;> ring

theorem numVal_div_coarser (neg : Bool) (m : Nat) {e q : Int} (h : e ≤ q) :
    numVal neg m e / 2 ^ q = (if neg then -1 else 1) * ((m : Rat) / 2 ^ (q - e).toNat) := by
  have hpow : (2 : Rat) ^ q = 2 ^ (q - e).toNat * 2 ^ e := by
    rw [← zpow_natCast, ← zpow_add₀ two_ne_zero]
    congr 1
    omega
  rw [numVal, hpow, mul_div_mul_right _ _ (zpow_ne_zero _ two_ne_zero), mul_div_assoc]

/-- The magnitude the model rounds to is the number's rounding, and information is lost exactly where that is another
number (R322). -/
theorem roundAt_eq (mode : Rounding) (neg : Bool) (m : Nat) (e q : Int) :
    roundRat mode (numVal neg m e / 2 ^ q) = (if neg then -1 else 1) * ((roundAt mode neg m e q).1 : Int) ∧
    ((roundAt mode neg m e q).2 = false ↔ (roundRat mode (numVal neg m e / 2 ^ q) : Rat) = numVal neg m e / 2 ^ q) := by
  obtain h | h := le_or_gt q e
  · rw [roundAt_finer mode neg m h, numVal_div_finer neg m h, roundRat_intCast]
    exact ⟨rfl, iff_of_true rfl rfl⟩
  · rw [roundRat_eq_self_iff, roundAt_coarser mode neg m h, numVal_div_coarser neg m h.le, roundRat_mag]
    refine ⟨rfl, ?_⟩
    obtain ⟨y, hx, h0, h1, hz, -, -⟩ := natDiv_parts m (q - e).toNat
    rw [decide_eq_false_iff_not, not_not, ← hz, hx]
    generalize m / 2 ^ (q - e).toNat = hi
    constructor
    · intro hy
      exact ⟨(if neg then -1 else 1) * (hi : Int), by rw [hy]; cases neg <;> simp⟩
    · rintro ⟨n, hn⟩
      obtain ⟨k, hk⟩ : ∃ k : Int, y = k := by
        cases neg with
        | false => exact ⟨n - hi, by push_cast; simp at hn; linarith⟩
        | true => exact ⟨-n - hi, by push_cast; simp at hn; linarith⟩
      rw [hk] at h0 h1 ⊢
      have h0 : 0 ≤ k := by exact_mod_cast h0
      have h1 : k < 1 := by exact_mod_cast h1
      exact_mod_cast show k = 0 by omega


/-! ### The binade of a number -/

theorem Fmt.prec_eq (f : Fmt) : f.prec = f.fracBits + 1 := by cases f <;> rfl

theorem two_zpow_le {a b : Int} : (2 : Rat) ^ a ≤ 2 ^ b ↔ a ≤ b := zpow_le_zpow_iff_right₀ one_lt_two

theorem two_zpow_lt {a b : Int} : (2 : Rat) ^ a < 2 ^ b ↔ a < b := zpow_lt_zpow_iff_right₀ one_lt_two

theorem two_zpow_pos (a : Int) : (0 : Rat) < 2 ^ a := zpow_pos two_pos a

theorem two_zpow_add (a b : Int) : (2 : Rat) ^ (a + b) = 2 ^ a * 2 ^ b := zpow_add₀ two_ne_zero a b

theorem abs_numVal (neg : Bool) (m : Nat) (e : Int) : |numVal neg m e| = m * 2 ^ e := by
  have hpos : (0 : Rat) ≤ m * 2 ^ e := mul_nonneg m.cast_nonneg (two_zpow_pos e).le
  cases neg
  · simp only [numVal, Bool.false_eq_true, if_false, one_mul, abs_of_nonneg hpos]
  · simp only [numVal, if_true, neg_mul, one_mul, abs_neg, abs_of_nonneg hpos]

theorem numVal_neg_iff {neg : Bool} {m : Nat} (hm : m ≠ 0) (e : Int) : numVal neg m e < 0 ↔ neg = true := by
  have hpos : (0 : Rat) < m * 2 ^ e := mul_pos (Nat.cast_pos.mpr (Nat.pos_of_ne_zero hm)) (two_zpow_pos e)
  cases neg
  · simp only [numVal, Bool.false_eq_true, if_false, one_mul, iff_false, not_lt]
    exact hpos.le
  · simp only [numVal, if_true, neg_mul, one_mul, iff_true]
    exact neg_lt_zero.mpr hpos

theorem numVal_mul_zpow (neg : Bool) (m : Nat) (e k : Int) : numVal neg m e * 2 ^ k = numVal neg m (e + k) := by
  rw [numVal, numVal, mul_assoc, ← two_zpow_add]

/-- Two powers of two about a number tell its binade. -/
theorem binade_unique {c : Rat} {a b : Int} (ha : 2 ^ a ≤ |c|) (ha' : |c| < 2 ^ (a + 1)) (hb : 2 ^ b ≤ |c|)
    (hb' : |c| < 2 ^ (b + 1)) : a = b := by
  have h1 := two_zpow_lt.mp (ha.trans_lt hb')
  have h2 := two_zpow_lt.mp (hb.trans_lt ha')
  omega

/-- A significand of `n` bits and the binade. -/
theorem numVal_binade {neg : Bool} {m n : Nat} {e : Int} (h : 2 ^ n ≤ m) (h' : m < 2 ^ (n + 1)) :
    2 ^ (e + n) ≤ |numVal neg m e| ∧ |numVal neg m e| < 2 ^ (e + n + 1) := by
  have hpos := two_zpow_pos e
  have h : (2 : Rat) ^ n ≤ m := by exact_mod_cast h
  have h' : (m : Rat) < 2 ^ (n + 1) := by exact_mod_cast h'
  rw [abs_numVal, add_assoc, two_zpow_add, two_zpow_add, mul_comm, mul_comm ((2 : Rat) ^ e), zpow_natCast]
  refine ⟨mul_le_mul_of_nonneg_right h hpos.le, mul_lt_mul_of_pos_right ?_ hpos⟩
  exact_mod_cast h'

theorem leadExp_binade (neg : Bool) {m : Nat} (hm : m ≠ 0) (e : Int) :
    2 ^ leadExp m e ≤ |numVal neg m e| ∧ |numVal neg m e| < 2 ^ (leadExp m e + 1) :=
  numVal_binade (Nat.log2_self_le hm) Nat.lt_log2_self

/-! ### Rounding keeps a number between its bounds -/

theorem le_abs_roundRat (mode : Rounding) {n : Int} {p : Rat} (h : (n : Rat) ≤ |p|) : n ≤ |roundRat mode p| := by
  obtain hp | hp := le_abs.mp h
  · exact (le_roundRat mode hp).trans (le_abs_self _)
  · have : roundRat mode p ≤ -n := roundRat_le mode (by push_cast; linarith)
    exact le_abs.mpr (.inr (by omega))

theorem abs_roundRat_le (mode : Rounding) {n : Int} {p : Rat} (h : |p| ≤ (n : Rat)) : |roundRat mode p| ≤ n := by
  obtain ⟨h1, h2⟩ := abs_le.mp h
  exact abs_le.mpr ⟨le_roundRat mode (by push_cast; linarith), roundRat_le mode h2⟩

/-- A number rounded to a multiple of `2 ^ u`. -/
def roundTo (mode : Rounding) (c : Rat) (u : Int) : Rat := (roundRat mode (c / 2 ^ u) : Rat) * 2 ^ u

theorem roundTo_eq_self_iff (mode : Rounding) (c : Rat) (u : Int) :
    roundTo mode c u = c ↔ (roundRat mode (c / 2 ^ u) : Rat) = c / 2 ^ u :=
  (eq_div_iff (two_zpow_pos u).ne').symm

theorem abs_roundTo_le (mode : Rounding) {c : Rat} {u : Int} {n : Nat} (h : |c| ≤ 2 ^ (u + n)) :
    |roundTo mode c u| ≤ 2 ^ (u + n) := by
  have hpos := two_zpow_pos u
  have hc : |c / 2 ^ u| ≤ ((2 ^ n : Nat) : Int) := by
    rw [abs_div, abs_of_pos hpos, div_le_iff₀ hpos]
    push_cast
    rwa [← zpow_natCast, ← two_zpow_add, add_comm]
  have hr : (|(roundRat mode (c / 2 ^ u) : Rat)|) ≤ 2 ^ n := by exact_mod_cast abs_roundRat_le mode hc
  rw [roundTo, abs_mul, abs_of_pos hpos, two_zpow_add, mul_comm, zpow_natCast]
  exact mul_le_mul_of_nonneg_left hr hpos.le

theorem le_abs_roundTo (mode : Rounding) {c : Rat} {u : Int} {n : Nat} (h : 2 ^ (u + n) ≤ |c|) :
    2 ^ (u + n) ≤ |roundTo mode c u| := by
  have hpos := two_zpow_pos u
  have hc : (((2 ^ n : Nat) : Int) : Rat) ≤ |c / 2 ^ u| := by
    rw [abs_div, abs_of_pos hpos, le_div_iff₀ hpos]
    push_cast
    rwa [← zpow_natCast, ← two_zpow_add, add_comm]
  have hr : (2 : Rat) ^ n ≤ (|(roundRat mode (c / 2 ^ u) : Rat)|) := by exact_mod_cast le_abs_roundRat mode hc
  rw [roundTo, abs_mul, abs_of_pos hpos, two_zpow_add, mul_comm, zpow_natCast]
  exact mul_le_mul_of_nonneg_right hr hpos.le

/-- The model's rounding at a unit, as a number. -/
theorem numVal_roundAt (mode : Rounding) (neg : Bool) (m : Nat) (e q : Int) :
    numVal neg (roundAt mode neg m e q).1 q = roundTo mode (numVal neg m e) q := by
  rw [roundTo, (roundAt_eq mode neg m e q).1, numVal]
  cases neg <;> push_cast <;> rfl

theorem roundAt_lost (mode : Rounding) (neg : Bool) (m : Nat) (e q : Int) :
    (roundAt mode neg m e q).2 = false ↔ roundTo mode (numVal neg m e) q = numVal neg m e := by
  rw [(roundAt_eq mode neg m e q).2, roundTo_eq_self_iff]

/-! ### Rounding to the precision of a format -/

/-- The last place of a number of full precision. -/
def lastPlace (f : Fmt) (m : Nat) (e : Int) : Int := leadExp m e - f.fracBits

theorem roundPrec_spec (f : Fmt) (mode : Rounding) (neg : Bool) {m : Nat} (hm : m ≠ 0) (e : Int) :
    let r := roundPrec f mode neg m e
    numVal neg r.1 r.2.1 = roundTo mode (numVal neg m e) (lastPlace f m e) ∧ 2 ^ f.fracBits ≤ r.1 ∧ r.1 < 2 ^ f.prec ∧
    (r.2.2 = false ↔ roundTo mode (numVal neg m e) (lastPlace f m e) = numVal neg m e) := by
  intro r
  obtain ⟨hlow, hhigh⟩ := leadExp_binade neg hm e
  have hu : lastPlace f m e + f.fracBits = leadExp m e := by
    unfold lastPlace
    omega
  have hval := numVal_roundAt mode neg m e (lastPlace f m e)
  have hlost := roundAt_lost mode neg m e (lastPlace f m e)
  have habs := abs_numVal neg (roundAt mode neg m e (lastPlace f m e)).1 (lastPlace f m e)
  have hpos := two_zpow_pos (lastPlace f m e)
  have hge : 2 ^ f.fracBits ≤ (roundAt mode neg m e (lastPlace f m e)).1 := by
    have h := le_abs_roundTo mode (u := lastPlace f m e) (n := f.fracBits) (by rwa [hu])
    rw [← hval, habs, two_zpow_add, mul_comm, zpow_natCast] at h
    exact_mod_cast le_of_mul_le_mul_right h hpos
  have hle : (roundAt mode neg m e (lastPlace f m e)).1 ≤ 2 ^ f.prec := by
    have h := abs_roundTo_le mode (u := lastPlace f m e) (n := f.prec) (by
      rw [Fmt.prec_eq]
      push_cast
      rw [← add_assoc, hu]
      exact hhigh.le)
    rw [← hval, habs, two_zpow_add, mul_comm ((2 : Rat) ^ lastPlace f m e), zpow_natCast] at h
    exact_mod_cast le_of_mul_le_mul_right h hpos
  have hr : r = if (roundAt mode neg m e (lastPlace f m e)).1 = 2 ^ f.prec
      then (2 ^ f.fracBits, lastPlace f m e + 1, (roundAt mode neg m e (lastPlace f m e)).2)
      else ((roundAt mode neg m e (lastPlace f m e)).1, lastPlace f m e, (roundAt mode neg m e (lastPlace f m e)).2) := rfl
  have hp := f.prec_eq
  split_ifs at hr with hfull
  · rw [hr]
    refine ⟨?_, le_refl _, Nat.pow_lt_pow_right (by decide) (by omega), hlost⟩
    rw [← hval, hfull, hp, numVal, numVal, two_zpow_add]
    push_cast
    ring
  · rw [hr]
    exact ⟨hval, hge, lt_of_le_of_ne hle hfull, hlost⟩

/-! ### A number in whose place another is rounded -/

/-- `c` is rounded as the number of `neg`, `m` and `e` is: no multiple of half a unit, at full precision or coarser, tells
them apart. -/
structure Stands (f : Fmt) (neg : Bool) (m : Nat) (e : Int) (c : Rat) : Prop where
  ne : m ≠ 0
  same : ∀ u, lastPlace f m e ≤ u → SameHalves (c / 2 ^ u) (numVal neg m e / 2 ^ u)

theorem Stands.self {f : Fmt} (neg : Bool) {m : Nat} (hm : m ≠ 0) (e : Int) : Stands f neg m e (numVal neg m e) :=
  ⟨hm, fun _ _ _ => ⟨Iff.rfl, Iff.rfl⟩⟩

section

variable {f : Fmt} {neg : Bool} {m : Nat} {e : Int} {c : Rat} {mode : Rounding}

theorem Stands.roundTo_eq (h : Stands f neg m e c) {u : Int} (hu : lastPlace f m e ≤ u) :
    roundTo mode c u = roundTo mode (numVal neg m e) u := by
  rw [roundTo, roundTo, (h.same u hu).roundRat_eq]

theorem Stands.roundTo_self_iff (h : Stands f neg m e c) {u : Int} (hu : lastPlace f m e ≤ u) :
    roundTo mode c u = c ↔ roundTo mode (numVal neg m e) u = numVal neg m e := by
  rw [roundTo_eq_self_iff, roundTo_eq_self_iff, (h.same u hu).isInt_iff]

theorem Stands.neg_iff (h : Stands f neg m e c) : c < 0 ↔ neg = true := by
  have h0 := ((h.same _ (le_refl _)).le_iff 0).1
  have hpos := two_zpow_pos (lastPlace f m e)
  simp only [Int.cast_zero, le_div_iff₀ hpos, zero_mul] at h0
  rw [← numVal_neg_iff h.ne e, ← not_le, ← not_le, h0]

theorem Stands.two_zpow_le_iff (h : Stands f neg m e c) {j : Int} (hj : lastPlace f m e ≤ j) :
    2 ^ j ≤ |c| ↔ 2 ^ j ≤ |numVal neg m e| := by
  have hpos := two_zpow_pos j
  obtain ⟨h1, -⟩ := (h.same j hj).le_iff 1
  obtain ⟨-, h2⟩ := (h.same j hj).le_iff (-1)
  simp only [Int.cast_one, Int.cast_neg, le_div_iff₀ hpos, div_le_iff₀ hpos, one_mul, neg_mul] at h1 h2
  rw [le_abs, le_abs, h1, le_neg, h2, le_neg]

theorem Stands.binade (h : Stands f neg m e c) : 2 ^ leadExp m e ≤ |c| ∧ |c| < 2 ^ (leadExp m e + 1) := by
  obtain ⟨hlow, hhigh⟩ := leadExp_binade neg h.ne e
  have hle : lastPlace f m e ≤ leadExp m e := by
    unfold lastPlace
    omega
  rw [h.two_zpow_le_iff hle, ← not_le, h.two_zpow_le_iff (by omega), not_le]
  exact ⟨hlow, hhigh⟩

/-- The unit of a number of full precision. -/
theorem Stands.unit_eq (h : Stands f neg m e c) {u : Int} (hu : 2 ^ (u + f.fracBits) ≤ |c|) (hu' : |c| < 2 ^ (u + f.fracBits + 1)) :
    u = lastPlace f m e := by
  obtain ⟨h1, h2⟩ := h.binade
  have := binade_unique hu hu' h1 h2
  unfold lastPlace
  omega

end


/-! ### The datum of a rounded number -/

theorem packFinite_holds (f : Fmt) (neg : Bool) {m : Nat} {q : Int} (h : f.Fits m q) :
    Holds f (packFinite f neg m q) (numVal neg m q) ∧ (numVal neg m q = 0 → classify f (packFinite f neg m q) = .zero neg) := by
  obtain ⟨hc, hclean⟩ := packFinite_spec f neg h
  have hm : numVal neg m q = 0 → m = 0 := fun h0 => by
    have habs := abs_numVal neg m q
    rw [h0, abs_zero, eq_comm, mul_eq_zero, or_iff_left (two_zpow_pos q).ne'] at habs
    exact_mod_cast habs
  refine ⟨⟨hclean.symm, ?_⟩, fun h0 => by rw [hc, if_pos (hm h0)]⟩
  rw [hc]
  split_ifs with h0
  · rw [h0]
    simp [ratOf, numVal]
  · rfl

/-- A number of full precision fits where its binade is one of the format's. -/
theorem Fmt.fits_of_full {f : Fmt} {m : Nat} {q : Int} (hm : 2 ^ f.fracBits ≤ m) (hm' : m < 2 ^ f.prec)
    (hmin : f.emin ≤ q + f.fracBits) (hmax : q + f.fracBits ≤ f.emax) : f.Fits m q :=
  ⟨hm', by unfold Fmt.qmin; omega, hmax, .inl hm⟩

/-- The binade of a normal number. -/
theorem normal_binade {f : Fmt} {c : Rat} (h : Normal f c) : ∃ u : Int, f.emin ≤ u + f.fracBits ∧ u + f.fracBits ≤ f.emax ∧
    2 ^ (u + f.fracBits) ≤ |c| ∧ |c| < 2 ^ (u + f.fracBits + 1) ∧ ∀ mode, roundTo mode c u = c := by
  obtain ⟨neg, m, x, hm, hm', hmin, hmax, hv⟩ := h
  obtain rfl : numVal neg m x = c := Option.some.inj hv
  rw [f.prec_eq] at hm'
  obtain ⟨h1, h2⟩ := numVal_binade (neg := neg) (e := x) hm hm'
  refine ⟨x, hmin, hmax, h1, h2, fun mode => ?_⟩
  rw [roundTo_eq_self_iff, roundRat_eq_self_iff]
  exact ⟨_, numVal_div_finer neg m (le_refl x)⟩

/-- The scaled result that a message tells (R325, R327). -/
def Scaled (f : Fmt) (mode : Rounding) (c : Rat) (k : Int) (d : FBits) : Prop :=
  ∀ u : Int, 2 ^ (u + f.fracBits) ≤ |c| → |c| < 2 ^ (u + f.fracBits + 1) →
    Normal f (roundTo mode c u * 2 ^ k) → Holds f d (roundTo mode c u * 2 ^ k)

theorem scaledBits_holds {env : FEnv} {f : Fmt} {neg : Bool} {m : Nat} {e k : Int} {c : Rat} (h : Stands f neg m e c) :
    Scaled f env.mode c k (scaledBits env f neg m e k) := by
  intro u hu hu' hnormal
  obtain rfl := h.unit_eq hu hu'
  obtain ⟨hval, hlow, hhigh, -⟩ := roundPrec_spec f env.mode neg h.ne e
  rw [h.roundTo_eq (le_refl _), ← hval, numVal_mul_zpow] at hnormal ⊢
  obtain ⟨v, hmin, hmax, h1, h2, -⟩ := normal_binade hnormal
  have hp := f.prec_eq
  obtain ⟨h3, h4⟩ := numVal_binade (neg := neg) (e := (roundPrec f env.mode neg m e).2.1 + k) hlow (by rwa [← hp])
  have := binade_unique h1 h2 h3 h4
  have hE : f.emin ≤ (roundPrec f env.mode neg m e).2.1 + k + f.fracBits ∧
      (roundPrec f env.mode neg m e).2.1 + k + f.fracBits ≤ f.emax := by omega
  unfold scaledBits
  rw [if_pos hE]
  exact (packFinite_holds f neg (Fmt.fits_of_full hlow hhigh hE.1 hE.2)).1

/-- The default result of an overflow (R325). -/
def OverflowDefault (f : Fmt) (mode : Rounding) (c : Rat) (d : FBits) : Prop :=
  if mode = .nearest ∨ (mode = .plus ∧ 0 < c) ∨ (mode = .minus ∧ c < 0) then classify f d = .inf (decide (c < 0))
  else ratOf (classify f d) = some ((if c < 0 then -1 else 1) * ((2 : Rat) ^ f.prec - 1) * 2 ^ (f.emax - f.fracBits))

theorem packLargest_spec (f : Fmt) (neg : Bool) : cleanBits f (packLargest f neg) = packLargest f neg ∧
    ratOf (classify f (packLargest f neg)) = some ((if neg then -1 else 1) * ((2 : Rat) ^ f.prec - 1) * 2 ^ (f.emax - f.fracBits)) := by
  have hfits : f.Fits (2 ^ f.prec - 1) (f.emax - f.fracBits) := by
    cases f
    · simp only [Fmt.fits_single, Fmt.prec, Fmt.emax, Fmt.fracBits]
      omega
    · simp only [Fmt.fits_double, Fmt.prec, Fmt.emax, Fmt.fracBits]
      omega
    · simp only [Fmt.fits_extended, Fmt.prec, Fmt.emax, Fmt.fracBits]
      omega
  obtain ⟨⟨hclean, hval⟩, -⟩ := packFinite_holds f neg hfits
  rw [packLargest_eq]
  refine ⟨hclean.symm, hval.trans ?_⟩
  rw [numVal, Nat.cast_sub Nat.one_le_two_pow, Nat.cast_pow, Nat.cast_ofNat, Nat.cast_one]

theorem overflowDefault_eq (f : Fmt) (mode : Rounding) (neg : Bool) : overflowDefault f mode neg =
    if mode = .nearest ∨ (mode = .plus ∧ neg = false) ∨ (mode = .minus ∧ neg = true) then packInf f neg else packLargest f neg := by
  cases mode <;> cases neg <;> simp [overflowDefault]

theorem overflowDefault_spec {f : Fmt} {mode : Rounding} {neg : Bool} {c : Rat} (hc : c ≠ 0) (h : c < 0 ↔ neg = true) :
    cleanBits f (overflowDefault f mode neg) = overflowDefault f mode neg ∧ OverflowDefault f mode c (overflowDefault f mode neg) := by
  have hpos : 0 < c ↔ neg = false := by
    rw [← Bool.not_eq_true, ← h, not_lt, lt_iff_le_and_ne]
    exact and_iff_left hc.symm
  unfold OverflowDefault
  simp only [overflowDefault_eq, h, hpos, Bool.decide_eq_true]
  split_ifs
  · exact (packInf_spec f neg).symm
  · obtain ⟨hclean, hval⟩ := packLargest_spec f neg
    refine ⟨hclean, hval.trans ?_⟩
    cases neg <;> simp_all
  · obtain ⟨hclean, hval⟩ := packLargest_spec f neg
    refine ⟨hclean, hval.trans ?_⟩
    cases neg <;> simp_all

/-! ### The delivery of an exact number (R325 to R328) -/

section

variable {env : FEnv} {f : Fmt} {neg : Bool} {m : Nat} {e : Int} {c : Rat}

theorem lastPlace_add (f : Fmt) (m : Nat) (e : Int) : lastPlace f m e + f.fracBits = leadExp m e := by
  unfold lastPlace
  omega

/-- The rounded number at full precision. -/
theorem Stands.roundPrec_spec (h : Stands f neg m e c) :
    let r := roundPrec f env.mode neg m e
    numVal neg r.1 r.2.1 = roundTo env.mode c (lastPlace f m e) ∧ 2 ^ f.fracBits ≤ r.1 ∧ r.1 < 2 ^ f.prec ∧
    (r.2.2 = false ↔ roundTo env.mode c (lastPlace f m e) = c) ∧
    2 ^ (r.2.1 + f.fracBits) ≤ |roundTo env.mode c (lastPlace f m e)| ∧
    |roundTo env.mode c (lastPlace f m e)| < 2 ^ (r.2.1 + f.fracBits + 1) := by
  intro r
  obtain ⟨hval, hlow, hhigh, hlost⟩ := Machine.roundPrec_spec f env.mode neg h.ne e
  rw [← h.roundTo_self_iff (le_refl _)] at hlost
  rw [← h.roundTo_eq (le_refl _)] at hval
  refine ⟨hval, hlow, hhigh, hlost, ?_⟩
  rw [← hval]
  exact numVal_binade hlow (by rwa [← f.prec_eq])

/-- A number beyond the format rounds at least to its own binade. -/
theorem Stands.le_roundedExp (h : Stands f neg m e c) :
    leadExp m e ≤ (roundPrec f env.mode neg m e).2.1 + f.fracBits := by
  obtain ⟨-, -, -, -, -, hlt⟩ := h.roundPrec_spec (env := env)
  have hle := le_abs_roundTo env.mode (c := c) (u := lastPlace f m e) (n := f.fracBits) (by rw [lastPlace_add]; exact h.binade.1)
  rw [lastPlace_add] at hle
  have := two_zpow_lt.mp (hle.trans_lt hlt)
  omega

theorem not_tiny_iff (h : Stands f neg m e c) : 2 ^ f.emin ≤ |c| ↔ f.emin ≤ leadExp m e := by
  obtain ⟨h1, h2⟩ := h.binade
  constructor
  · intro hc
    have := two_zpow_lt.mp (hc.trans_lt h2)
    omega
  · intro hl
    exact (two_zpow_le.mpr hl).trans h1

theorem roundOut_overflow (h : Stands f neg m e c)
    (ho : 2 ^ (f.emax + 1) ≤ |roundTo env.mode c (f.emax - f.fracBits)|) :
    roundOut env f neg m e = if env.ovf then .taken .fpOverflow (scaledBits env f neg m e (-f.scale)) [.fpOverflow, .fpInexact]
      else inexactOut env (overflowDefault f env.mode neg) true [.fpOverflow, .fpInexact] := by
  have hemin : f.emin ≤ f.emax := by cases f <;> decide
  have hmax : f.emax - f.fracBits + f.fracBits = f.emax := Int.sub_add_cancel _ _
  have hlead : f.emax ≤ leadExp m e := by
    by_contra hlt
    have hc : |c| ≤ 2 ^ (f.emax - f.fracBits + f.fracBits) := by
      rw [hmax]
      exact h.binade.2.le.trans (two_zpow_le.mpr (by omega))
    have := two_zpow_le.mp (ho.trans (abs_roundTo_le env.mode hc))
    omega
  have hexp : f.emax < (roundPrec f env.mode neg m e).2.1 + f.fracBits := by
    obtain hlt | heq := lt_or_eq_of_le hlead
    · exact hlt.trans_le h.le_roundedExp
    · have hu : f.emax - f.fracBits = lastPlace f m e := by rw [heq, lastPlace]
      obtain ⟨-, -, -, -, -, hlt⟩ := h.roundPrec_spec (env := env)
      rw [hu] at ho
      have := two_zpow_lt.mp (ho.trans_lt hlt)
      omega
  unfold roundOut
  rw [if_neg (by omega), if_pos hexp]

theorem roundOut_tiny (h : Stands f neg m e c) (ht : |c| < 2 ^ f.emin) : roundOut env f neg m e = underflowOut env f neg m e := by
  have hl : ¬ f.emin ≤ leadExp m e := fun hl => (not_le.mpr ht) ((not_tiny_iff h).mpr hl)
  exact if_pos (not_le.mp hl)

theorem roundOut_inRange (h : Stands f neg m e c) {u : Int} (hmin : f.emin ≤ u + f.fracBits) (hu : 2 ^ (u + f.fracBits) ≤ |c|)
    (hu' : |c| < 2 ^ (u + f.fracBits + 1)) (hr : |roundTo env.mode c u| < 2 ^ (f.emax + 1)) :
    ∃ d, Holds f d (roundTo env.mode c u) ∧ roundOut env f neg m e =
      inexactOut env d (decide (roundTo env.mode c u ≠ c)) (if roundTo env.mode c u = c then [] else [.fpInexact]) := by
  obtain rfl := h.unit_eq hu hu'
  rw [lastPlace_add] at hmin
  obtain ⟨hval, hlow, hhigh, hlost, hle, hlt⟩ := h.roundPrec_spec (env := env)
  have hmax := two_zpow_lt.mp (hle.trans_lt hr)
  have hge := h.le_roundedExp (env := env)
  have hfits : f.Fits (roundPrec f env.mode neg m e).1 (roundPrec f env.mode neg m e).2.1 :=
    Fmt.fits_of_full hlow hhigh (by omega) (by omega)
  obtain ⟨hholds, -⟩ := packFinite_holds f neg hfits
  rw [hval] at hholds
  refine ⟨_, hholds, ?_⟩
  unfold roundOut
  rw [if_neg (by omega)]
  simp only [if_neg (show ¬ f.emax < (roundPrec f env.mode neg m e).2.1 + f.fracBits by omega)]
  cases hl : (roundPrec f env.mode neg m e).2.2 with
  | false => simp [hlost.mp hl]
  | true =>
    have hne : roundTo env.mode c (lastPlace f m e) ≠ c := fun he => Bool.noConfusion (hl.symm.trans (hlost.mpr he))
    simp [hne]

/-- A normal number is delivered as it is. -/
theorem roundOut_normal (h : Stands f neg m e c) (hn : Normal f c) : ∃ d, Holds f d c ∧ roundOut env f neg m e = .done d [] := by
  obtain ⟨u, hmin, hmax, hu, hu', hr⟩ := normal_binade hn
  obtain ⟨d, hd, hout⟩ := roundOut_inRange (env := env) h hmin hu hu' (by
    rw [hr]
    exact hu'.trans_le (two_zpow_le.mpr (by omega)))
  rw [hr] at hd hout
  exact ⟨d, hd, hout.trans (by simp [inexactOut])⟩

/-- The denormalized rounding of a tiny number (R327). -/
theorem underflow_rounded (h : Stands f neg m e c) (ht : |c| < 2 ^ f.emin) :
    let r := roundAt env.mode neg m e f.qmin
    Holds f (packFinite f neg r.1 f.qmin) (roundTo env.mode c f.qmin) ∧
    (roundTo env.mode c f.qmin = 0 → classify f (packFinite f neg r.1 f.qmin) = .zero neg) ∧
    (r.2 = false ↔ roundTo env.mode c f.qmin = c) := by
  intro r
  have hq : f.qmin + f.fracBits = f.emin := Int.sub_add_cancel _ _
  have hl : ¬ f.emin ≤ leadExp m e := fun hl => (not_le.mpr ht) ((not_tiny_iff h).mpr hl)
  have hu : lastPlace f m e ≤ f.qmin := by
    unfold lastPlace
    omega
  have hval : numVal neg r.1 f.qmin = roundTo env.mode c f.qmin := by rw [h.roundTo_eq hu, ← numVal_roundAt]
  have hle : r.1 ≤ 2 ^ f.fracBits := by
    have hc := abs_roundTo_le env.mode (c := c) (u := f.qmin) (n := f.fracBits) (by rw [hq]; exact ht.le)
    have hpow : (2 : Rat) ^ (f.qmin + f.fracBits) = 2 ^ f.fracBits * 2 ^ f.qmin := by rw [two_zpow_add, mul_comm, zpow_natCast]
    rw [← hval, abs_numVal, hpow] at hc
    exact_mod_cast le_of_mul_le_mul_right hc (two_zpow_pos f.qmin)
  have hmax : f.emin ≤ f.emax := by cases f <;> decide
  have hfits : f.Fits r.1 f.qmin :=
    ⟨hle.trans_lt (Nat.pow_lt_pow_right (by decide) (by rw [f.prec_eq]; omega)), le_refl _, by omega, .inr rfl⟩
  obtain ⟨hholds, hzero⟩ := packFinite_holds f neg hfits
  rw [hval] at hholds hzero
  exact ⟨hholds, hzero, by rw [h.roundTo_self_iff hu]; exact roundAt_lost env.mode neg m e f.qmin⟩

end


/-! ### The exact numbers of the operations -/

theorem numVal_zero_iff {neg : Bool} {m : Nat} {e : Int} : numVal neg m e = 0 ↔ m = 0 := by
  rw [← abs_eq_zero, abs_numVal, mul_eq_zero, or_iff_left (two_zpow_pos e).ne', Nat.cast_eq_zero]

theorem numVal_not (neg : Bool) (m : Nat) (e : Int) : numVal (!neg) m e = -numVal neg m e := by
  cases neg <;> simp [numVal]

/-- A signed integer as a sign and a magnitude. -/
theorem numVal_natAbs (z : Int) (e : Int) : numVal (decide (z < 0)) z.natAbs e = z * 2 ^ e := by
  have hcast : ((z.natAbs : Nat) : Rat) = |(z : Rat)| := by rw [Nat.cast_natAbs, Int.cast_abs]
  rw [numVal, hcast]
  by_cases h : z < 0
  · have h' : (z : Rat) < 0 := by exact_mod_cast h
    simp [h, abs_of_neg h']
  · have h' : (0 : Rat) ≤ z := by exact_mod_cast not_lt.mp h
    simp [h, abs_of_nonneg h']

theorem signedNat_mul (neg : Bool) (m : Nat) {e d : Int} (h : d ≤ e) :
    (signedNat neg (m * 2 ^ (e - d).toNat) : Rat) * 2 ^ d = numVal neg m e := by
  have hpow : (2 : Rat) ^ e = 2 ^ (e - d).toNat * 2 ^ d := by
    rw [← zpow_natCast, ← two_zpow_add]
    congr 1
    omega
  rw [numVal, hpow]
  cases neg <;> simp [signedNat] <;> ring

theorem exactSum_eq (n1 : Bool) (m1 : Nat) (e1 : Int) (n2 : Bool) (m2 : Nat) (e2 : Int) :
    (exactSum n1 m1 e1 n2 m2 e2 : Rat) * 2 ^ min e1 e2 = numVal n1 m1 e1 + numVal n2 m2 e2 := by
  rw [exactSum, Int.cast_add, add_mul, signedNat_mul n1 m1 (min_le_left e1 e2), signedNat_mul n2 m2 (min_le_right e1 e2)]

theorem numVal_mul (n1 : Bool) (m1 : Nat) (e1 : Int) (n2 : Bool) (m2 : Nat) (e2 : Int) :
    numVal (n1 ^^ n2) (m1 * m2) (e1 + e2) = numVal n1 m1 e1 * numVal n2 m2 e2 := by
  rw [numVal, numVal, numVal, two_zpow_add, Nat.cast_mul]
  cases n1 <;> cases n2 <;> simp <;> ring

/-! ### The quotient (R322) -/

/-- Two magnitudes between the same multiples of two units are rounded alike where the unit is four times as coarse. -/
theorem sameHalves_of_between {x y : Rat} {n : Int} (hx : 2 * n < x) (hx' : x < 2 * n + 2) (hy : 2 * n < y) (hy' : y < 2 * n + 2)
    (d : Nat) : SameHalves (x / 2 ^ (d + 2)) (y / 2 ^ (d + 2)) := by
  have hpos : (0 : Rat) < 2 ^ (d + 1) := by positivity
  have hhalf : ∀ z : Rat, 2 * (z / 2 ^ (d + 2)) = z / 2 ^ (d + 1) := fun z => by
    rw [pow_succ]
    field_simp
  have hle : ∀ (z : Rat) (k : Int), 2 * n < z → z < 2 * n + 2 → ((k : Rat) * 2 ^ (d + 1) ≤ z ↔ k * 2 ^ d ≤ n) := fun z k h h' => by
    have heven : (k : Rat) * 2 ^ (d + 1) = 2 * ((k * 2 ^ d : Int) : Rat) := by
      push_cast
      ring
    rw [heven]
    constructor
    · intro hz
      have : ((k * 2 ^ d : Int) : Rat) < n + 1 := by linarith
      have : k * 2 ^ d < n + 1 := by exact_mod_cast this
      omega
    · intro hz
      have : ((k * 2 ^ d : Int) : Rat) ≤ n := by exact_mod_cast hz
      linarith
  have hge : ∀ (z : Rat) (k : Int), 2 * n < z → z < 2 * n + 2 → (z ≤ (k : Rat) * 2 ^ (d + 1) ↔ n + 1 ≤ k * 2 ^ d) := fun z k h h' => by
    have heven : (k : Rat) * 2 ^ (d + 1) = 2 * ((k * 2 ^ d : Int) : Rat) := by
      push_cast
      ring
    rw [heven]
    constructor
    · intro hz
      have : (n : Rat) < ((k * 2 ^ d : Int) : Rat) := by linarith
      exact_mod_cast this
    · intro hz
      have : (n : Rat) + 1 ≤ ((k * 2 ^ d : Int) : Rat) := by exact_mod_cast hz
      linarith
  intro k
  rw [hhalf, hhalf, le_div_iff₀ hpos, le_div_iff₀ hpos, div_le_iff₀ hpos, div_le_iff₀ hpos, hle x k hx hx', hle y k hy hy',
    hge x k hx hx', hge y k hy hy']
  exact ⟨Iff.rfl, Iff.rfl⟩

/-- A magnitude given by its lower neighbour and a sticky bit stands for the number. -/
theorem stands_of_sticky {f : Fmt} {neg : Bool} {n : Nat} {e : Int} {x : Rat} (hn : 2 ^ (f.prec + 1) ≤ n) (hx : (2 * n : Rat) < x)
    (hx' : x < 2 * n + 2) : Stands f neg (2 * n + 1) e ((if neg then -1 else 1) * x * 2 ^ e) := by
  refine ⟨by omega, fun u hu => ?_⟩
  have hlog : f.prec + 2 ≤ Nat.log2 (2 * n + 1) := by
    rw [Nat.le_log2 (by omega), pow_succ]
    omega
  have hp := f.prec_eq
  obtain ⟨d, hd⟩ : ∃ d : Nat, u = e + (d + 2 : Nat) := ⟨(u - e - 2).toNat, by
    unfold lastPlace leadExp at hu
    omega⟩
  have hdiv : ∀ z : Rat, z * 2 ^ e / 2 ^ u = z / 2 ^ (d + 2) := fun z => by
    rw [hd, two_zpow_add, mul_comm z, mul_div_mul_left _ _ (two_zpow_pos e).ne', zpow_natCast]
  have hsame := sameHalves_of_between (x := x) (y := (2 * n + 1 : Nat)) (n := n) (by exact_mod_cast hx) (by exact_mod_cast hx')
    (by push_cast; linarith) (by push_cast; linarith) d
  rw [numVal, hdiv, hdiv]
  cases neg
  · rw [if_neg Bool.false_ne_true, one_mul, one_mul]
    exact hsame
  · rw [if_pos rfl, neg_one_mul, neg_one_mul, neg_div, neg_div]
    exact hsame.neg

theorem quotient_stands (f : Fmt) (n1 n2 : Bool) {m1 m2 : Nat} (e1 e2 : Int) (h1 : m1 ≠ 0) (h2 : m2 ≠ 0) :
    Stands f (n1 ^^ n2) (quotient f m1 e1 m2 e2).1 (quotient f m1 e1 m2 e2).2 (numVal n1 m1 e1 / numVal n2 m2 e2) := by
  have hm2 : (m2 : Rat) ≠ 0 := Nat.cast_ne_zero.mpr h2
  have hm2' : (0 : Rat) < m2 := Nat.cast_pos.mpr (Nat.pos_of_ne_zero h2)
  generalize hk : f.prec + 4 + Nat.log2 m2 = k
  generalize hq : m1 * 2 ^ k / m2 = q
  generalize hr : m1 * 2 ^ k % m2 = r
  have hquot : quotient f m1 e1 m2 e2 = (2 * q + (if r = 0 then 0 else 1), e1 - e2 - k - 1) := by
    simp only [quotient, hk, hq, hr]
  have hparts : (m1 : Rat) * 2 ^ k = m2 * q + r := by
    have := Nat.div_add_mod (m1 * 2 ^ k) m2
    rw [hq, hr] at this
    exact_mod_cast this.symm
  have hval : numVal n1 m1 e1 / numVal n2 m2 e2 =
      (if (n1 ^^ n2) then -1 else 1) * (2 * q + 2 * (r / m2)) * 2 ^ (e1 - e2 - k - 1) := by
    have hx : (2 * q + 2 * ((r : Rat) / m2)) = 2 * (m1 * 2 ^ k) / m2 := by
      rw [hparts]
      field_simp
    have hpow : (2 : Rat) ^ (e1 - e2 - k - 1) = 2 ^ e1 / 2 ^ e2 / 2 ^ k / 2 := by
      rw [zpow_sub₀ two_ne_zero, zpow_sub₀ two_ne_zero, zpow_sub₀ two_ne_zero, zpow_natCast, zpow_one]
    rw [hx, hpow, numVal, numVal]
    have := (two_zpow_pos e2).ne'
    cases n1 <;> cases n2 <;> simp <;> field_simp
  rw [hquot, hval]
  by_cases h0 : r = 0
  · rw [if_pos h0, h0]
    have hq0 : 2 * q ≠ 0 := fun h => by
      have : q = 0 := by omega
      rw [this, h0] at hparts
      simp at hparts
      exact h1 hparts
    have hself := Stands.self (f := f) (n1 ^^ n2) hq0 (e1 - e2 - k - 1)
    rw [numVal] at hself
    rw [Nat.cast_zero, zero_div, mul_zero, add_zero]
    exact_mod_cast hself
  · rw [if_neg h0]
    have hlow : 2 ^ (f.prec + 1) ≤ q := by
      rw [← hq, Nat.le_div_iff_mul_le (Nat.pos_of_ne_zero h2)]
      have hlog : m2 < 2 ^ (Nat.log2 m2 + 1) := Nat.lt_log2_self
      have hge : 2 ^ k ≤ m1 * 2 ^ k := Nat.le_mul_of_pos_left _ (Nat.pos_of_ne_zero h1)
      refine le_trans (Nat.mul_le_mul_left _ hlog.le) (le_trans ?_ hge)
      rw [← pow_add, ← hk]
      exact Nat.pow_le_pow_right (by decide) (by omega)
    have hr0 : (0 : Rat) < r := Nat.cast_pos.mpr (Nat.pos_of_ne_zero h0)
    have hrlt : (r : Rat) < m2 := by
      rw [← hr]
      exact_mod_cast Nat.mod_lt _ (Nat.pos_of_ne_zero h2)
    have hfrac : 0 < (r : Rat) / m2 := div_pos hr0 hm2'
    have hfrac' : (r : Rat) / m2 < 1 := (div_lt_one hm2').mpr hrlt
    exact stands_of_sticky hlow (by linarith) (by linarith)


/-! ### An exact datum -/

theorem packExact_holds {f : Fmt} {m : Nat} {e : Int} (neg : Bool) (hm : m ≠ 0) (hlt : m < 2 ^ f.prec) (hmin : f.qmin ≤ e)
    (hmax : leadExp m e ≤ f.emax) : Holds f (packExact f neg m e) (numVal neg m e) := by
  have hlog : Nat.log2 m ≤ f.fracBits := by
    have := (Nat.log2_lt hm).mpr hlt
    rw [f.prec_eq] at this
    omega
  have hq : max f.qmin (lastPlace f m e) ≤ e := max_le hmin (by unfold lastPlace leadExp; omega)
  have hval := numVal_roundAt .nearest neg m e (max f.qmin (lastPlace f m e))
  have hself : roundTo .nearest (numVal neg m e) (max f.qmin (lastPlace f m e)) = numVal neg m e :=
    (roundTo_eq_self_iff _ _ _).mpr ((roundRat_eq_self_iff _ _).mpr ⟨_, numVal_div_finer neg m hq⟩)
  rw [hself] at hval
  have hr : (roundAt .nearest neg m e (max f.qmin (lastPlace f m e))).1 = m * 2 ^ (e - max f.qmin (lastPlace f m e)).toNat := by
    rw [roundAt_finer _ _ _ hq]
  have hpack : packExact f neg m e =
      packFinite f neg (roundAt .nearest neg m e (max f.qmin (lastPlace f m e))).1 (max f.qmin (lastPlace f m e)) := by
    unfold packExact
    rw [if_neg hm]
    rfl
  rw [hpack, ← hval]
  refine (packFinite_holds f neg ?_).1
  obtain ⟨hlow, hhigh⟩ := leadExp_binade neg hm e
  have habs : |numVal neg m e| = _ := (congrArg abs hval.symm).trans (abs_numVal _ _ _)
  have hpos := two_zpow_pos (max f.qmin (lastPlace f m e))
  have hle : leadExp m e ≤ max f.qmin (lastPlace f m e) + f.fracBits := by
    have := le_max_right f.qmin (lastPlace f m e)
    have := lastPlace_add f m e
    omega
  refine ⟨?_, le_max_left _ _, ?_, ?_⟩
  · have h := hhigh.trans_le (two_zpow_le.mpr (show leadExp m e + 1 ≤ max f.qmin (lastPlace f m e) + f.prec by
      rw [f.prec_eq]; push_cast; omega))
    rw [habs, two_zpow_add, mul_comm ((2 : Rat) ^ max f.qmin (lastPlace f m e)), zpow_natCast] at h
    exact_mod_cast lt_of_mul_lt_mul_right h hpos.le
  · obtain h | h := max_choice f.qmin (lastPlace f m e)
    · rw [h]
      have : f.emin ≤ f.emax := by cases f <;> decide
      unfold Fmt.qmin
      omega
    · rw [h, lastPlace_add]
      exact hmax
  · obtain h | h := max_choice f.qmin (lastPlace f m e)
    · exact .inr h
    · left
      have h' := hlow
      rw [← lastPlace_add f m e, ← h, habs, two_zpow_add, mul_comm, zpow_natCast] at h'
      exact_mod_cast le_of_mul_le_mul_right h' hpos

theorem fits_leadExp {f : Fmt} {m : Nat} {e : Int} (hm : m ≠ 0) (h : f.Fits m e) : leadExp m e ≤ f.emax := by
  obtain ⟨hlt, -, hmax, -⟩ := h
  have := (Nat.log2_lt hm).mpr hlt
  rw [f.prec_eq] at this
  unfold leadExp
  omega

/-- The number of a finite datum. -/
theorem classify_number {f : Fmt} {b : FBits} {p : Rat} (h : ratOf (classify f b) = some p) :
    (p = 0 ∧ ∃ g, classify f b = .zero g) ∨
    (p ≠ 0 ∧ ∃ neg m e, classify f b = .fin neg m e ∧ m ≠ 0 ∧ f.Fits m e ∧ p = numVal neg m e) := by
  cases hc : classify f b with
  | zero g =>
    rw [hc] at h
    exact .inl ⟨(Option.some.inj h).symm, g, rfl⟩
  | fin neg m e =>
    rw [hc] at h
    obtain ⟨hm, hf⟩ := fits_of_classify hc
    obtain rfl : numVal neg m e = p := Option.some.inj h
    exact .inr ⟨numVal_zero_iff.not.mpr hm, neg, m, e, rfl, hm, hf, rfl⟩
  | inf g =>
    rw [hc] at h
    cases h
  | nan q g k =>
    rw [hc] at h
    cases h
  | undef =>
    rw [hc] at h
    cases h

/-! ### The arithmetic as one operation -/

/-- The model's operation. -/
def arithRun (op : Arith) (env : FEnv) (f : Fmt) (a b : FBits) : FOut :=
  match op with
  | .add => fadd env f a b
  | .sub => fsub env f a b
  | .subr => fsubr env f a b
  | .mul => fmul env f a b
  | .div => fdiv env f a b
  | .divr => fdivr env f a b

/-- The operation's result matrix. -/
def arithMatrix (op : Arith) (env : FEnv) (f : Fmt) (x y : FVal) : FOut :=
  match op with
  | .add => addVals env f x y
  | .sub => addVals env f x y
  | .subr => addVals env f x y
  | .mul => mulVals env f x y
  | .div => divVals env f x y
  | .divr => divVals env f x y

theorem arithRun_eq (op : Arith) (env : FEnv) (f : Fmt) (a b : FBits) : arithRun op env f a b =
    nanTests env f a b (arithMatrix op env f (op.operands (classify f a) (classify f b)).1
      (op.operands (classify f a) (classify f b)).2) := by
  cases op <;> rfl

section

variable {env : FEnv} {f : Fmt} {a b : FBits} {k : FOut}

theorem nanTests_values (ha : classify f a ≠ .undef) (hb : classify f b ≠ .undef) (ha' : (classify f a).isNan = false)
    (hb' : (classify f b).isNan = false) : nanTests env f a b k = k := by
  have hs : ∀ v : FVal, v.isNan = false → v.isSignaling = false := fun v h => by
    cases v with
    | nan => cases h
    | _ => rfl
  unfold nanTests
  simp only [ha, hb, or_self, if_false, hs _ ha', hs _ hb', ha', hb', Bool.or_self, Bool.false_eq_true]

theorem nanTests_signaling (ha : classify f a ≠ .undef) (hb : classify f b ≠ .undef)
    (h : (classify f a).isSignaling = true ∨ (classify f b).isSignaling = true) : nanTests env f a b k = invalidOut env f := by
  unfold nanTests
  simp only [ha, hb, or_self, if_false, Bool.or_eq_true, h, if_true]

theorem nanTests_quiet (ha : classify f a ≠ .undef) (hb : classify f b ≠ .undef) (ha' : (classify f a).isSignaling = false)
    (hb' : (classify f b).isSignaling = false) :
    ((classify f a).isNan = true → nanTests env f a b k = .done (cleanBits f a) []) ∧
    ((classify f a).isNan = false → (classify f b).isNan = true → nanTests env f a b k = .done (cleanBits f b) []) := by
  unfold nanTests
  simp only [ha, hb, or_self, if_false, ha', hb', Bool.or_self, Bool.false_eq_true]
  exact ⟨fun h => if_pos h, fun h h' => by rw [h, if_neg Bool.false_ne_true, if_pos h']⟩

end

/-! ### Exact sums, products and quotients -/

section

variable {env : FEnv} {f : Fmt} {n1 n2 : Bool} {m1 m2 : Nat} {e1 e2 : Int}

theorem addVals_fin (n1 n2 : Bool) (m1 m2 : Nat) (e1 e2 : Int) :
    (numVal n1 m1 e1 + numVal n2 m2 e2 = 0 →
      addVals env f (.fin n1 m1 e1) (.fin n2 m2 e2) = .done (packZero f (decide (env.mode = .minus))) []) ∧
    (numVal n1 m1 e1 + numVal n2 m2 e2 ≠ 0 → ∃ neg m e, Stands f neg m e (numVal n1 m1 e1 + numVal n2 m2 e2) ∧
      addVals env f (.fin n1 m1 e1) (.fin n2 m2 e2) = roundOut env f neg m e) := by
  rw [← exactSum_eq]
  have hpos := (two_zpow_pos (min e1 e2)).ne'
  have hz : (exactSum n1 m1 e1 n2 m2 e2 : Rat) * 2 ^ min e1 e2 = 0 ↔ exactSum n1 m1 e1 n2 m2 e2 = 0 := by
    rw [mul_eq_zero, or_iff_left hpos, Int.cast_eq_zero]
  rw [Ne, hz]
  refine ⟨fun h => if_pos h, fun h => ⟨_, _, _, ?_, if_neg h⟩⟩
  rw [← numVal_natAbs]
  exact Stands.self _ (Int.natAbs_ne_zero.mpr h) _

theorem mulVals_fin (h1 : m1 ≠ 0) (h2 : m2 ≠ 0) : ∃ neg m e, Stands f neg m e (numVal n1 m1 e1 * numVal n2 m2 e2) ∧
    mulVals env f (.fin n1 m1 e1) (.fin n2 m2 e2) = roundOut env f neg m e := by
  rw [← numVal_mul]
  exact ⟨_, _, _, Stands.self _ (mul_ne_zero h1 h2) _, rfl⟩

theorem divVals_fin (h1 : m1 ≠ 0) (h2 : m2 ≠ 0) : ∃ neg m e, Stands f neg m e (numVal n1 m1 e1 / numVal n2 m2 e2) ∧
    divVals env f (.fin n1 m1 e1) (.fin n2 m2 e2) = roundOut env f neg m e :=
  ⟨_, _, _, quotient_stands f n1 n2 e1 e2 h1 h2, rfl⟩

end

/-- The arithmetic of two numbers that are not zero (R332, R340, R345). -/
theorem arithRun_numbers {op : Arith} {env : FEnv} {f : Fmt} {a b : FBits} {p q : Rat} (ha : ratOf (classify f a) = some p)
    (hb : ratOf (classify f b) = some q) (hp : p ≠ 0) (hq : q ≠ 0) :
    (op.exact p q = 0 → op ∈ sums ∧ arithRun op env f a b = .done (packZero f (decide (env.mode = .minus))) []) ∧
    (op.exact p q ≠ 0 → ∃ neg m e, Stands f neg m e (op.exact p q) ∧ arithRun op env f a b = roundOut env f neg m e) := by
  obtain ⟨-, n1, m1, e1, hx, h1, -, rfl⟩ := (classify_number ha).resolve_left fun h => hp h.1
  obtain ⟨-, n2, m2, e2, hy, h2, -, rfl⟩ := (classify_number hb).resolve_left fun h => hq h.1
  have hrun : arithRun op env f a b = arithMatrix op env f (op.operands (.fin n1 m1 e1) (.fin n2 m2 e2)).1
      (op.operands (.fin n1 m1 e1) (.fin n2 m2 e2)).2 := by
    rw [arithRun_eq, nanTests_values (by rw [hx]; exact nofun) (by rw [hy]; exact nofun) (by rw [hx]; rfl) (by rw [hy]; rfl), hx, hy]
  rw [hrun]
  cases op with
  | add =>
    obtain ⟨hz, hn⟩ := addVals_fin (env := env) (f := f) n1 n2 m1 m2 e1 e2
    exact ⟨fun h => ⟨by decide, hz h⟩, hn⟩
  | sub =>
    obtain ⟨hz, hn⟩ := addVals_fin (env := env) (f := f) n1 (!n2) m1 m2 e1 e2
    rw [numVal_not, ← sub_eq_add_neg] at hz hn
    exact ⟨fun h => ⟨by decide, hz h⟩, hn⟩
  | subr =>
    obtain ⟨hz, hn⟩ := addVals_fin (env := env) (f := f) n2 (!n1) m2 m1 e2 e1
    rw [numVal_not, ← sub_eq_add_neg] at hz hn
    exact ⟨fun h => ⟨by decide, hz h⟩, hn⟩
  | mul => exact ⟨fun h => absurd h (mul_ne_zero hp hq), fun _ => mulVals_fin h1 h2⟩
  | div => exact ⟨fun h => absurd h (div_ne_zero hp hq), fun _ => divVals_fin h1 h2⟩
  | divr => exact ⟨fun h => absurd h (div_ne_zero hq hp), fun _ => divVals_fin h2 h1⟩


/-! ### Sums with a zero, the cells of the result matrices -/

/-- A number added to a zero of either side (R332). -/
theorem addVals_zero {env : FEnv} {f : Fmt} (g neg : Bool) {m : Nat} {e : Int} (hm : m ≠ 0) (hf : f.Fits m e) :
    ∃ d, Holds f d (numVal neg m e) ∧ addVals env f (.zero g) (.fin neg m e) = .done d [] ∧
      addVals env f (.fin neg m e) (.zero g) = .done d [] := by
  have hmax := fits_leadExp hm hf
  obtain ⟨hlt, hmin, -, -⟩ := hf
  exact ⟨_, packExact_holds neg hm hlt hmin hmax, rfl, rfl⟩

theorem arithRun_zero {op : Arith} {env : FEnv} {f : Fmt} {a b : FBits} {p q : Rat} (ha : ratOf (classify f a) = some p)
    (hb : ratOf (classify f b) = some q) (hop : op ∈ sums) (h0 : p = 0 ∨ q = 0) (hne : op.exact p q ≠ 0) :
    ∃ d, Holds f d (op.exact p q) ∧ arithRun op env f a b = .done d [] := by
  have hrun : ∀ x y, classify f a = x → classify f b = y → x ≠ .undef → y ≠ .undef → x.isNan = false → y.isNan = false →
      arithRun op env f a b = arithMatrix op env f (op.operands x y).1 (op.operands x y).2 := by
    rintro x y rfl rfl hx hy hx' hy'
    rw [arithRun_eq, nanTests_values hx hy hx' hy']
  simp only [sums, List.mem_cons, List.not_mem_nil, or_false] at hop
  obtain ⟨rfl, g, hx⟩ | ⟨hp, n1, m1, e1, hx, h1, hf1, rfl⟩ := classify_number ha <;>
    obtain ⟨rfl, g', hy⟩ | ⟨hq, n2, m2, e2, hy, h2, hf2, rfl⟩ := classify_number hb
  · exact absurd (by rcases hop with rfl | rfl | rfl <;> simp [Arith.exact]) hne
  · rw [hrun _ _ hx hy nofun nofun rfl rfl]
    obtain rfl | rfl | rfl := hop
    · obtain ⟨d, hd, hout, -⟩ := addVals_zero (env := env) g n2 h2 hf2
      exact ⟨d, by simpa [Arith.exact] using hd, hout⟩
    · obtain ⟨d, hd, hout, -⟩ := addVals_zero (env := env) g (!n2) h2 hf2
      exact ⟨d, by simpa [Arith.exact, numVal_not] using hd, hout⟩
    · obtain ⟨d, hd, -, hout⟩ := addVals_zero (env := env) (!g) n2 h2 hf2
      exact ⟨d, by simpa [Arith.exact] using hd, hout⟩
  · rw [hrun _ _ hx hy nofun nofun rfl rfl]
    obtain rfl | rfl | rfl := hop
    · obtain ⟨d, hd, -, hout⟩ := addVals_zero (env := env) g' n1 h1 hf1
      exact ⟨d, by simpa [Arith.exact] using hd, hout⟩
    · obtain ⟨d, hd, -, hout⟩ := addVals_zero (env := env) (!g') n1 h1 hf1
      exact ⟨d, by simpa [Arith.exact] using hd, hout⟩
    · obtain ⟨d, hd, hout, -⟩ := addVals_zero (env := env) g' (!n1) h1 hf1
      exact ⟨d, by simpa [Arith.exact, numVal_not] using hd, hout⟩
  · exact absurd h0 (not_or.mpr ⟨hp, hq⟩)

/-- The datum of a zero or an infinity. -/
def packValue (f : Fmt) : FVal → FBits
  | .zero g => packZero f g
  | .inf g => packInf f g
  | .fin .. => 0
  | .nan .. => 0
  | .undef => 0

/-- The value is a zero or an infinity. -/
def isZeroOrInf : FVal → Bool
  | .zero _ => true
  | .inf _ => true
  | .fin .. => false
  | .nan .. => false
  | .undef => false

/-- A cell of a result matrix is a zero or an infinity, and its operands are neither NaN nor undefined. -/
def PlainCell (x y v : FVal) : Prop :=
  isZeroOrInf v = true ∧ x ≠ .undef ∧ y ≠ .undef ∧ x.isNan = false ∧ y.isNan = false

theorem sumCell_spec {env : FEnv} {f : Fmt} {x y v : FVal} (h : sumCell env.mode x y = some v) :
    addVals env f x y = .done (packValue f v) [] ∧ PlainCell x y v := by
  cases x <;> cases y <;> simp only [sumCell, Option.some.injEq, reduceCtorEq] at h
  case inf.inf p q =>
    split_ifs at h with hpq
    cases h
    exact ⟨if_pos hpq, rfl, nofun, nofun, rfl, rfl⟩
  all_goals
    subst h
    exact ⟨rfl, rfl, nofun, nofun, rfl, rfl⟩

theorem productCell_spec {env : FEnv} {f : Fmt} {x y v : FVal} (h : productCell x y = some v) :
    mulVals env f x y = .done (packValue f v) [] ∧ PlainCell x y v := by
  cases x <;> cases y <;> simp only [productCell, Option.some.injEq, reduceCtorEq] at h <;> subst h
  all_goals exact ⟨rfl, rfl, nofun, nofun, rfl, rfl⟩

theorem quotientCell_spec {env : FEnv} {f : Fmt} {x y v : FVal} (h : quotientCell x y = some v) :
    divVals env f x y = .done (packValue f v) [] ∧ PlainCell x y v := by
  cases x <;> cases y <;> simp only [quotientCell, Option.some.injEq, reduceCtorEq] at h <;> subst h
  all_goals exact ⟨rfl, rfl, nofun, nofun, rfl, rfl⟩

theorem packValue_spec (f : Fmt) {v : FVal} (h : isZeroOrInf v = true) :
    classify f (packValue f v) = v ∧ cleanBits f (packValue f v) = packValue f v := by
  cases v with
  | zero g => exact packZero_spec f g
  | inf g => exact packInf_spec f g
  | _ => cases h

theorem negate_plain {x : FVal} : (x.negate ≠ .undef ↔ x ≠ .undef) ∧ x.negate.isNan = x.isNan := by
  cases x <;> simp [FVal.negate, FVal.isNan]

/-- A valid cell of the operation's result matrix (R332, R340, R345). -/
theorem arithRun_cell {op : Arith} {env : FEnv} {f : Fmt} {a b : FBits} {v : FVal}
    (h : op.cell env.mode (classify f a) (classify f b) = some v) :
    ∃ d, arithRun op env f a b = .done d [] ∧ d = cleanBits f d ∧ classify f d = v := by
  have hrun : ∀ {k}, k = .done (packValue f v) [] → PlainCell (classify f a) (classify f b) v → nanTests env f a b k = k →
      ∃ d, nanTests env f a b k = .done d [] ∧ d = cleanBits f d ∧ classify f d = v := by
    rintro k hk ⟨hv, -⟩ hn
    obtain ⟨hc, hclean⟩ := packValue_spec f hv
    exact ⟨_, hn.trans hk, hclean.symm, hc⟩
  have hplain : ∀ {x y}, PlainCell x y v → PlainCell y x v := fun ⟨hv, hx, hy, hx', hy'⟩ => ⟨hv, hy, hx, hy', hx'⟩
  have hnan : ∀ {k}, PlainCell (classify f a) (classify f b) v → nanTests env f a b k = k :=
    fun ⟨_, hx, hy, hx', hy'⟩ => nanTests_values hx hy hx' hy'
  have hneg : ∀ {x y}, PlainCell x y.negate v → PlainCell x y v := fun ⟨hv, hx, hy, hx', hy'⟩ =>
    ⟨hv, hx, negate_plain.1.mp hy, hx', negate_plain.2 ▸ hy'⟩
  rw [arithRun_eq]
  cases op with
  | add =>
    obtain ⟨hk, hc⟩ := sumCell_spec (f := f) h
    exact hrun hk hc (hnan hc)
  | sub =>
    obtain ⟨hk, hc⟩ := sumCell_spec (f := f) h
    exact hrun hk (hneg hc) (hnan (hneg hc))
  | subr =>
    obtain ⟨hk, hc⟩ := sumCell_spec (f := f) h
    exact hrun hk (hplain (hneg hc)) (hnan (hplain (hneg hc)))
  | mul =>
    obtain ⟨hk, hc⟩ := productCell_spec (env := env) (f := f) h
    exact hrun hk hc (hnan hc)
  | div =>
    obtain ⟨hk, hc⟩ := quotientCell_spec (env := env) (f := f) h
    exact hrun hk hc (hnan hc)
  | divr =>
    obtain ⟨hk, hc⟩ := quotientCell_spec (env := env) (f := f) h
    exact hrun hk (hplain hc) (hnan (hplain hc))

/-- An invalid cell of the operation's result matrix (R332, R340, R345). -/
theorem arithMatrix_invalid {op : Arith} {env : FEnv} {f : Fmt} {x y : FVal} (h : op.invalid x y) :
    arithMatrix op env f (op.operands x y).1 (op.operands x y).2 = invalidOut env f ∧ x.isNan = false ∧ y.isNan = false := by
  have hneg : ∀ {y : FVal} {g}, y.negate = .inf g → y.isNan = false := fun {y g} hy => by
    rw [← negate_plain.2, hy]
    rfl
  cases op with
  | add =>
    obtain ⟨g, hg⟩ := h
    obtain ⟨rfl, rfl⟩ : x = .inf g ∧ y = .inf (!g) := Prod.mk.inj hg
    exact ⟨if_neg (by cases g <;> decide), rfl, rfl⟩
  | sub =>
    obtain ⟨g, hg⟩ := h
    obtain ⟨rfl, hy⟩ : x = .inf g ∧ y.negate = .inf (!g) := Prod.mk.inj hg
    refine ⟨?_, rfl, hneg hy⟩
    show addVals env f (.inf g) y.negate = _
    rw [hy]
    exact if_neg (by cases g <;> decide)
  | subr =>
    obtain ⟨g, hg⟩ := h
    obtain ⟨rfl, hx⟩ : y = .inf g ∧ x.negate = .inf (!g) := Prod.mk.inj hg
    refine ⟨?_, hneg hx, rfl⟩
    show addVals env f (.inf g) x.negate = _
    rw [hx]
    exact if_neg (by cases g <;> decide)
  | mul =>
    obtain ⟨g, h, hg | hg⟩ := h <;> obtain ⟨rfl, rfl⟩ := Prod.mk.inj hg <;> exact ⟨rfl, rfl, rfl⟩
  | div =>
    obtain ⟨g, h, hg | hg⟩ := h <;> obtain ⟨rfl, rfl⟩ := Prod.mk.inj hg <;> exact ⟨rfl, rfl, rfl⟩
  | divr =>
    obtain ⟨g, h, hg | hg⟩ := h <;> obtain ⟨rfl, rfl⟩ := Prod.mk.inj hg <;> exact ⟨rfl, rfl, rfl⟩

theorem arithRun_invalid {op : Arith} {env : FEnv} {f : Fmt} {a b : FBits} (ha : classify f a ≠ .undef) (hb : classify f b ≠ .undef)
    (h : (classify f a).isSignaling = true ∨ (classify f b).isSignaling = true ∨ op.invalid (classify f a) (classify f b)) :
    arithRun op env f a b = invalidOut env f := by
  rw [arithRun_eq]
  obtain h | h | h := h
  · exact nanTests_signaling ha hb (.inl h)
  · exact nanTests_signaling ha hb (.inr h)
  · obtain ⟨hm, ha', hb'⟩ := arithMatrix_invalid (env := env) (f := f) h
    rw [nanTests_values ha hb ha' hb', hm]

/-- A number divided by zero (R324, R345). -/
theorem arithRun_divZero {op : Arith} {env : FEnv} {f : Fmt} {a b : FBits} {neg zneg : Bool} {m : Nat} {k : Int}
    (hop : op = .div ∨ op = .divr) (h : op.operands (classify f a) (classify f b) = (.fin neg m k, .zero zneg)) :
    arithRun op env f a b = divZeroOut env f (neg ^^ zneg) := by
  rw [arithRun_eq, h]
  obtain rfl | rfl := hop <;> obtain ⟨hx, hy⟩ := Prod.mk.inj h <;>
    exact nanTests_values (by rw [‹classify f a = _›]; exact nofun) (by rw [‹classify f b = _›]; exact nofun)
      (by rw [‹classify f a = _›]; rfl) (by rw [‹classify f b = _›]; rfl)


/-! ### The ends of a floating-point instruction (R323 to R328) -/

section

variable {f : Fmt} {r : Reg} {out : FOut}

theorem done_of_finishFloat {d : FBits} {occ : List ExcCode} (h : exec i s = finishFloat i f r out s) (ho : out = .done d occ) :
    Done i s (writeDatum f r d (s.setAllOccurred occ)) := by
  subst ho
  exact h

theorem delivered_of_finishFloat {P : FBits → Prop} (h : exec i s = finishFloat i f r out s)
    (ho : ∃ d, out = .done d [] ∧ d = cleanBits f d ∧ P d) : Delivered i f r s s P := by
  obtain ⟨d, ho, hclean, hP⟩ := ho
  exact ⟨d, done_of_finishFloat h ho, hclean, hP⟩

theorem State.pswBit_setOccurred (c : ExcCode) {j : Nat} (hj : j < 64) :
    (s.setOccurred c).pswBit j = if j = c.occurredBit then true else s.pswBit j :=
  State.pswBit_setPswBit _ _ _ _ (ExcCode.occurredBit_lt c) hj

theorem State.excEnabled_setOccurred (c c' : ExcCode) : (s.setOccurred c).excEnabled c' = s.excEnabled c' := by
  have hne : c'.enableBit ≠ c.occurredBit := by
    unfold ExcCode.enableBit ExcCode.occurredBit
    omega
  rw [State.excEnabled, State.pswBit_setOccurred c c'.enableBit_lt, if_neg hne, State.excEnabled]

theorem State.setOccurred_idem (c : ExcCode) : (s.setOccurred c).setOccurred c = s.setOccurred c := by
  have h : ∀ w : Word, setWordBit (setWordBit w c.occurredBit true) c.occurredBit true = setWordBit w c.occurredBit true := fun w => by
    simp only [setWordBit, if_true, BitVec.or_assoc, BitVec.or_self]
  exact congrArg (fun w => { s with psw := w }) (h s.psw)

theorem State.setOccurred_comm (c c' : ExcCode) : (s.setOccurred c).setOccurred c' = (s.setOccurred c').setOccurred c := by
  have h : ∀ w : Word, setWordBit (setWordBit w c.occurredBit true) c'.occurredBit true =
      setWordBit (setWordBit w c'.occurredBit true) c.occurredBit true := fun w => by
    simp only [setWordBit, if_true, BitVec.or_assoc]
    rw [BitVec.or_comm (bitMask _)]
  exact congrArg (fun w => { s with psw := w }) (h s.psw)

/-- The exception that is raised is recorded then, whether or not it was before. -/
theorem raiseAt_setOccurred {bytes : List Byte} {a n : Addr} (e : Exc) :
    raiseAt bytes a n e (s.setOccurred e.code) = raiseAt bytes a n e s := by
  unfold raiseAt
  rw [State.excEnabled_setOccurred, State.setOccurred_idem]

theorem raise_setOccurred (e : Exc) : raise i e (s.setOccurred e.code) = raise i e s := raiseAt_setOccurred e

theorem State.setAllOccurred_frame (l : List ExcCode) :
    (s.setAllOccurred l).params = s.params ∧ (s.setAllOccurred l).pc = s.pc := by
  induction l generalizing s with
  | nil => exact ⟨rfl, rfl⟩
  | cons c l ih => exact ih (s := s.setOccurred c)

theorem raise_of_finishFloat {c : ExcCode} {d : FBits} {occ : List ExcCode} (h : exec i s = finishFloat i f r out s)
    (ho : out = .taken c d occ) :
    exec i s = raise i { code := c, high := FBits.hi d, low := FBits.lo d } (s.setAllOccurred occ) := by
  obtain ⟨hparams, hpc⟩ := s.setAllOccurred_frame occ
  subst ho
  rw [h, raise, State.nextPc, hparams, hpc]
  rfl

/-- An invalid operation (R323, D32). -/
theorem invalid_of_finishFloat (h : exec i s = finishFloat i f r (invalidOut s.fenv f) s) : Invalid i f r s := by
  refine ⟨fun hd => ?_, fun he => ?_⟩
  · rw [← packNan_canonical]
    exact done_of_finishFloat h (if_neg (by rw [show s.fenv.inv = s.excEnabled .fpInvalid from rfl, hd]; decide))
  · exact (raise_of_finishFloat h (if_pos he)).trans (raise_setOccurred _)

end

/-! ### The instructions by their operation -/

theorem floatOps_exec : ∀ e ∈ floatOps, ∀ o s, exec (e.1 o) s = floatOp (e.1 o) e.2.1 (arithRun e.2.2) o s := by
  unfold floatOps
  simp only [List.forall_mem_cons, List.not_mem_nil, false_imp_iff, implies_true, and_true]
  and_intros <;> exact fun _ _ => rfl

theorem floatPairOps_exec : ∀ e ∈ floatPairOps, ∀ x y z s, exec (e.1 x y z) s = floatPairOp (e.1 x y z) (arithRun e.2) x y z s := by
  unfold floatPairOps
  simp only [List.forall_mem_cons, List.not_mem_nil, false_imp_iff, implies_true, and_true]
  and_intros <;> exact fun _ _ _ _ => rfl

theorem pairTarget_eq_true {r : Reg} (h : r.toNat < 14) : pairTarget r = true := by
  rw [← Bool.not_eq_false, pairTarget_eq_false]
  omega

theorem pairSource_eq_true {r : Reg} (h : r ≠ 15) : pairSource r = true := decide_eq_true h

theorem floatPairOp_legal {op : FEnv → Fmt → FBits → FBits → FOut} {x y z : Reg} (hx : x.toNat < 14) (hy : y ≠ 15) (hz : z ≠ 15) :
    floatPairOp i op x y z s = finishFloat i .extended x (op s.fenv .extended (s.pair y) (s.pair z)) s :=
  if_pos (by rw [pairTarget_eq_true hx, pairSource_eq_true hy, pairSource_eq_true hz]; rfl)

theorem exec_of_computes {op : Arith} {f : Fmt} {r : Reg} {a b : FBits} (h : Computes s i op f r a b) :
    exec i s = finishFloat i f r (arithRun op s.fenv f a b) s := by
  obtain ⟨e, he, o, v, rfl, rfl, rfl, rfl, hv, rfl, rfl⟩ | ⟨e, he, x, y, z, rfl, rfl, rfl, rfl, hx, hy, hz, rfl, rfl⟩ := h
  · exact (floatOps_exec e he o s).trans (withLast_some hv)
  · exact (floatPairOps_exec e he r y z s).trans (floatPairOp_legal hx hy hz)

theorem convertOp_legal {n : Nat} {dst : Fmt} {op : FEnv → Word → FOut} {o : GOp} {b : Word} (hv : s.lastVal .zero n o = some b)
    (hx : dst = .extended → o.x.toNat < 14) : convertOp i n dst op o s = finishFloat i dst o.x (op s.fenv b) s := by
  refine (if_neg fun ⟨hd, hp⟩ => ?_).trans (withLast_some hv)
  exact absurd (hx hd) (not_lt.mpr (pairTarget_eq_false.mp hp))

theorem floatToFloat_legal {src dst : Fmt} {o : GOp} {b : Word} (hv : s.lastVal .zero src.bytes o = some b)
    (hx : dst = .extended → o.x.toNat < 14) :
    floatToFloat i src dst o s = finishFloat i dst o.x (fconvert s.fenv src dst (wordDatum src b)) s :=
  convertOp_legal (op := fun env b => fconvert env src dst (wordDatum src b)) hv hx

theorem intToFloat_legal {dst : Fmt} {o : GOp} {b : Word} (hv : s.lastVal .zero 8 o = some b) (hx : dst = .extended → o.x.toNat < 14) :
    intToFloat i dst o s = finishFloat i dst o.x (ofInteger s.fenv dst b.toInt) s :=
  convertOp_legal (op := fun env b => ofInteger env dst b.toInt) hv hx

theorem finpOp_legal {f : Fmt} {o : GOp} {b : Word} (hv : s.lastVal .zero f.bytes o = some b) (hx : f = .extended → o.x.toNat < 14) :
    finpOp i f o s = finishFloat i f o.x (finp s.fenv f (wordDatum f b)) s :=
  convertOp_legal (op := fun env b => finp env f (wordDatum f b)) hv hx

theorem exec_of_converts {src f : Fmt} {b : FBits} {r : Reg} (h : Converts s i src b f r) :
    exec i s = finishFloat i f r (fconvert s.fenv src f b) s := by
  obtain ⟨o, v, hv, rfl, rfl, rfl, ⟨rfl, rfl, hx⟩ | ⟨rfl, rfl⟩⟩ | ⟨o, v, hv, rfl, rfl, rfl, ⟨rfl, rfl, hx⟩ | ⟨rfl, rfl⟩⟩ |
    ⟨y, z, hz, rfl, rfl, ⟨rfl, rfl⟩ | ⟨rfl, rfl⟩⟩ := h
  · exact floatToFloat_legal (src := .double) (dst := .extended) hv fun _ => hx
  · exact floatToFloat_legal (src := .double) (dst := .single) hv nofun
  · exact floatToFloat_legal (src := .single) (dst := .extended) hv fun _ => hx
  · exact floatToFloat_legal (src := .single) (dst := .double) hv nofun
  · exact if_pos (pairSource_eq_true hz)
  · exact if_pos (pairSource_eq_true hz)

theorem exec_of_fromInteger {n : Int} {f : Fmt} {r : Reg} (h : FromInteger s i n f r) :
    exec i s = finishFloat i f r (ofInteger s.fenv f n) s := by
  obtain ⟨o, v, hv, rfl, rfl, ⟨rfl, rfl⟩ | ⟨rfl, rfl⟩⟩ | ⟨y, z, rfl, rfl, hx, rfl⟩ := h
  · exact intToFloat_legal (dst := .double) hv nofun
  · exact intToFloat_legal (dst := .single) hv nofun
  · exact if_pos (pairTarget_eq_true hx)

theorem exec_of_takesPart {b : FBits} {f : Fmt} {r : Reg} (h : TakesPart s i b f r) :
    exec i s = finishFloat i f r (finp s.fenv f b) s := by
  obtain ⟨o, v, hv, rfl, rfl, ⟨rfl, rfl⟩ | ⟨rfl, rfl⟩⟩ | ⟨y, z, rfl, rfl, hx, hz, rfl⟩ := h
  · exact finpOp_legal (f := .single) hv nofun
  · exact finpOp_legal (f := .double) hv nofun
  · exact if_pos (by rw [pairTarget_eq_true hx, pairSource_eq_true hz]; rfl)

theorem exec_of_divides {f : Fmt} {x z : Reg} {v w : FBits} (h : Divides s i f x z v w) :
    exec i s = finishRem i f x z (frem s.fenv f v w) s ∧ remOverlap f x z = false := by
  obtain ⟨e, he, y, rfl, rfl, hxz, hext, hword⟩ := h
  simp only [remainders, List.mem_cons, List.not_mem_nil, or_false] at he
  obtain rfl | rfl | rfl := he
  · obtain ⟨rfl, rfl⟩ := hword nofun
    exact ⟨rfl, by simp [remOverlap, hxz]⟩
  · obtain ⟨rfl, rfl⟩ := hword nofun
    exact ⟨rfl, by simp [remOverlap, hxz]⟩
  · obtain ⟨hz, hy, hxz', rfl, rfl⟩ := hext rfl
    exact ⟨if_pos (by rw [pairTarget_eq_true hz, pairSource_eq_true hy]; rfl), by simp only [remOverlap, hxz, hxz', decide_false, Bool.and_false, Bool.or_false]⟩

/-- The ends of FREM, its registers apart. -/
theorem finishRem_apart {f : Fmt} {x z : Reg} (h : remOverlap f x z = false) :
    finishRem i f x z .nothing s = advance i s ∧
    (∀ out, finishRem i f x z (.dest out) s = finishFloat i f z out s) ∧
    (∀ q r, finishRem i f x z (.both q r) s = advance i (writeDatum f z r (s.setReg x q))) := by
  unfold finishRem
  simp only [h, Bool.false_eq_true, if_false]
  exact ⟨trivial, fun _ => rfl, fun _ _ => trivial⟩

theorem writeDatum_pc (f : Fmt) (r : Reg) (d : FBits) : (writeDatum f r d s).pc = s.pc := by
  cases f <;> rfl


/-! ### Conversions (R481 to R497) -/

theorem fconvert_number {env : FEnv} {src f : Fmt} {b : FBits} {p : Rat} (h : ratOf (classify src b) = some p) (hp : p ≠ 0) :
    ∃ neg m e, Stands f neg m e p ∧ fconvert env src f b = roundOut env f neg m e := by
  obtain ⟨-, neg, m, e, hc, hm, -, rfl⟩ := (classify_number h).resolve_left fun h => hp h.1
  exact ⟨neg, m, e, Stands.self neg hm e, by rw [fconvert, hc]⟩

theorem ofInteger_number {env : FEnv} {f : Fmt} {n : Int} (hn : n ≠ 0) :
    ∃ neg m e, Stands f neg m e n ∧ ofInteger env f n = roundOut env f neg m e := by
  have hstands := Stands.self (f := f) (decide (n < 0)) (Int.natAbs_ne_zero.mpr hn) 0
  rw [numVal_natAbs, zpow_zero, mul_one] at hstands
  exact ⟨_, _, _, hstands, if_neg hn⟩

theorem normal_ne_zero {f : Fmt} {p : Rat} (h : Normal f p) : p ≠ 0 := by
  rintro rfl
  obtain ⟨u, -, -, hle, -⟩ := normal_binade h
  rw [abs_zero] at hle
  exact absurd hle (not_le.mpr (two_zpow_pos _))

/-- The fraction of a quiet NaN in another format (R483). -/
theorem convertNan_kept (src f : Fmt) (frac : Nat) :
    (if src.fracBits ≤ f.fracBits then frac * 2 ^ (f.fracBits - src.fracBits) else frac / 2 ^ (src.fracBits - f.fracBits)) =
      frac * 2 ^ f.fracBits / 2 ^ src.fracBits := by
  split_ifs with h
  · obtain ⟨d, hd⟩ := Nat.exists_eq_add_of_le h
    rw [hd, Nat.add_sub_cancel_left, pow_add, Nat.mul_comm (2 ^ src.fracBits), ← Nat.mul_assoc,
      Nat.mul_div_cancel _ (Nat.two_pow_pos _)]
  · obtain ⟨d, hd⟩ := Nat.exists_eq_add_of_lt (not_le.mp h)
    rw [hd, show f.fracBits + d + 1 - f.fracBits = d + 1 by omega, show f.fracBits + d + 1 = d + 1 + f.fracBits by omega, pow_add _ (d + 1),
      Nat.mul_div_mul_right _ _ (Nat.two_pow_pos _)]

theorem quiet_frac_lt {src : Fmt} {b : FBits} {g : Bool} {frac : Nat} (h : classify src b = .nan true g frac) :
    frac < 2 ^ (src.fracBits - 1) := by
  have hof : ∀ {f : Fmt} {neg : Bool} {k : Nat}, nanOf f neg k = .nan true g frac → frac < 2 ^ (f.fracBits - 1) := fun h => by
    unfold nanOf at h
    injection h with hq _ hk
    rw [← hk]
    exact of_decide_eq_true hq
  obtain ⟨neg, biased, sig, -, -, hc⟩ := exists_fields src b
  rw [hc] at h
  cases src <;> simp only [classifyFields, classifyHidden, classifyExtended] at h <;> split_ifs at h <;> exact hof h

/-- The fields of a quiet NaN. -/
theorem classify_quiet (f : Fmt) (g : Bool) {k : Nat} (hk : k ≠ 0) (hlt : k < 2 ^ (f.fracBits - 1)) :
    classifyFields f g f.maxBiased (if f = .extended then 2 ^ 63 + k else k) = .nan true g k := by
  cases f with
  | single =>
    have hlt : k < 2 ^ (Fmt.single.fracBits - 1) := hlt
    simp [classifyFields, classifyHidden, nanOf, hk, hlt]
  | double =>
    have hlt : k < 2 ^ (Fmt.double.fracBits - 1) := hlt
    simp [classifyFields, classifyHidden, nanOf, hk, hlt]
  | extended =>
    have hlt' : k < 2 ^ 62 := hlt
    have hmod : (2 ^ 63 + k) % 2 ^ 63 = k := by omega
    have hne : 2 ^ 63 + k ≠ 0 := by omega
    simp only [classifyFields, classifyExtended, Fmt.maxBiased, if_true, hmod, hne, if_false, nanOf]
    rw [decide_eq_true hlt]

theorem packFields_extended_bit63 (neg : Bool) (biased : Nat) {sig : Nat} (h : 2 ^ 63 ≤ sig) (h' : sig < 2 ^ 64) :
    (packFields .extended neg biased sig).getLsbD 63 = true := by
  simp only [packFields]
  rw [getLsbD_ofNat_eq_decide _ _ (by decide), decide_eq_true_eq]
  generalize (if neg then 1 else 0 : Nat) = n
  omega

/-- What a quiet NaN becomes in another format (R483, D39). -/
theorem convertNan_spec {src f : Fmt} {b : FBits} {g : Bool} {frac : Nat} (h : classify src b = .nan true g frac) :
    let kept := frac * 2 ^ f.fracBits / 2 ^ src.fracBits
    let d := convertNan src f g frac
    d = cleanBits f d ∧ (f = .extended → d.getLsbD 63 = true) ∧ (kept ≠ 0 → classify f d = .nan true g kept) ∧
    (kept = 0 → ∃ k, classify f (canonicalNan f) = .nan true false k ∧ classify f d = .nan true g k) := by
  intro kept d
  have hfrac := quiet_frac_lt h
  have hlt : kept < 2 ^ (f.fracBits - 1) := by
    rw [Nat.div_lt_iff_lt_mul (Nat.two_pow_pos _)]
    calc frac * 2 ^ f.fracBits < 2 ^ (src.fracBits - 1) * 2 ^ f.fracBits := Nat.mul_lt_mul_of_pos_right hfrac (Nat.two_pow_pos _)
      _ = 2 ^ (f.fracBits - 1) * 2 ^ src.fracBits := by
        rw [← pow_add, ← pow_add]
        congr 1
        cases src <;> cases f <;> rfl
  have hd : d = if kept = 0 then packNan f g else packFields f g f.maxBiased (if f = .extended then 2 ^ 63 + kept else kept) := by
    show convertNan src f g frac = _
    unfold convertNan
    simp only [convertNan_kept]
    cases f <;> rfl
  by_cases h0 : kept = 0
  · obtain ⟨hclean, k, hk, hcanon⟩ := packNan_spec f g
    rw [hd, if_pos h0]
    refine ⟨hclean.symm, ?_, fun hne => absurd h0 hne, fun _ => ⟨k, hcanon, hk⟩⟩
    rintro rfl
    exact packFields_extended_bit63 g _ (by decide) (by decide)
  · have hb : f.maxBiased < 2 ^ f.expBits := by cases f <;> decide
    have hs : (if f = .extended then 2 ^ 63 + kept else kept) < 2 ^ f.sigBits := by
      cases f
      · exact hlt.trans (by decide)
      · exact hlt.trans (by decide)
      · have : kept < 2 ^ 62 := hlt
        show 2 ^ 63 + kept < 2 ^ 64
        omega
    rw [hd, if_neg h0]
    refine ⟨(cleanBits_packFields f g hb hs).symm, ?_, fun _ => ?_, fun h => absurd h h0⟩
    · rintro rfl
      have : kept < 2 ^ 62 := hlt
      exact packFields_extended_bit63 g _ (Nat.le_add_right _ _) (by simp only [if_true]; omega)
    · rw [classify_packFields f g hb hs, classify_quiet f g h0 hlt]

/-! ### FINP (R498) -/

/-- What FINP gives for a number. -/
theorem finp_number {env : FEnv} {f : Fmt} {b : FBits} {p : Rat} (h : ratOf (classify f b) = some p) :
    ∃ d, Holds f d (roundRat env.mode p) ∧
      (∀ g, (classify f b = .zero g ∨ ∃ m e, classify f b = .fin g m e) → roundRat env.mode p = 0 → classify f d = .zero g) ∧
      finp env f b = inexactOut env d (decide ((roundRat env.mode p : Rat) ≠ p))
        (if (roundRat env.mode p : Rat) = p then [] else [.fpInexact]) := by
  obtain ⟨rfl, g, hc⟩ | ⟨hp, neg, m, e, hc, hm, hf, rfl⟩ := classify_number h
  · obtain ⟨hz, hclean⟩ := packZero_spec f g
    have h0 : roundRat env.mode 0 = 0 := by simpa using roundRat_intCast env.mode 0
    refine ⟨packZero f g, ⟨hclean.symm, by rw [hz, h0]; rfl⟩, fun g' hg _ => ?_, ?_⟩
    · rw [hc] at hg
      obtain hg | ⟨m, e, hg⟩ := hg
      · cases hg
        exact hz
      · cases hg
    · rw [finp, hc, h0]
      simp [inexactOut]
  · have hsign : ∀ {g} {P : Prop}, (classify f b = .zero g ∨ ∃ m e, classify f b = .fin g m e) → (g = neg → P) → P := fun hg hP => by
      rw [hc] at hg
      obtain hg | ⟨m, e, hg⟩ := hg
      · cases hg
      · cases hg
        exact hP rfl
    obtain he | he := le_or_gt 0 e
    · have hself : (roundRat env.mode (numVal neg m e) : Rat) = numVal neg m e := by
        have := numVal_div_finer neg m he
        rw [zpow_zero, div_one] at this
        rw [roundRat_eq_self_iff]
        exact ⟨_, this⟩
      have hmax := fits_leadExp hm hf
      obtain ⟨hlt, hmin, -, -⟩ := hf
      refine ⟨packExact f neg m e, ?_, fun g _ h0 => ?_, ?_⟩
      · rw [hself]
        exact packExact_holds neg hm hlt hmin hmax
      · rw [h0, Int.cast_zero] at hself
        exact absurd hself.symm hp
      · rw [finp, hc]
        simp [if_pos he, hself, inexactOut]
    · have hto : ∀ c, roundTo env.mode c 0 = roundRat env.mode c := fun c => by rw [roundTo, zpow_zero, div_one, mul_one]
      have hval := numVal_roundAt env.mode neg m e 0
      have hlost := roundAt_lost env.mode neg m e 0
      rw [hto] at hval hlost
      have hle : (roundAt env.mode neg m e 0).1 ≤ 2 ^ f.fracBits := by
        have hc : |numVal neg m e| ≤ 2 ^ ((0 : Int) + f.fracBits) := by
          obtain ⟨-, hhigh⟩ := leadExp_binade neg hm e
          refine hhigh.le.trans (two_zpow_le.mpr ?_)
          have := (Nat.log2_lt hm).mpr hf.1
          rw [f.prec_eq] at this
          unfold leadExp
          omega
        have hr := abs_roundTo_le env.mode hc
        rw [hto, ← hval, abs_numVal, zpow_zero, mul_one, zero_add, zpow_natCast] at hr
        exact_mod_cast hr
      refine ⟨packExact f neg (roundAt env.mode neg m e 0).1 0, ?_, fun g hg h0 => hsign hg fun hg => ?_, ?_⟩
      · rw [← hval]
        by_cases h0 : (roundAt env.mode neg m e 0).1 = 0
        · obtain ⟨hz, hclean⟩ := packZero_spec f neg
          rw [h0, packExact, if_pos rfl]
          exact ⟨hclean.symm, by rw [hz]; simp [ratOf, numVal]⟩
        · refine packExact_holds neg h0 (hle.trans_lt (Nat.pow_lt_pow_right (by decide) (by rw [f.prec_eq]; omega))) ?_ ?_
          · cases f <;> decide
          · have hlog := (Nat.log2_lt h0).mpr (hle.trans_lt (Nat.pow_lt_pow_right (by decide) (Nat.lt_succ_self f.fracBits)))
            have : (f.fracBits : Int) ≤ f.emax := by cases f <;> decide
            unfold leadExp
            omega
      · rw [hg]
        rw [h0, Int.cast_zero, numVal_zero_iff] at hval
        rw [hval, packExact, if_pos rfl]
        exact (packZero_spec f neg).1
      · rw [finp, hc]
        simp only [if_neg (not_le.mpr he)]
        cases hl : (roundAt env.mode neg m e 0).2 with
        | false => simp [hlost.mp hl]
        | true =>
          have hne : (roundRat env.mode (numVal neg m e) : Rat) ≠ numVal neg m e := fun he =>
            Bool.noConfusion (hl.symm.trans (hlost.mpr he))
          simp [hne]

end Sys2Proof.Machine

/-! SUPPORT. Exact floating-point results and the floating-point exceptions. -/

namespace Sys2Proof.Machine

open Sys2Proof Sys2Proof.Stmt

variable {s t : State} {i : Instr}


/-! ### FREM (R350) -/

/-- The nearest integer, and of two the even one. -/
theorem roundRat_nearest_eq {x : Rat} {n : Int} (h : |x - n| < 1 / 2 ∨ (|x - n| = 1 / 2 ∧ n % 2 = 0)) :
    roundRat .nearest x = n := by
  have hle : |x - n| ≤ 1 / 2 := h.elim le_of_lt fun h => h.1.le
  obtain ⟨hlow, hhigh⟩ := abs_le.mp hle
  unfold roundRat
  obtain hx | hx := le_or_gt (n : Rat) x
  · have hfloor : ⌊x⌋ = n := Int.floor_eq_iff.mpr ⟨hx, by linarith⟩
    rw [abs_of_nonneg (by linarith)] at h
    simp only [hfloor]
    obtain h | ⟨h, heven⟩ := h
    · rw [if_pos h]
    · rw [if_neg (by linarith), if_neg (by linarith), if_pos heven]
  · have hfloor : ⌊x⌋ = n - 1 := Int.floor_eq_iff.mpr ⟨by push_cast; linarith, by push_cast; linarith⟩
    rw [abs_of_neg (by linarith)] at h
    simp only [hfloor]
    push_cast
    obtain h | ⟨h, heven⟩ := h
    · rw [if_neg (by linarith), if_pos (by linarith)]
      omega
    · rw [if_neg (by linarith), if_neg (by linarith), if_neg (by omega)]
      omega

/-- The quotient is within half of the dividend, and even where it is just half off. -/
theorem nearestQuot_spec (a : Nat) {b : Nat} (hb : 0 < b) :
    2 * |(a : Int) - nearestQuot a b * b| < b ∨ (2 * |(a : Int) - nearestQuot a b * b| = b ∧ nearestQuot a b % 2 = 0) := by
  have hdiv : (a : Int) = (a / b : Nat) * b + (a % b : Nat) := by
    have := Nat.div_add_mod a b
    rw [Nat.mul_comm] at this
    exact_mod_cast this.symm
  have hlt := Nat.mod_lt a hb
  unfold nearestQuot
  split_ifs with h
  · have hsub : (a : Int) - (a / b + 1 : Nat) * b = (a % b : Nat) - b := by
      rw [hdiv]
      push_cast
      ring
    rw [hsub, abs_of_neg (by omega)]
    omega
  · have hsub : (a : Int) - (a / b : Nat) * b = (a % b : Nat) := by
      rw [hdiv]
      ring
    rw [hsub, Nat.abs_cast]
    omega

/-- A signed magnitude as a number. -/
theorem signedNat_cast (neg : Bool) (m : Nat) : (signedNat neg m : Rat) = (if neg then -1 else 1) * m := by
  cases neg <;> simp [signedNat]

/-- The quotient of two numbers in the same unit, rounded to nearest even. -/
theorem roundRat_nearestQuot (s1 s2 : Bool) (a : Nat) {b : Nat} (hb : 0 < b) :
    roundRat .nearest (((if s1 then -1 else 1) * a) / ((if s2 then -1 else 1) * b)) = signedNat (s1 ^^ s2) (nearestQuot a b) := by
  have hb' : (0 : Rat) < b := Nat.cast_pos.mpr hb
  have habs : |((if s1 then -1 else 1) * (a : Rat)) / ((if s2 then -1 else 1) * b) - (signedNat (s1 ^^ s2) (nearestQuot a b) : Rat)| =
      |(a : Rat) - nearestQuot a b * b| / b := by
    have hsub : ((if s1 then -1 else 1) * (a : Rat)) / ((if s2 then -1 else 1) * b) - (signedNat (s1 ^^ s2) (nearestQuot a b) : Rat) =
        (if (s1 ^^ s2) then -1 else 1) * ((a - nearestQuot a b * b) / b) := by
      rw [signedNat_cast]
      cases s1 <;> cases s2 <;> simp <;> field_simp <;> ring
    rw [hsub, abs_mul, abs_div, abs_of_pos hb']
    cases s1 <;> cases s2 <;> simp
  have hcast : |(a : Rat) - nearestQuot a b * b| = ((|(a : Int) - nearestQuot a b * b| : Int) : Rat) := by push_cast; rfl
  apply roundRat_nearest_eq
  rw [habs, hcast, div_lt_div_iff₀ hb' two_pos, div_eq_div_iff hb'.ne' two_ne_zero]
  have heven : nearestQuot a b % 2 = 0 → signedNat (s1 ^^ s2) (nearestQuot a b) % 2 = 0 := fun h => by
    unfold signedNat
    split_ifs <;> omega
  obtain h | ⟨h, h2⟩ := nearestQuot_spec a hb
  · left
    rw [mul_comm, one_mul]
    exact_mod_cast h
  · right
    rw [mul_comm, one_mul]
    exact ⟨by exact_mod_cast h, heven h2⟩

theorem log2_le_of_le {m n : Nat} (h : m ≤ n) : Nat.log2 m ≤ Nat.log2 n := by
  rw [Nat.log2_eq_log_two, Nat.log2_eq_log_two]
  exact Nat.log_mono_right h

/-- The remainder of a quotient that is not zero is no greater than either operand. -/
theorem remainder_le (a : Nat) {b : Nat} (hb : 0 < b) (h : nearestQuot a b ≠ 0) :
    ((a : Int) - nearestQuot a b * b).natAbs ≤ a ∧ ((a : Int) - nearestQuot a b * b).natAbs ≤ b := by
  have hle : 2 * |(a : Int) - nearestQuot a b * b| ≤ b := (nearestQuot_spec a hb).elim le_of_lt fun h => h.1.le
  have hq : (b : Int) ≤ nearestQuot a b * b := by
    have := Nat.mul_le_mul_right b (Nat.pos_of_ne_zero h)
    rw [Nat.one_mul] at this
    exact_mod_cast this
  obtain ⟨h1, h2⟩ := abs_le.mp (show |(a : Int) - nearestQuot a b * b| ≤ b by omega)
  generalize (nearestQuot a b : Int) * b = c at *
  have habs := Int.abs_eq_natAbs ((a : Int) - c)
  rw [habs] at hle
  omega

theorem remFinite_spec {f : Fmt} (s1 s2 : Bool) {m1 m2 : Nat} {e1 e2 : Int} (h1 : m1 ≠ 0) (h2 : m2 ≠ 0) (f1 : f.Fits m1 e1)
    (f2 : f.Fits m2 e2) :
    let p := numVal s1 m1 e1
    let q := numVal s2 m2 e2
    let n := roundRat .nearest (p / q)
    (n = 0 → remFinite f s1 m1 e1 s2 m2 e2 = .nothing) ∧
    (n ≠ 0 → ∃ d, remFinite f s1 m1 e1 s2 m2 e2 = .both (BitVec.ofInt 64 n) d ∧ Holds f d (p - n * q) ∧
      (p = n * q → classify f d = .zero (decide (p < 0)))) := by
  intro p q n
  obtain ⟨e, he⟩ : ∃ e, min e1 e2 = e := ⟨_, rfl⟩
  obtain ⟨a, ha⟩ : ∃ a, m1 * 2 ^ (e1 - e).toNat = a := ⟨_, rfl⟩
  obtain ⟨b, hb⟩ : ∃ b, m2 * 2 ^ (e2 - e).toNat = b := ⟨_, rfl⟩
  have hb0 : 0 < b := by
    rw [← hb]
    exact Nat.mul_pos (Nat.pos_of_ne_zero h2) (Nat.two_pow_pos _)
  have hunit : ∀ {neg : Bool} {m k : Nat} {x : Int}, e ≤ x → m * 2 ^ (x - e).toNat = k → numVal neg m x = (if neg then -1 else 1) * (k : Rat) * 2 ^ e :=
    fun {neg m k x} hx hk => by rw [← signedNat_mul neg m hx, hk, signedNat_cast]
  have hp : p = (if s1 then -1 else 1) * (a : Rat) * 2 ^ e := hunit (by omega) ha
  have hq : q = (if s2 then -1 else 1) * (b : Rat) * 2 ^ e := hunit (by omega) hb
  have hn : n = signedNat (s1 ^^ s2) (nearestQuot a b) := by
    show roundRat .nearest (p / q) = _
    rw [hp, hq, mul_div_mul_right _ _ (two_zpow_pos e).ne', roundRat_nearestQuot s1 s2 a hb0]
  have hn0 : n = 0 ↔ nearestQuot a b = 0 := by
    rw [hn]
    unfold signedNat
    split_ifs <;> omega
  have hdef : remFinite f s1 m1 e1 s2 m2 e2 = if nearestQuot a b = 0 then .nothing
      else .both (lo64 (signedNat (s1 ^^ s2) (nearestQuot a b)))
        (if (a : Int) - nearestQuot a b * b = 0 then packZero f s1
          else packExact f (s1 ^^ decide ((a : Int) - nearestQuot a b * b < 0)) ((a : Int) - nearestQuot a b * b).natAbs e) := by
    unfold remFinite
    simp only [he, ha, hb]
  refine ⟨fun h => hdef.trans (if_pos (hn0.mp h)), fun h => ⟨_, (hdef.trans (if_neg (hn0.not.mp h))).trans (by rw [hn]; rfl), ?_, ?_⟩⟩
  all_goals
    have hrem : p - n * q = numVal s1 1 e * ((a : Int) - nearestQuot a b * b : Int) := by
      rw [hp, hq, hn, signedNat_cast, numVal]
      push_cast
      cases s1 <;> cases s2 <;> simp <;> ring
  · obtain ⟨hlea, hleb⟩ := remainder_le a hb0 (hn0.not.mp h)
    split_ifs with hr
    · obtain ⟨hz, hclean⟩ := packZero_spec f s1
      refine ⟨hclean.symm, ?_⟩
      rw [hz, hrem, hr, Int.cast_zero, mul_zero]
      rfl
    · have hval : numVal (s1 ^^ decide ((a : Int) - nearestQuot a b * b < 0)) ((a : Int) - nearestQuot a b * b).natAbs e = p - n * q := by
        have hmul := numVal_mul s1 1 e (decide ((a : Int) - nearestQuot a b * b < 0)) ((a : Int) - nearestQuot a b * b).natAbs 0
        rw [one_mul, add_zero] at hmul
        rw [hmul, numVal_natAbs, zpow_zero, mul_one, hrem]
      have hr0 := Int.natAbs_ne_zero.mpr hr
      rw [← hval]
      obtain hmin | hmin := min_choice e1 e2 <;> rw [he] at hmin
      · rw [hmin, Int.sub_self, Int.toNat_zero, pow_zero, mul_one] at ha
        rw [← ha] at hlea hr0 ⊢
        have hmax := fits_leadExp h1 f1
        obtain ⟨hlt, hqmin, -, -⟩ := f1
        rw [hmin]
        refine packExact_holds _ hr0 (hlea.trans_lt hlt) hqmin ?_
        have := log2_le_of_le hlea
        unfold leadExp at hmax ⊢
        omega
      · rw [hmin, Int.sub_self, Int.toNat_zero, pow_zero, mul_one] at hb
        rw [← hb] at hleb hr0 ⊢
        have hmax := fits_leadExp h2 f2
        obtain ⟨hlt, hqmin, -, -⟩ := f2
        rw [hmin]
        refine packExact_holds _ hr0 (hleb.trans_lt hlt) hqmin ?_
        have := log2_le_of_le hleb
        unfold leadExp at hmax ⊢
        omega
  · intro heq
    have hzero : (a : Int) - nearestQuot a b * b = 0 := by
      have h0 := hrem.symm.trans (sub_eq_zero.mpr heq)
      rw [mul_eq_zero, or_iff_right (numVal_zero_iff.not.mpr one_ne_zero)] at h0
      exact_mod_cast h0
    have hsign : decide (p < 0) = s1 := by
      rw [show p = numVal s1 m1 e1 from rfl]
      simp only [numVal_neg_iff h1, Bool.decide_eq_true]
    rw [if_pos hzero, hsign]
    exact (packZero_spec f s1).1

section

variable {env : FEnv} {f : Fmt} {v w : FBits}

theorem frem_number {p q : Rat} (hw : ratOf (classify f w) = some p) (hv : ratOf (classify f v) = some q) (hq : q ≠ 0) :
    let n := roundRat .nearest (p / q)
    (n = 0 → frem env f v w = .nothing) ∧
    (n ≠ 0 → ∃ d, frem env f v w = .both (BitVec.ofInt 64 n) d ∧ Holds f d (p - n * q) ∧
      (p = n * q → classify f d = .zero (decide (p < 0)))) := by
  obtain ⟨-, n2, m2, e2, hv', h2, f2, rfl⟩ := (classify_number hv).resolve_left fun h => hq h.1
  obtain ⟨rfl, g, hw'⟩ | ⟨hp, n1, m1, e1, hw', h1, f1, rfl⟩ := classify_number hw
  · intro n
    have hn : n = 0 := by
      show roundRat .nearest (0 / _) = 0
      rw [zero_div]
      exact_mod_cast roundRat_intCast .nearest 0
    exact ⟨fun _ => by simp [frem, hv', hw', FVal.isNan], fun h => absurd hn h⟩
  · have hrem : frem env f v w = remFinite f n1 m1 e1 n2 m2 e2 := by simp [frem, hv', hw', FVal.isNan]
    rw [hrem]
    exact remFinite_spec n1 n2 h1 h2 f1 f2

theorem frem_infinite {p : Rat} {g : Bool} (hw : ratOf (classify f w) = some p) (hv : classify f v = .inf g) :
    frem env f v w = .nothing := by
  obtain ⟨-, g, hw'⟩ | ⟨-, n1, m1, e1, hw', -⟩ := classify_number hw <;> simp [frem, hv, hw', FVal.isNan]

theorem frem_nan (hv : classify f v ≠ .undef) (hw : classify f w ≠ .undef)
    (h : (classify f v).isNan = true ∨ (classify f w).isNan = true) : frem env f v w = .dest (nanTests env f v w .undefined) := by
  have h' : ((classify f w).isNan || (classify f v).isNan) = true := by
    rw [Bool.or_eq_true]
    exact h.symm
  unfold frem
  simp only [hv, hw, or_self, if_false, h', if_true]

theorem frem_invalid (hv : (classify f v).isNan = false) (hw : (classify f w).isNan = false) (hv' : classify f v ≠ .undef)
    (hw' : classify f w ≠ .undef) (h : ∃ g, classify f v = .zero g ∨ classify f w = .inf g) :
    frem env f v w = .dest (invalidOut env f) := by
  unfold frem
  simp only [hv, hw, hv', hw', or_self, Bool.or_self, Bool.false_eq_true, if_false]
  obtain ⟨g, h | h⟩ := h
  · rw [h]
    cases classify f w <;> rfl
  · rw [h]

end

/-! ### Exact results -/

section

variable {f : Fmt} {r : Reg}

theorem delivered_of_roundOut {neg : Bool} {m : Nat} {e : Int} {c : Rat} (h : exec i s = finishFloat i f r (roundOut s.fenv f neg m e) s)
    (hs : Stands f neg m e c) (hn : Normal f c) : Delivered i f r s s fun d => ratOf (classify f d) = some c := by
  obtain ⟨d, ⟨hclean, hd⟩, ho⟩ := roundOut_normal (env := s.fenv) hs hn
  exact delivered_of_finishFloat h ⟨d, ho, hclean, hd⟩

/-- Exact results of the arithmetic. -/
theorem computes_exact {op : Arith} {a b : FBits} (h : Computes s i op f r a b) {p q : Rat} (hp : ratOf (classify f a) = some p)
    (hq : ratOf (classify f b) = some q) :
    (Normal f (op.exact p q) ∨ (op ∈ sums ∧ (p = 0 ∨ q = 0) ∧ op.exact p q ≠ 0) →
      Delivered i f r s s fun d => ratOf (classify f d) = some (op.exact p q)) ∧
    (op ∈ sums → p ≠ 0 → op.exact p q = 0 → Delivered i f r s s fun d => classify f d = .zero (decide (s.rmode = .minus))) := by
  have hx := exec_of_computes h
  have hzero : op ∈ sums → p = 0 ∨ q = 0 → op.exact p q ≠ 0 →
      Delivered i f r s s fun d => ratOf (classify f d) = some (op.exact p q) := fun hop h0 hne => by
    obtain ⟨d, ⟨hclean, hd⟩, ho⟩ := arithRun_zero (env := s.fenv) hp hq hop h0 hne
    exact delivered_of_finishFloat hx ⟨d, ho, hclean, hd⟩
  refine ⟨?_, fun hop hp0 h0 => ?_⟩
  · rintro (hn | ⟨hop, h0, hne⟩)
    · have hne := normal_ne_zero hn
      by_cases h0 : p = 0 ∨ q = 0
      · refine hzero ?_ h0 hne
        obtain rfl | rfl := h0 <;> cases op <;> simp [Arith.exact, sums] at hne ⊢
      · obtain ⟨hp0, hq0⟩ := not_or.mp h0
        obtain ⟨neg, m, e, hs, ho⟩ := (arithRun_numbers (env := s.fenv) hp hq hp0 hq0).2 hne
        rw [ho] at hx
        exact delivered_of_roundOut hx hs hn
    · exact hzero hop h0 hne
  · have hq0 : q ≠ 0 := by
      rintro rfl
      simp only [sums, List.mem_cons, List.not_mem_nil, or_false] at hop
      obtain rfl | rfl | rfl := hop <;> simp [Arith.exact] at h0 <;> exact hp0 h0
    obtain ⟨-, ho⟩ := (arithRun_numbers (env := s.fenv) hp hq hp0 hq0).1 h0
    obtain ⟨hz, hclean⟩ := packZero_spec f (decide (s.rmode = .minus))
    exact delivered_of_finishFloat hx ⟨_, ho, hclean.symm, hz⟩

/-- Exact results of the conversions between formats. -/
theorem converts_exact {src : Fmt} {b : FBits} (h : Converts s i src b f r) :
    (∀ p, ratOf (classify src b) = some p → Normal f p → Delivered i f r s s fun d => ratOf (classify f d) = some p) ∧
    (∀ g, classify src b = .zero g → Delivered i f r s s fun d => classify f d = .zero g) ∧
    (∀ g, classify src b = .inf g → Delivered i f r s s fun d => classify f d = .inf g) := by
  have hx := exec_of_converts h
  refine ⟨fun p hp hn => ?_, fun g hg => ?_, fun g hg => ?_⟩
  · obtain ⟨neg, m, e, hs, ho⟩ := fconvert_number (env := s.fenv) (f := f) hp (normal_ne_zero hn)
    rw [ho] at hx
    exact delivered_of_roundOut hx hs hn
  · obtain ⟨hz, hclean⟩ := packZero_spec f g
    exact delivered_of_finishFloat hx ⟨_, by rw [fconvert, hg], hclean.symm, hz⟩
  · obtain ⟨hz, hclean⟩ := packInf_spec f g
    exact delivered_of_finishFloat hx ⟨_, by rw [fconvert, hg], hclean.symm, hz⟩

end

theorem finishRem_dest {f : Fmt} {x z : Reg} {v w : FBits} {out : FOut} (h : Divides s i f x z v w)
    (ho : frem s.fenv f v w = .dest out) : exec i s = finishFloat i f z out s := by
  obtain ⟨hx, hapart⟩ := exec_of_divides h
  rw [hx, ho]
  exact (finishRem_apart hapart).2.1 out

theorem done_of_frem_nothing {f : Fmt} {x z : Reg} {v w : FBits} (h : Divides s i f x z v w) (ho : frem s.fenv f v w = .nothing) :
    Done i s s := by
  obtain ⟨hx, hapart⟩ := exec_of_divides h
  rw [ho, (finishRem_apart hapart).1] at hx
  exact done_of_advance hx rfl

/-- Settles O31. -/
theorem exactResultsDelivered : Obligations.ExactResultsDelivered := by
  refine ⟨fun s i op f r a b h => ?_, fun s i src b f r h => ?_, fun s i n f r h => ?_, fun s i b f r p h hp => ?_,
    fun s i f x z v w h => ?_⟩
  · intro x y
    have hx := exec_of_computes h
    refine ⟨fun p q hp hq => computes_exact h hp hq, fun v hv => delivered_of_finishFloat hx (arithRun_cell hv),
      fun ha hb ha' hb' => ?_⟩
    rw [arithRun_eq] at hx
    refine ⟨fun hn => done_of_finishFloat hx ((nanTests_quiet ha hb ha' hb').1 hn),
      fun hn hn' => done_of_finishFloat hx ((nanTests_quiet ha hb ha' hb').2 hn hn')⟩
  · obtain ⟨hnormal, hzero, hinf⟩ := converts_exact h
    refine ⟨hnormal, hzero, hinf, fun g frac hg => ?_⟩
    obtain ⟨hclean, hbit, hkept, hnone⟩ := convertNan_spec (f := f) hg
    exact delivered_of_finishFloat (exec_of_converts h) ⟨_, by rw [fconvert, hg]; rfl, hclean, hbit, hkept, hnone⟩
  · have hx := exec_of_fromInteger h
    refine ⟨fun hn => ?_, fun h0 => ?_⟩
    · obtain ⟨neg, m, e, hs, ho⟩ := ofInteger_number (env := s.fenv) (f := f) (n := n) fun h0 => normal_ne_zero hn (by rw [h0, Int.cast_zero])
      rw [ho] at hx
      exact delivered_of_roundOut hx hs hn
    · obtain ⟨hz, hclean⟩ := packZero_spec f false
      exact delivered_of_finishFloat hx ⟨_, if_pos h0, hclean.symm, hz⟩
  · intro n result
    have hx := exec_of_takesPart h
    obtain ⟨d, ⟨hclean, hd⟩, hsign, ho⟩ := finp_number (env := s.fenv) hp
    refine ⟨fun hn => ?_, fun hn hd' => ?_⟩
    · refine delivered_of_finishFloat hx ⟨d, ho.trans ?_, hclean, hd, hsign⟩
      rw [show (roundRat s.fenv.mode p : Rat) = p from hn]
      simp [inexactOut]
    · refine ⟨d, done_of_finishFloat hx (occ := [.fpInexact]) (ho.trans ?_), hclean, hd, hsign⟩
      have hinx : s.fenv.inx = false := hd'
      rw [if_neg (show ¬ (roundRat s.fenv.mode p : Rat) = p from hn), inexactOut, hinx, Bool.and_false]
      rfl
  · obtain ⟨hx, hapart⟩ := exec_of_divides h
    refine ⟨fun p q hp hq hq0 => ?_, fun p g hp hg => done_of_frem_nothing h (frem_infinite hp hg), fun hv hw hv' hw' => ?_⟩
    · intro n
      obtain ⟨hzero, hne⟩ := frem_number (env := s.fenv) hp hq hq0
      refine ⟨fun hn => done_of_frem_nothing h (hzero hn), fun hn => ?_⟩
      obtain ⟨d, ho, ⟨hclean, hd⟩, hsign⟩ := hne hn
      rw [ho, (finishRem_apart hapart).2.2] at hx
      exact ⟨d, done_of_advance hx (writeDatum_pc ..), hclean, hd, hsign⟩
    · obtain ⟨hfirst, hsecond⟩ := nanTests_quiet (env := s.fenv) (k := .undefined) hv hw hv' hw'
      exact ⟨fun hn => done_of_finishFloat (finishRem_dest h (frem_nan hv hw (.inl hn))) (hfirst hn),
        fun hn hn' => done_of_finishFloat (finishRem_dest h (frem_nan hv hw (.inr hn'))) (hsecond hn hn')⟩


/-! ### A rounded number delivered or taken (R325 to R328) -/

section

variable {f : Fmt} {r : Reg} {out : FOut} {neg : Bool} {m : Nat} {e : Int} {c : Rat}

/-- Instruction `i` is taken by the handler of `code`, its message telling a datum of which `P` holds, the other changes being
in `t`. -/
def Taken (i : Instr) (s t : State) (code : ExcCode) (P : FBits → Prop) : Prop :=
  ∃ d : FBits, exec i s = raise i { code := code, high := FBits.hi d, low := FBits.lo d } t ∧ P d

theorem taken_of_finishFloat {code : ExcCode} {d : FBits} {occ : List ExcCode} {P : FBits → Prop}
    (h : exec i s = finishFloat i f r out s) (ho : out = .taken code d occ)
    (ht : ∃ u : State, s.setAllOccurred occ = u.setOccurred code ∧ u = t) (hP : P d) : Taken i s t code P := by
  obtain ⟨u, hu, rfl⟩ := ht
  refine ⟨d, (raise_of_finishFloat h ho).trans ?_, hP⟩
  rw [hu]
  exact raise_setOccurred _

theorem inexactOut_enabled {env : FEnv} {d : FBits} {occ : List ExcCode} (h : env.inx = true) :
    inexactOut env d true occ = .taken .fpInexact d occ := by
  rw [inexactOut, h]
  rfl

theorem inexactOut_disabled {env : FEnv} {d : FBits} {occ : List ExcCode} {lost : Bool} (h : env.inx = false) :
    inexactOut env d lost occ = .done d occ := by
  rw [inexactOut, h, Bool.and_false]
  rfl

theorem invalidOut_disabled {env : FEnv} (h : env.inv = false) : invalidOut env f = .done (canonicalNan f) [.fpInvalid] := by
  rw [invalidOut, h, packNan_canonical]
  rfl

theorem invalidOut_enabled {env : FEnv} (h : env.inv = true) : invalidOut env f = .taken .fpInvalid 0 [.fpInvalid] := by
  rw [invalidOut, h]
  rfl

variable (hx : exec i s = finishFloat i f r (roundOut s.fenv f neg m e) s) (hs : Stands f neg m e c)

include hx hs

/-- An overflow (R325). -/
theorem rounded_overflow (ho : 2 ^ (f.emax + 1) ≤ |roundTo s.rmode c (f.emax - f.fracBits)|) :
    (s.excEnabled .fpOverflow = true → Taken i s (s.setOccurred .fpInexact) .fpOverflow (Scaled f s.rmode c (-f.scale))) ∧
    (s.excEnabled .fpOverflow = false → s.excEnabled .fpInexact = true →
      Taken i s (s.setOccurred .fpOverflow) .fpInexact fun _ => True) ∧
    (s.excEnabled .fpOverflow = false → s.excEnabled .fpInexact = false →
      Delivered i f r s ((s.setOccurred .fpOverflow).setOccurred .fpInexact) (OverflowDefault f s.rmode c)) := by
  have hout := roundOut_overflow (env := s.fenv) hs ho
  refine ⟨fun hovf => ?_, fun hovf hinx => ?_, fun hovf hinx => ?_⟩
  · exact taken_of_finishFloat hx (hout.trans (if_pos hovf)) ⟨s.setOccurred .fpInexact, State.setOccurred_comm _ _, rfl⟩
      (scaledBits_holds (env := s.fenv) hs)
  · have hovf : ¬ s.fenv.ovf = true := ne_true_of_eq_false hovf
    exact taken_of_finishFloat hx (hout.trans ((if_neg hovf).trans (inexactOut_enabled hinx)))
      ⟨s.setOccurred .fpOverflow, rfl, rfl⟩ trivial
  · have hovf : ¬ s.fenv.ovf = true := ne_true_of_eq_false hovf
    have hc : c ≠ 0 := by
      rintro rfl
      have := hs.binade.1
      rw [abs_zero] at this
      exact absurd this (not_le.mpr (two_zpow_pos _))
    obtain ⟨hclean, hdefault⟩ := overflowDefault_spec (f := f) (mode := s.rmode) hc hs.neg_iff
    exact ⟨_, done_of_finishFloat hx (hout.trans ((if_neg hovf).trans (inexactOut_disabled hinx))), hclean.symm, hdefault⟩

/-- A tiny number with its handler enabled (R327). -/
theorem rounded_underflow_taken (ht : |c| < 2 ^ f.emin) (hunf : s.excEnabled .fpUnderflow = true) {u : Int}
    (hu : 2 ^ (u + f.fracBits) ≤ |c|) (hu' : |c| < 2 ^ (u + f.fracBits + 1)) :
    Taken i s (if roundTo s.rmode c u = c then s else s.setOccurred .fpInexact) .fpUnderflow (Scaled f s.rmode c f.scale) := by
  obtain rfl := hs.unit_eq hu hu'
  obtain ⟨-, -, -, hlost, -⟩ := hs.roundPrec_spec (env := s.fenv)
  have hout : roundOut s.fenv f neg m e = .taken .fpUnderflow (scaledBits s.fenv f neg m e f.scale)
      (if (roundPrec f s.fenv.mode neg m e).2.2 then [.fpUnderflow, .fpInexact] else [.fpUnderflow]) :=
    (roundOut_tiny hs ht).trans (if_pos hunf)
  cases hl : (roundPrec f s.fenv.mode neg m e).2.2 with
  | false =>
    have heq : roundTo s.rmode c (lastPlace f m e) = c := hlost.mp hl
    rw [hl] at hout
    rw [if_pos heq]
    exact taken_of_finishFloat hx hout ⟨s, rfl, rfl⟩ (scaledBits_holds (env := s.fenv) hs)
  | true =>
    have hne : ¬ roundTo s.rmode c (lastPlace f m e) = c := fun he => Bool.noConfusion (hl.symm.trans (hlost.mpr he))
    rw [hl] at hout
    rw [if_neg hne]
    exact taken_of_finishFloat hx hout ⟨s.setOccurred .fpInexact, State.setOccurred_comm _ _, rfl⟩ (scaledBits_holds (env := s.fenv) hs)

/-- A tiny number flushed to zero (R327, R32). -/
theorem rounded_flushed (ht : |c| < 2 ^ f.emin) (hunf : s.excEnabled .fpUnderflow = false) (hfz : s.pswBit 11 = true) :
    (s.excEnabled .fpInexact = false → Delivered i f r s ((s.setOccurred .fpUnderflow).setOccurred .fpInexact) fun d =>
      classify f d = .zero (decide (c < 0))) ∧
    (s.excEnabled .fpInexact = true → Taken i s (s.setOccurred .fpUnderflow) .fpInexact fun _ => True) := by
  have hunf : ¬ s.fenv.unf = true := ne_true_of_eq_false hunf
  have hout : roundOut s.fenv f neg m e = inexactOut s.fenv (packZero f neg) true [.fpUnderflow, .fpInexact] :=
    (roundOut_tiny hs ht).trans ((if_neg hunf).trans (if_pos hfz))
  refine ⟨fun hinx => ?_, fun hinx => ?_⟩
  · obtain ⟨hz, hclean⟩ := packZero_spec f neg
    refine ⟨_, done_of_finishFloat hx (hout.trans (inexactOut_disabled hinx)), hclean.symm, ?_⟩
    simp only [hz, hs.neg_iff, Bool.decide_eq_true]
  · exact taken_of_finishFloat hx (hout.trans (inexactOut_enabled hinx)) ⟨s.setOccurred .fpUnderflow, rfl, rfl⟩ trivial

/-- A tiny number rounded at the denormalized precision (R327). -/
theorem rounded_denormalized (ht : |c| < 2 ^ f.emin) (hunf : s.excEnabled .fpUnderflow = false) (hfz : s.pswBit 11 = false) :
    (roundTo s.rmode c f.qmin = c → Delivered i f r s s fun d => ratOf (classify f d) = some c) ∧
    (roundTo s.rmode c f.qmin ≠ c → s.excEnabled .fpInexact = false →
      Delivered i f r s ((s.setOccurred .fpUnderflow).setOccurred .fpInexact) fun d =>
        ratOf (classify f d) = some (roundTo s.rmode c f.qmin) ∧
          (roundTo s.rmode c f.qmin = 0 → classify f d = .zero (decide (c < 0)))) ∧
    (roundTo s.rmode c f.qmin ≠ c → s.excEnabled .fpInexact = true →
      Taken i s (s.setOccurred .fpUnderflow) .fpInexact fun d => Holds f d (roundTo s.rmode c f.qmin)) := by
  have hunf : ¬ s.fenv.unf = true := ne_true_of_eq_false hunf
  have hfz : ¬ s.fenv.fz = true := ne_true_of_eq_false hfz
  obtain ⟨hholds, hzero, hlost⟩ := underflow_rounded (env := s.fenv) hs ht
  have hout : roundOut s.fenv f neg m e = inexactOut s.fenv (packFinite f neg (roundAt s.fenv.mode neg m e f.qmin).1 f.qmin)
      (roundAt s.fenv.mode neg m e f.qmin).2 (if (roundAt s.fenv.mode neg m e f.qmin).2 then [.fpUnderflow, .fpInexact] else []) :=
    (roundOut_tiny hs ht).trans ((if_neg hunf).trans (if_neg hfz))
  have hinexact : roundTo s.rmode c f.qmin ≠ c → (roundAt s.fenv.mode neg m e f.qmin).2 = true := fun hne => by
    rw [← Bool.not_eq_false]
    exact fun hl => hne (hlost.mp hl)
  refine ⟨fun heq => ?_, fun hne hinx => ?_, fun hne hinx => ?_⟩
  · rw [hlost.mpr heq] at hout
    obtain ⟨hclean, hd⟩ := hholds
    rw [show roundTo s.fenv.mode c f.qmin = c from heq] at hd
    exact ⟨_, done_of_finishFloat hx hout, hclean, hd⟩
  · rw [hinexact hne] at hout
    obtain ⟨hclean, hd⟩ := hholds
    refine ⟨_, done_of_finishFloat hx (hout.trans (inexactOut_disabled hinx)), hclean, hd, fun h0 => ?_⟩
    simp only [hzero h0, hs.neg_iff, Bool.decide_eq_true]
  · rw [hinexact hne] at hout
    exact taken_of_finishFloat hx (hout.trans (inexactOut_enabled hinx)) ⟨s.setOccurred .fpUnderflow, rfl, rfl⟩ hholds

/-- A number in range that the format does not hold (R326). -/
theorem rounded_inexact {u : Int} (hmin : f.emin ≤ u + f.fracBits) (hu : 2 ^ (u + f.fracBits) ≤ |c|)
    (hu' : |c| < 2 ^ (u + f.fracBits + 1)) (hne : roundTo s.rmode c u ≠ c) (hr : |roundTo s.rmode c u| < 2 ^ (f.emax + 1)) :
    (s.excEnabled .fpInexact = true → Taken i s s .fpInexact fun d => Holds f d (roundTo s.rmode c u)) ∧
    (s.excEnabled .fpInexact = false →
      Delivered i f r s (s.setOccurred .fpInexact) fun d => ratOf (classify f d) = some (roundTo s.rmode c u)) := by
  obtain ⟨d, hd, hout⟩ := roundOut_inRange (env := s.fenv) hs hmin hu hu' hr
  have hne' : ¬ roundTo s.fenv.mode c u = c := hne
  rw [if_neg hne', decide_eq_true hne'] at hout
  refine ⟨fun hinx => ?_, fun hinx => ?_⟩
  · exact taken_of_finishFloat hx (hout.trans (inexactOut_enabled hinx)) ⟨s, rfl, rfl⟩ hd
  · obtain ⟨hclean, hd⟩ := hd
    exact ⟨d, done_of_finishFloat hx (hout.trans (inexactOut_disabled hinx)), hclean, hd⟩

end

/-! ### The square root (R355) -/

theorem isqrt_spec (n k : Nat) (h : n < 4 ^ k) : isqrt n k * isqrt n k ≤ n ∧ n < (isqrt n k + 1) * (isqrt n k + 1) := by
  induction k generalizing n with
  | zero =>
    have hn : n = 0 := by simpa using h
    subst hn
    exact ⟨le_refl _, by decide⟩
  | succ k ih =>
    obtain ⟨hle, hlt⟩ := ih (n / 4) (by rw [pow_succ] at h; omega)
    have hdef : isqrt n (k + 1) =
        if (2 * isqrt (n / 4) k + 1) * (2 * isqrt (n / 4) k + 1) ≤ n then 2 * isqrt (n / 4) k + 1 else 2 * isqrt (n / 4) k := rfl
    rw [hdef]
    generalize isqrt (n / 4) k = r at *
    have h1 : 2 * r * (2 * r) = 4 * (r * r) := by ring
    have h2 : (2 * r + 1 + 1) * (2 * r + 1 + 1) = 4 * ((r + 1) * (r + 1)) := by ring
    split_ifs with hup
    · exact ⟨hup, by omega⟩
    · exact ⟨by omega, not_le.mp hup⟩

theorem isqrt_mul_self (t : Nat) {k : Nat} (h : t * t < 4 ^ k) : isqrt (t * t) k = t := by
  obtain ⟨hle, hlt⟩ := isqrt_spec (t * t) k h
  have h1 := Nat.mul_self_le_mul_self_iff.mp hle
  have h2 := Nat.mul_self_lt_mul_self_iff.mp hlt
  omega

/-- The square root of a square (R355). -/
theorem fsqrt_square {env : FEnv} {f : Fmt} {b : FBits} {p : Rat} (hp : 0 < p) (h : ratOf (classify f b) = some (p * p))
    (hn : Normal f p) : ∃ d, fsqrt env f b = .done d [] ∧ Holds f d p := by
  obtain ⟨-, neg, m, e, hc, hm, -, hval⟩ := (classify_number h).resolve_left fun h => (mul_pos hp hp).ne' h.1
  obtain rfl : neg = false := by
    rw [← Bool.not_eq_true, ← numVal_neg_iff hm e, ← hval]
    exact not_lt.mpr (mul_pos hp hp).le
  obtain ⟨k, hk⟩ : ∃ k, 2 * (f.prec + 3) + (e % 2).toNat = k := ⟨_, rfl⟩
  obtain ⟨j, hj⟩ : ∃ j : Int, e - k = 2 * j := ⟨(e - k) / 2, by omega⟩
  have hpow : (2 : Rat) ^ e = 2 ^ k * (2 ^ j * 2 ^ j) := by
    rw [← zpow_natCast, ← two_zpow_add, ← two_zpow_add]
    congr 1
    omega
  have hsq : ((m * 2 ^ k : Nat) : Rat) = (p / 2 ^ j) * (p / 2 ^ j) := by
    have hj0 := (two_zpow_pos j).ne'
    rw [div_mul_div_comm, hval, numVal, hpow]
    push_cast
    field_simp
  obtain ⟨r, hr⟩ : IsSquare (m * 2 ^ k) := Rat.isSquare_natCast_iff.mp ⟨_, hsq⟩
  have hroot : isqrt (m * 2 ^ k) (Nat.log2 (m * 2 ^ k) + 1) = r := by
    rw [hr]
    refine isqrt_mul_self r (lt_of_lt_of_le Nat.lt_log2_self ?_)
    exact Nat.pow_le_pow_left (by decide) _
  have hr0 : r ≠ 0 := by
    rintro rfl
    have := Nat.two_pow_pos k
    simp only [Nat.mul_zero, Nat.mul_eq_zero] at hr
    omega
  have hrp : p = numVal false (2 * r) (j - 1) := by
    have hroot : (r : Rat) = p / 2 ^ j := by
      rw [hr] at hsq
      push_cast at hsq
      exact (mul_self_inj_of_nonneg r.cast_nonneg (div_pos hp (two_zpow_pos j)).le).mp hsq
    rw [eq_div_iff (two_zpow_pos j).ne'] at hroot
    rw [← hroot, numVal, zpow_sub₀ two_ne_zero]
    push_cast
    simp
    ring
  have hs := Stands.self (f := f) false (show 2 * r ≠ 0 by omega) (j - 1)
  rw [← hrp] at hs
  obtain ⟨d, hd, hout⟩ := roundOut_normal (env := env) hs hn
  refine ⟨d, ?_, hd⟩
  have hv : (classify f b).isNan = false := by rw [hc]; rfl
  have hu : classify f b ≠ .undef := by rw [hc]; exact nofun
  rw [fsqrt, nanTests_values hu hu hv hv, hc]
  simp only [hk]
  rw [hroot, if_pos hr.symm, hj, Int.mul_ediv_cancel_left _ two_ne_zero]
  exact hout

section

variable {f : Fmt} {o : GOp} {bytes : List Byte} {b : Word}

theorem execFsqr_general (hv : s.lastVal .zero f.bytes o = some b) : execFsqr (.general f o) bytes s =
    finishFloatAt bytes (s.pc + BitVec.ofNat 32 bytes.length) (writeDatum f o.x) (fsqrt s.fenv f (wordDatum f b)) s := by
  unfold execFsqr
  simp only [Fsqr.badPair, Bool.false_eq_true, if_false, hv]

theorem writeDatum_word (hf : f ≠ .extended) (r : Reg) (d : FBits) : writeDatum f r d s = s.setReg r (FBits.lo d) := by
  cases f with
  | extended => exact absurd rfl hf
  | _ => rfl

/-- FSQR of a word: invalid, exact, a square (R355). -/
theorem fsqr_ends (hf : f ≠ .extended) (hv : s.lastVal .zero f.bytes o = some b) :
    let v := classify f (wordDatum f b)
    let gives := fun (d : FBits) (t : State) =>
      execFsqr (.general f o) bytes s = .next ((t.setReg o.x (FBits.lo d)).setPc (s.pc + BitVec.ofNat 32 bytes.length))
    ((v = .inf true ∨ ∃ m e, v = .fin true m e) →
      (s.excEnabled .fpInvalid = false → gives (canonicalNan f) (s.setOccurred .fpInvalid)) ∧
      (s.excEnabled .fpInvalid = true → execFsqr (.general f o) bytes s =
        raiseAt bytes s.pc (s.pc + BitVec.ofNat 32 bytes.length) { code := .fpInvalid } s)) ∧
    (∀ neg, v = .zero neg → ∃ d, gives d s ∧ classify f d = .zero neg) ∧
    (v = .inf false → ∃ d, gives d s ∧ classify f d = .inf false) ∧
    (∀ p, 0 < p → ratOf v = some (p * p) → Normal f p → ∃ d, gives d s ∧ Holds f d p) := by
  intro v gives
  have hx := execFsqr_general (bytes := bytes) hv
  have hdone : ∀ {d occ}, fsqrt s.fenv f (wordDatum f b) = .done d occ → gives d (s.setAllOccurred occ) := fun ho => by
    rw [ho] at hx
    refine hx.trans ?_
    show Host.Outcome.next ((writeDatum f o.x _ _).setPc _) = _
    rw [writeDatum_word hf]
  refine ⟨fun hinv => ?_, fun neg hz => ?_, fun hi => ?_, fun p hp h hn => ?_⟩
  · have ho : fsqrt s.fenv f (wordDatum f b) = invalidOut s.fenv f := by
      obtain hi | ⟨m, e, hi⟩ := hinv <;> simp [fsqrt, nanTests, show classify f (wordDatum f b) = _ from hi, FVal.isSignaling, FVal.isNan]
    refine ⟨fun hd => ?_, fun he => ?_⟩
    · exact hdone (ho.trans (invalidOut_disabled hd))
    · rw [ho, invalidOut_enabled he] at hx
      exact hx.trans (raiseAt_setOccurred { code := .fpInvalid })
  · obtain ⟨hc, -⟩ := packZero_spec f neg
    exact ⟨_, hdone (occ := []) (by simp [fsqrt, nanTests, show classify f (wordDatum f b) = _ from hz, FVal.isSignaling, FVal.isNan]), hc⟩
  · obtain ⟨hc, -⟩ := packInf_spec f false
    exact ⟨_, hdone (occ := []) (by simp [fsqrt, nanTests, show classify f (wordDatum f b) = _ from hi, FVal.isSignaling, FVal.isNan]), hc⟩
  · obtain ⟨d, ho, hd⟩ := fsqrt_square (env := s.fenv) hp h hn
    exact ⟨d, hdone ho, hd⟩

end

/-! ### Every floating-point exception -/

/-- An instruction that delivers the number `c` delivers zero, or rounds a number in whose place another stands. -/
def Rounds (i : Instr) (f : Fmt) (r : Reg) (s : State) (c : Rat) : Prop :=
  c = 0 ∨ ∃ neg m e, Stands f neg m e c ∧ exec i s = finishFloat i f r (roundOut s.fenv f neg m e) s

section

variable {f : Fmt} {r : Reg}

theorem rounds_of_computes {op : Arith} {a b : FBits} {p q : Rat} (h : Computes s i op f r a b)
    (ha : ratOf (classify f a) = some p) (hb : ratOf (classify f b) = some q) (hp : p ≠ 0) (hq : q ≠ 0) :
    Rounds i f r s (op.exact p q) := by
  by_cases hc : op.exact p q = 0
  · exact .inl hc
  · obtain ⟨neg, m, e, hs, ho⟩ := (arithRun_numbers (env := s.fenv) ha hb hp hq).2 hc
    exact .inr ⟨neg, m, e, hs, by rw [← ho]; exact exec_of_computes h⟩

theorem rounds_of_converts {src : Fmt} {b : FBits} {c : Rat} (h : Converts s i src b f r) (hb : ratOf (classify src b) = some c) :
    Rounds i f r s c := by
  by_cases hc : c = 0
  · exact .inl hc
  · obtain ⟨neg, m, e, hs, ho⟩ := fconvert_number (env := s.fenv) (f := f) hb hc
    exact .inr ⟨neg, m, e, hs, by rw [← ho]; exact exec_of_converts h⟩

theorem rounds_of_fromInteger {n : Int} (h : FromInteger s i n f r) : Rounds i f r s n := by
  by_cases hn : n = 0
  · exact .inl (by rw [hn, Int.cast_zero])
  · obtain ⟨neg, m, e, hs, ho⟩ := ofInteger_number (env := s.fenv) (f := f) hn
    exact .inr ⟨neg, m, e, hs, by rw [← ho]; exact exec_of_fromInteger h⟩

theorem roundTo_zero (mode : Rounding) (u : Int) : roundTo mode 0 u = 0 := by
  have h := roundRat_intCast mode 0
  rw [Int.cast_zero] at h
  rw [roundTo, zero_div, h, Int.cast_zero, zero_mul]

end

/-- The arithmetic's exceptions that rounding does not bring (R323, R324). -/
theorem computes_exceptions {op : Arith} {f : Fmt} {r : Reg} {a b : FBits} (h : Computes s i op f r a b) :
    (classify f a ≠ .undef → classify f b ≠ .undef →
      (classify f a).isSignaling = true ∨ (classify f b).isSignaling = true ∨ op.invalid (classify f a) (classify f b) →
      Invalid i f r s) ∧
    (∀ neg m k zneg, op = .div ∨ op = .divr → op.operands (classify f a) (classify f b) = (.fin neg m k, .zero zneg) →
      (s.excEnabled .fpDivZero = false →
        Delivered i f r s (s.setOccurred .fpDivZero) fun d => classify f d = .inf (neg ^^ zneg)) ∧
      (s.excEnabled .fpDivZero = true → exec i s = raise i { code := .fpDivZero } s)) := by
  have hx := exec_of_computes h
  refine ⟨fun ha hb hinv => ?_, fun neg m k zneg hop hv => ?_⟩
  · rw [arithRun_invalid ha hb hinv] at hx
    exact invalid_of_finishFloat hx
  · have ho := arithRun_divZero (env := s.fenv) hop hv
    refine ⟨fun hd => ?_, fun he => ?_⟩
    · obtain ⟨hc, hclean⟩ := packInf_spec f (neg ^^ zneg)
      exact ⟨_, done_of_finishFloat hx (ho.trans (if_neg (ne_true_of_eq_false hd))), hclean.symm, hc⟩
    · exact (raise_of_finishFloat hx (ho.trans (if_pos he))).trans (raise_setOccurred _)

/-- FINP's exceptions (R498). -/
theorem takesPart_exceptions {b : FBits} {f : Fmt} {r : Reg} (h : TakesPart s i b f r) :
    ((classify f b).isNan = true ∨ (∃ g, classify f b = .inf g) → Invalid i f r s) ∧
    (∀ p, ratOf (classify f b) = some p → (roundRat s.rmode p : Rat) ≠ p → s.excEnabled .fpInexact = true →
      Taken i s s .fpInexact fun d => Holds f d (roundRat s.rmode p)) := by
  have hx := exec_of_takesPart h
  refine ⟨fun hb => ?_, fun p hp hne hinx => ?_⟩
  · have ho : finp s.fenv f b = invalidOut s.fenv f := by
      obtain hn | ⟨g, hg⟩ := hb
      · unfold finp
        cases hc : classify f b with
        | nan => rfl
        | inf => rfl
        | _ =>
          rw [hc] at hn
          cases hn
      · rw [finp, hg]
    rw [ho] at hx
    exact invalid_of_finishFloat hx
  · obtain ⟨d, hd, -, ho⟩ := finp_number (env := s.fenv) hp
    have hne' : ¬ (roundRat s.fenv.mode p : Rat) = p := hne
    rw [if_neg hne', decide_eq_true hne'] at ho
    exact taken_of_finishFloat hx (ho.trans (inexactOut_enabled hinx)) ⟨s, rfl, rfl⟩ hd

/-- FREM's exceptions (R350, D35). -/
theorem divides_exceptions {f : Fmt} {x z : Reg} {v w : FBits} (h : Divides s i f x z v w) (hv : classify f v ≠ .undef)
    (hw : classify f w ≠ .undef) :
    ((classify f v).isSignaling = true ∨ (classify f w).isSignaling = true → Invalid i f z s) ∧
    ((classify f v).isNan = false → (classify f w).isNan = false →
      (∃ g, classify f v = .zero g ∨ classify f w = .inf g) → Invalid i f z s) := by
  have hnan : ∀ {a : FVal}, a.isSignaling = true → a.isNan = true := fun {a} ha => by
    cases a with
    | nan => rfl
    | _ => cases ha
  refine ⟨fun hs => ?_, fun hv' hw' hz => invalid_of_finishFloat (finishRem_dest h (frem_invalid hv' hw' hv hw hz))⟩
  have hx := finishRem_dest h (frem_nan hv hw (hs.imp hnan hnan))
  rw [nanTests_signaling hv hw hs] at hx
  exact invalid_of_finishFloat hx

/-- Settles O33. -/
theorem floatExceptions : Obligations.FloatExceptions := by
  refine ⟨fun s i op f r a b h => computes_exceptions h, fun s i src b f r h hb => ?_, fun s i b f r h => takesPart_exceptions h,
    fun s i f x z v w h hv hw => divides_exceptions h hv hw, fun i f r s c h => ?_,
    fun f o bytes s b hf hv => fsqr_ends hf hv⟩
  · have ho : fconvert s.fenv src f b = invalidOut s.fenv f := by
      unfold fconvert
      cases hc : classify src b with
      | nan q =>
        rw [hc] at hb
        cases q with
        | true => cases hb
        | false => rfl
      | _ =>
        rw [hc] at hb
        cases hb
    have hx := exec_of_converts h
    rw [ho] at hx
    exact invalid_of_finishFloat hx
  · intro taken rounded scaled
    have hrounds : Rounds i f r s c := by
      obtain ⟨op, a, b, p, q, h, hp, hq, hp0, hq0, rfl⟩ | ⟨src, b, h, hb⟩ | ⟨n, h, rfl⟩ := h
      · exact rounds_of_computes h hp hq hp0 hq0
      · exact rounds_of_converts h hb
      · exact rounds_of_fromInteger h
    obtain rfl | ⟨neg, m, e, hs, hx⟩ := hrounds
    · refine ⟨fun ho => ?_, fun h0 => ?_, fun u _ _ hu => ?_⟩
      · have hzero : |rounded (f.emax - f.fracBits)| = 0 := by
          rw [abs_eq_zero]
          exact roundTo_zero s.rmode _
        rw [hzero] at ho
        exact absurd ho (not_le.mpr (two_zpow_pos _))
      · rw [abs_zero] at h0
        exact absurd h0 (lt_irrefl _)
      · rw [abs_zero] at hu
        exact absurd hu (not_le.mpr (two_zpow_pos _))
    · refine ⟨fun ho => rounded_overflow hx hs ho, fun _ ht => ?_, fun u hmin _ hu hu' hne hr => rounded_inexact hx hs hmin hu hu' hne hr⟩
      exact ⟨fun hunf u hu hu' => rounded_underflow_taken hx hs ht hunf hu hu',
        fun hunf => ⟨fun hfz => rounded_flushed hx hs ht hunf hfz, fun hfz => rounded_denormalized hx hs ht hunf hfz⟩⟩

end Sys2Proof.Machine

/-! SUPPORT. Conversions to integer, floating-point compares, completion without enabled handlers. -/

namespace Sys2Proof.Machine

open Sys2Proof Sys2Proof.Stmt

variable {s t : State} {i : Instr}


/-! ### Conversions to integer (R482) -/

section

variable {f : Fmt} {b : FBits}

theorem roundAt_zero_eq (neg : Bool) (m : Nat) (e : Int) : (roundAt .zero neg m e 0).1 = truncAbs m e := by
  unfold truncAbs
  obtain h | h := le_or_gt 0 e
  · rw [roundAt_finer .zero neg m h, if_pos h, sub_zero]
  · rw [roundAt_coarser .zero neg m h, if_neg (not_le.mpr h), zero_sub]
    rfl

theorem signedNat_eq (neg : Bool) (m : Nat) : signedNat neg m = (if neg then -1 else 1) * (m : Int) := by
  cases neg <;> simp [signedNat]

theorem toInteger_number {p : Rat} (h : ratOf (classify f b) = some p) : toInteger f b = .int (roundRat .zero p) := by
  unfold toInteger
  obtain ⟨rfl, g, hc⟩ | ⟨-, neg, m, e, hc, -, -, rfl⟩ := classify_number h
  · have hzero := roundRat_intCast .zero 0
    rw [Int.cast_zero] at hzero
    rw [hc, hzero]
  · obtain ⟨hround, -⟩ := roundAt_eq .zero neg m e 0
    rw [zpow_zero, div_one, roundAt_zero_eq, ← signedNat_eq] at hround
    rw [hc, hround]

theorem toInteger_invalid (h : (∃ g, classify f b = .inf g) ∨ (classify f b).isNan = true) : toInteger f b = .invalid := by
  unfold toInteger
  obtain ⟨g, hc⟩ | hn := h
  · rw [hc]
  · cases hc : classify f b with
    | nan => rfl
    | inf => rfl
    | _ =>
      rw [hc] at hn
      cases hn

variable {x : Reg} {n : Int}

theorem finishToInt_int (h : exec i s = finishToInt i x (.int n) s) :
    (InRange n → Done i s (s.setReg x (BitVec.ofInt 64 n))) ∧
    (¬ InRange n → s.excEnabled .intOverflow = false →
      Done i s ((s.setReg x (BitVec.ofInt 64 n)).setOccurred .intOverflow)) ∧
    (¬ InRange n → s.excEnabled .intOverflow = true →
      exec i s = raise i { code := .intOverflow } (s.setReg x (BitVec.ofInt 64 n))) := by
  have hend : exec i s = if fitsSigned64 n then advance i (s.setReg x (BitVec.ofInt 64 n))
      else raise i { code := .intOverflow } (s.setReg x (BitVec.ofInt 64 n)) := h
  have hout : ¬ InRange n → exec i s = raise i { code := .intOverflow } (s.setReg x (BitVec.ofInt 64 n)) := fun hr =>
    hend.trans (if_neg fun hf => hr (fitsSigned64_iff.mp hf))
  exact ⟨fun hr => done_of_advance (hend.trans (if_pos (fitsSigned64_iff.mpr hr))) rfl,
    fun hr he => done_of_raise (e := { code := .intOverflow }) (hout hr) rfl he, fun hr _ => hout hr⟩

theorem finishToInt_invalid (h : exec i s = finishToInt i x .invalid s) :
    (s.excEnabled .fpInvalid = false → ∃ v, Done i s ((s.setReg x v).setOccurred .fpInvalid)) ∧
    (s.excEnabled .fpInvalid = true → exec i s = raise i { code := .fpInvalid } s) := by
  have hend : exec i s = if s.excEnabled .fpInvalid then raise i { code := .fpInvalid } s
      else advance i ((s.setOccurred .fpInvalid).setReg x (s.anyWord .destLow)) := h
  exact ⟨fun he => ⟨_, done_of_advance (hend.trans (if_neg (ne_true_of_eq_false he))) rfl⟩, fun he => hend.trans (if_pos he)⟩

/-- Settles O34. -/
theorem conversionsToInteger : Obligations.ConversionsToInteger := by
  intro i x f b s hi
  have hx : exec i s = finishToInt i x (toInteger f b) s := by
    obtain ⟨o, w, rfl, rfl, rfl, hv, rfl⟩ | ⟨o, w, rfl, rfl, rfl, hv, rfl⟩ | ⟨y, z, rfl, rfl, hz, rfl⟩ := hi
    · exact withLast_some hv
    · exact withLast_some hv
    · exact if_pos (pairSource_eq_true hz)
  refine ⟨fun p n hp hn => ?_, fun hb => ?_⟩
  · obtain rfl : n = roundRat .zero p := hn
    rw [toInteger_number hp] at hx
    exact finishToInt_int hx
  · rw [toInteger_invalid hb] at hx
    exact finishToInt_invalid hx

end

/-! ### What a compare finds (R440) -/

theorem relInt_exactSum (n1 : Bool) (m1 : Nat) (e1 : Int) (n2 : Bool) (m2 : Nat) (e2 : Int) :
    relInt (exactSum n1 m1 e1 (!n2) m2 e2) 0 = ratRel (numVal n1 m1 e1) (numVal n2 m2 e2) := by
  have hunit := two_zpow_pos (min e1 e2)
  have hsum := exactSum_eq n1 m1 e1 (!n2) m2 e2
  rw [numVal_not, ← sub_eq_add_neg] at hsum
  have hlt : exactSum n1 m1 e1 (!n2) m2 e2 < 0 ↔ numVal n1 m1 e1 < numVal n2 m2 e2 := by
    rw [← sub_neg (a := numVal n1 m1 e1), ← hsum, ← Int.cast_lt_zero (R := Rat)]
    exact ⟨fun h => mul_neg_of_neg_of_pos h hunit, fun h => neg_of_mul_neg_left h hunit.le⟩
  have heq : exactSum n1 m1 e1 (!n2) m2 e2 = 0 ↔ numVal n1 m1 e1 = numVal n2 m2 e2 := by
    rw [← sub_eq_zero (a := numVal n1 m1 e1), ← hsum, mul_eq_zero, or_iff_left hunit.ne', Int.cast_eq_zero]
  simp only [relInt, ratRel, hlt, heq]

theorem ratRel_zero_left {neg : Bool} {m : Nat} (hm : m ≠ 0) (e : Int) :
    ratRel 0 (numVal neg m e) = if neg then .greater else .less := by
  have hne : (0 : Rat) ≠ numVal neg m e := fun h => hm (numVal_zero_iff.mp h.symm)
  have hneg := numVal_neg_iff (neg := neg) hm e
  rw [ratRel, if_neg hne]
  cases neg with
  | true => exact if_neg (not_lt.mpr (hneg.mpr rfl).le)
  | false => exact if_pos (lt_of_le_of_ne (not_lt.mp fun h => Bool.false_ne_true (hneg.mp h)) hne)

theorem ratRel_zero_right {neg : Bool} {m : Nat} (hm : m ≠ 0) (e : Int) :
    ratRel (numVal neg m e) 0 = if neg then .less else .greater := by
  have hne : numVal neg m e ≠ 0 := fun h => hm (numVal_zero_iff.mp h)
  have hneg := numVal_neg_iff (neg := neg) hm e
  rw [ratRel, if_neg hne]
  cases neg with
  | true => exact if_pos (hneg.mpr rfl)
  | false => exact if_neg fun h => Bool.false_ne_true (hneg.mp h)

section

variable {f : Fmt} {a b : FBits} {p q : Rat} {excepted : Bool}

theorem relVals_numbers (ha : ratOf (classify f a) = some p) (hb : ratOf (classify f b) = some q) :
    relVals (classify f a) (classify f b) = ratRel p q := by
  obtain ⟨rfl, g, hca⟩ | ⟨-, neg, m, e, hca, hm, -, rfl⟩ := classify_number ha
  · obtain ⟨rfl, k, hcb⟩ | ⟨-, neg, m, e, hcb, hm, -, rfl⟩ := classify_number hb
    · rw [hca, hcb]
      rfl
    · rw [hca, hcb, ratRel_zero_left hm]
      rfl
  · obtain ⟨rfl, k, hcb⟩ | ⟨-, neg', m', e', hcb, -, -, rfl⟩ := classify_number hb
    · rw [hca, hcb, ratRel_zero_right hm]
      rfl
    · rw [hca, hcb, ← relInt_exactSum]
      rfl

/-- A number or an infinity: a value that a compare orders. -/
def FVal.ordered : FVal → Bool
  | .zero _ => true
  | .fin .. => true
  | .inf _ => true
  | .nan .. => false
  | .undef => false

theorem FVal.ordered_of_ratOf {v : FVal} (h : ratOf v = some p) : v.ordered = true := by
  cases v with
  | zero => rfl
  | fin => rfl
  | _ => cases h

theorem FVal.ordered_iff {v : FVal} : v.ordered = true ↔ v ≠ .undef ∧ v.isNan = false ∧ v.isSignaling = false := by
  cases v <;> simp [FVal.ordered, FVal.isNan, FVal.isSignaling]

theorem fcompare_ordered (ha : (classify f a).ordered = true) (hb : (classify f b).ordered = true) :
    fcompare excepted f a b = .rel (relVals (classify f a) (classify f b)) := by
  obtain ⟨ha, hna, hsa⟩ := FVal.ordered_iff.mp ha
  obtain ⟨hb, hnb, hsb⟩ := FVal.ordered_iff.mp hb
  simp [fcompare, ha, hb, hna, hnb, hsa, hsb]

theorem fcompare_nan (ha : classify f a ≠ .undef) (hb : classify f b ≠ .undef)
    (hn : (classify f a).isNan = true ∨ (classify f b).isNan = true) : fcompare excepted f a b =
      if ((classify f a).isSignaling || (classify f b).isSignaling || excepted) = true then .invalid else .rel .unordered := by
  have hnan : ((classify f a).isNan || (classify f b).isNan) = true := Bool.or_eq_true_iff.mpr hn
  simp [fcompare, ha, hb, hnan]

/-! ### The compares -/

theorem compares_of_floatCompare {app : App} {x : Reg} {branch : Bool} {act : Bool → State → Res}
    (hx : exec i s = floatCompare i (fcompare excepted f a b) app act s)
    (hact : ∀ held t, exec i s = act held t → t.pc = s.pc → t.excEnabled .software = s.excEnabled .software →
      Acts i x app branch s t held) :
    Compares i x app branch excepted s (classify f a) (classify f b) := by
  have hrel : ∀ r, fcompare excepted f a b = .rel r → Acts i x app branch s s (selects app.ccf r) := fun r hr => by
    rw [hr] at hx
    exact hact _ s (hx.trans (by rw [← ccfSelects_eq]; rfl)) rfl rfl
  have hordered : ∀ v w r, classify f a = v → classify f b = w → v.ordered = true → w.ordered = true → relVals v w = r →
      Acts i x app branch s s (selects app.ccf r) := by
    rintro v w r rfl rfl hv hw rfl
    exact hrel _ (fcompare_ordered hv hw)
  refine ⟨fun m n hm hn => ?_, fun g m hg hm => ?_, fun g m hm hg => ?_, fun g k hg hk => ?_, fun ha hb hn => ?_⟩
  · exact hordered _ _ _ rfl rfl (FVal.ordered_of_ratOf hm) (FVal.ordered_of_ratOf hn) (relVals_numbers hm hn)
  · refine hordered _ _ _ hg rfl rfl (FVal.ordered_of_ratOf hm) ?_
    cases hc : classify f b with
    | inf =>
      rw [hc] at hm
      cases hm
    | _ => rfl
  · refine hordered _ _ _ rfl hg (FVal.ordered_of_ratOf hm) rfl ?_
    cases hc : classify f a with
    | inf =>
      rw [hc] at hm
      cases hm
    | nan =>
      rw [hc] at hm
      cases hm
    | undef =>
      rw [hc] at hm
      cases hm
    | _ => rfl
  · exact hordered _ _ _ hg hk rfl rfl rfl
  · have hc := fcompare_nan (excepted := excepted) ha hb hn
    refine ⟨fun hq => hrel _ (hc.trans (if_neg (ne_true_of_eq_false hq))), fun hs => ?_⟩
    rw [hc, if_pos hs] at hx
    have hend : exec i s = if s.excEnabled .fpInvalid then raise i { code := .fpInvalid } s
        else if ccfSelects app.ccf .unordered then act true (s.setOccurred .fpInvalid)
        else advance i (s.setOccurred .fpInvalid) := hx
    rw [ccfSelects_eq] at hend
    refine ⟨fun he => hend.trans (if_pos he), fun he => ?_⟩
    rw [he, if_neg Bool.false_ne_true] at hend
    exact ⟨fun hu => hact _ _ (hend.trans (if_pos hu)) rfl (State.excEnabled_setOccurred _ _),
      fun hu => done_of_advance (hend.trans (if_neg (ne_true_of_eq_false hu))) rfl⟩

end

/-- The action of a compare's form. -/
def compareAction (branch : Bool) (i : Instr) (x : Reg) (a : App) : Bool → State → Res :=
  if branch then branchAction i a else testAction i x a

theorem acts_of_compareAction {x : Reg} {a : App} {branch held : Bool} (h : exec i s = compareAction branch i x a held t)
    (hpc : t.pc = s.pc) (he : t.excEnabled .software = s.excEnabled .software) : Acts i x a branch s t held := by
  cases branch with
  | true => exact acts_of_branch h hpc
  | false => exact acts_of_test h hpc he

theorem floatCompares_exec : ∀ e ∈ floatCompares, ∀ o a s, exec (e.1 o a) s =
    withLast (e.1 o a) .zero e.2.2.1.bytes o s fun b =>
      floatCompare (e.1 o a) (fcompare e.2.1 e.2.2.1 (wordDatum e.2.2.1 (s.reg o.a)) (wordDatum e.2.2.1 b)) a
        (compareAction e.2.2.2 (e.1 o a) o.x a) s := by
  unfold floatCompares
  simp only [List.forall_mem_cons, List.not_mem_nil, false_imp_iff, implies_true, and_true]
  and_intros <;> exact fun _ _ _ => rfl

theorem pairCompares_exec : ∀ e ∈ pairCompares, ∀ x y z a s, exec (e.1 x y z a) s =
    floatPairCompare (e.1 x y z a) e.2.1 y z a (compareAction e.2.2 (e.1 x y z a) x a) s := by
  unfold pairCompares
  simp only [List.forall_mem_cons, List.not_mem_nil, false_imp_iff, implies_true, and_true]
  and_intros <;> exact fun _ _ _ _ _ => rfl

/-- Settles O39. -/
theorem floatCompares : Obligations.FloatCompares := by
  refine ⟨fun e he o a s b hv => ?_, fun e he x y z a s hy hz => ?_⟩
  · exact compares_of_floatCompare ((floatCompares_exec e he o a s).trans (withLast_some hv)) fun _ _ h hpc hen =>
      acts_of_compareAction h hpc hen
  · have hpair : (pairSource y && pairSource z) = true := by rw [pairSource_eq_true hy, pairSource_eq_true hz]; rfl
    exact compares_of_floatCompare ((pairCompares_exec e he x y z a s).trans (if_pos hpair)) fun _ _ h hpc hen =>
      acts_of_compareAction h hpc hen


/-! ### Without enabled handlers nothing is taken -/

/-- The five handlers are disabled. -/
def FEnv.AllOff (env : FEnv) : Prop :=
  env.ovf = false ∧ env.unf = false ∧ env.dvz = false ∧ env.inv = false ∧ env.inx = false

theorem fenv_allOff (h : ∀ c ∈ [ExcCode.fpOverflow, .fpUnderflow, .fpDivZero, .fpInvalid, .fpInexact], s.excEnabled c = false) :
    s.fenv.AllOff :=
  ⟨h .fpOverflow (by decide), h .fpUnderflow (by decide), h .fpDivZero (by decide), h .fpInvalid (by decide), h .fpInexact (by decide)⟩

/-- An operation's end that no handler takes: it records floating-point exceptions only. -/
def FOut.Untaken : FOut → Prop
  | .undefined => True
  | .done _ occ => ∀ c ∈ occ, c.occurredBit ∈ fpBits
  | .taken .. => False

@[simp] theorem FOut.untaken_undefined : FOut.undefined.Untaken := trivial

@[simp] theorem FOut.untaken_exact (d : FBits) : (FOut.done d []).Untaken := nofun

theorem FOut.untaken_done {d : FBits} {occ : List ExcCode}
    (h : occ ⊆ [.fpOverflow, .fpUnderflow, .fpDivZero, .fpInvalid, .fpInexact]) : (FOut.done d occ).Untaken := by
  have hcodes : ∀ c ∈ [ExcCode.fpOverflow, .fpUnderflow, .fpDivZero, .fpInvalid, .fpInexact], c.occurredBit ∈ fpBits := by decide
  exact fun c hc => hcodes c (h hc)

section

variable {env : FEnv} {f : Fmt} {a b : FBits} {x y : FVal} {out : FOut}

theorem untaken_inexactOut (h : env.AllOff) {d : FBits} {lost : Bool} {occ : List ExcCode}
    (ho : occ ⊆ [.fpOverflow, .fpUnderflow, .fpDivZero, .fpInvalid, .fpInexact]) : (inexactOut env d lost occ).Untaken := by
  obtain ⟨-, -, -, -, hinx⟩ := h
  rw [inexactOut_disabled hinx]
  exact FOut.untaken_done ho

theorem untaken_invalidOut (h : env.AllOff) : (invalidOut env f).Untaken := by
  obtain ⟨-, -, -, hinv, -⟩ := h
  rw [invalidOut_disabled hinv]
  exact FOut.untaken_done (by decide)

theorem untaken_divZeroOut (h : env.AllOff) (neg : Bool) : (divZeroOut env f neg).Untaken := by
  obtain ⟨-, -, hdvz, -, -⟩ := h
  rw [divZeroOut, hdvz]
  exact FOut.untaken_done (by decide)

theorem untaken_underflowOut (h : env.AllOff) (neg : Bool) (m : Nat) (e : Int) : (underflowOut env f neg m e).Untaken := by
  have hunf : env.unf = false := by
    obtain ⟨-, hunf, -⟩ := h
    exact hunf
  unfold underflowOut
  rw [hunf, if_neg Bool.false_ne_true]
  split
  · exact untaken_inexactOut h (by decide)
  · refine untaken_inexactOut h ?_
    split <;> decide

theorem untaken_roundOut (h : env.AllOff) (neg : Bool) (m : Nat) (e : Int) : (roundOut env f neg m e).Untaken := by
  have hovf : env.ovf = false := by
    obtain ⟨hovf, -⟩ := h
    exact hovf
  unfold roundOut
  rw [hovf, if_neg Bool.false_ne_true]
  split
  · exact untaken_underflowOut h neg m e
  · dsimp only
    split
    · exact untaken_inexactOut h (by decide)
    · refine untaken_inexactOut h ?_
      split <;> decide

/-! ### The operations -/

theorem untaken_addVals (h : env.AllOff) : (addVals env f x y).Untaken := by
  fun_cases addVals env f x y <;> simp [untaken_invalidOut h, untaken_roundOut h]

theorem untaken_mulVals (h : env.AllOff) : (mulVals env f x y).Untaken := by
  fun_cases mulVals env f x y <;> simp [untaken_invalidOut h, untaken_roundOut h]

theorem untaken_divVals (h : env.AllOff) : (divVals env f x y).Untaken := by
  fun_cases divVals env f x y <;> simp [untaken_invalidOut h, untaken_roundOut h, untaken_divZeroOut h]

theorem untaken_nanTests (h : env.AllOff) (ho : out.Untaken) : (nanTests env f a b out).Untaken := by
  fun_cases nanTests env f a b out <;> simp [untaken_invalidOut h, ho]

theorem untaken_arithRun (h : env.AllOff) (op : Arith) : (arithRun op env f a b).Untaken := by
  cases op with
  | add => exact untaken_nanTests h (untaken_addVals h)
  | sub => exact untaken_nanTests h (untaken_addVals h)
  | subr => exact untaken_nanTests h (untaken_addVals h)
  | mul => exact untaken_nanTests h (untaken_mulVals h)
  | div => exact untaken_nanTests h (untaken_divVals h)
  | divr => exact untaken_nanTests h (untaken_divVals h)

theorem untaken_fconvert (h : env.AllOff) (src : Fmt) : (fconvert env src f b).Untaken := by
  fun_cases fconvert env src f b <;> simp [untaken_invalidOut h, untaken_roundOut h]

theorem untaken_ofInteger (h : env.AllOff) (n : Int) : (ofInteger env f n).Untaken := by
  unfold ofInteger
  split
  · exact FOut.untaken_exact _
  · exact untaken_roundOut h _ _ _

theorem untaken_finp (h : env.AllOff) : (finp env f b).Untaken := by
  unfold finp
  cases classify f b with
  | zero => exact FOut.untaken_exact _
  | inf => exact untaken_invalidOut h
  | nan => exact untaken_invalidOut h
  | undef => exact FOut.untaken_undefined
  | fin neg m e =>
    dsimp only
    split
    · exact FOut.untaken_exact _
    · refine untaken_inexactOut h ?_
      split <;> decide

/-- What FREM gives is taken by no handler. -/
def RemOut.Untaken : RemOut → Prop
  | .dest out => out.Untaken
  | .undefined => True
  | .nothing => True
  | .both .. => True

@[simp] theorem RemOut.untaken_dest : (RemOut.dest out).Untaken ↔ out.Untaken := Iff.rfl
@[simp] theorem RemOut.untaken_undefined : RemOut.undefined.Untaken := trivial
@[simp] theorem RemOut.untaken_nothing : RemOut.nothing.Untaken := trivial

theorem untaken_remFinite (s1 : Bool) (m1 : Nat) (e1 : Int) (s2 : Bool) (m2 : Nat) (e2 : Int) :
    (remFinite f s1 m1 e1 s2 m2 e2).Untaken := by
  unfold remFinite
  dsimp only
  split
  · exact RemOut.untaken_nothing
  · trivial

theorem untaken_frem (h : env.AllOff) : (frem env f a b).Untaken := by
  fun_cases frem env f a b <;>
    simp [untaken_nanTests h FOut.untaken_undefined, untaken_invalidOut h, untaken_remFinite]

end

/-! ### What a floating-point instruction may change -/

/-- From `s` to `t` nothing differs but the registers `l` and the floating-point occurred bits. -/
def FloatFrame (l : List Reg) (s t : State) : Prop := OnlyCpu s t ∧ RegsBut l s t ∧ PswBut fpBits s t ∧ t.pc = s.pc

/-- The registers of a datum. -/
def Fmt.regsAt (f : Fmt) (r : Reg) : List Reg := if f = .extended then [r, r + 1] else [r]

namespace FloatFrame

variable {l : List Reg} {f : Fmt}

theorem refl : FloatFrame l s s := ⟨rfl, fun _ _ => rfl, fun _ _ _ => rfl, rfl⟩

theorem setReg {r : Reg} (v : Word) (h : FloatFrame l s t) (hr : r ∈ l) : FloatFrame l s (t.setReg r v) := by
  obtain ⟨hcpu, hregs, hpsw, hpc⟩ := h
  refine ⟨?_, fun q hq => ?_, hpsw, hpc⟩
  · rw [OnlyCpu] at hcpu ⊢
    rw [hcpu]
    rfl
  · have hne : q ≠ r := fun he => hq (he ▸ hr)
    rw [t.reg_setReg_ne v hne, hregs q hq]

theorem setOccurred {c : ExcCode} (h : FloatFrame l s t) (hc : c.occurredBit ∈ fpBits) : FloatFrame l s (t.setOccurred c) := by
  obtain ⟨hcpu, hregs, hpsw, hpc⟩ := h
  refine ⟨?_, hregs, fun j hj hn => ?_, hpc⟩
  · rw [OnlyCpu] at hcpu ⊢
    rw [hcpu]
    rfl
  · have hne : j ≠ c.occurredBit := fun he => hn (he ▸ hc)
    rw [State.pswBit_setOccurred c hj, if_neg hne, hpsw j hj hn]

theorem setAllOccurred (occ : List ExcCode) (h : FloatFrame l s t) (ho : ∀ c ∈ occ, c.occurredBit ∈ fpBits) :
    FloatFrame l s (t.setAllOccurred occ) := by
  induction occ generalizing t with
  | nil => exact h
  | cons c occ ih =>
    exact ih (h.setOccurred (ho c List.mem_cons_self)) fun c' hc' => ho c' (List.mem_cons_of_mem c hc')

theorem setOccurredIf {c : ExcCode} (b : Bool) (h : FloatFrame l s t) (hc : c.occurredBit ∈ fpBits) :
    FloatFrame l s (t.setOccurredIf c b) := by
  cases b with
  | true => exact h.setOccurred hc
  | false => exact h

theorem anyFpBits (h : FloatFrame l s t) : FloatFrame l s t.anyFpBits :=
  ((((h.setOccurredIf _ (by decide)).setOccurredIf _ (by decide)).setOccurredIf _ (by decide)).setOccurredIf _
    (by decide)).setOccurredIf _ (by decide)

theorem writeDatum {r : Reg} (d : FBits) (h : FloatFrame l s t) (hr : f.regsAt r ⊆ l) : FloatFrame l s (writeDatum f r d t) := by
  cases f with
  | extended =>
    exact (h.setReg _ (hr List.mem_cons_self)).setReg _ (hr (List.mem_cons_of_mem r List.mem_cons_self))
  | _ => exact h.setReg _ (hr List.mem_cons_self)

theorem anyRemRegs {x z : Reg} (h : FloatFrame l s t) (hx : x ∈ l) (hz : f.regsAt z ⊆ l) : FloatFrame l s (t.anyRemRegs f x z) :=
  (h.setReg _ hx).writeDatum _ hz

end FloatFrame

/-- Instruction `i` completes, nothing changed but the registers `l`, floating-point occurred bits and the pc. -/
def FloatEnds (i : Instr) (l : List Reg) (s : State) : Prop :=
  ∃ t, exec i s = .next t ∧ OnlyCpu s t ∧ RegsBut l s t ∧ PswBut fpBits s t ∧ t.pc = s.nextPc i

section

variable {l : List Reg} {f : Fmt} {out : FOut}

theorem FloatFrame.nextPc (h : FloatFrame l s t) : t.nextPc i = s.nextPc i := by
  obtain ⟨-, -, -, hpc⟩ := h
  rw [State.nextPc, State.nextPc, hpc]

theorem floatEnds_of_setPc (h : exec i s = .next (t.setPc (s.nextPc i))) (ht : FloatFrame l s t) : FloatEnds i l s := by
  obtain ⟨hcpu, hregs, hpsw, -⟩ := ht
  refine ⟨_, h, ?_, hregs, hpsw, rfl⟩
  rw [OnlyCpu] at hcpu ⊢
  rw [hcpu]
  rfl

theorem floatEnds_of_advance (h : exec i s = advance i t) (ht : FloatFrame l s t) : FloatEnds i l s :=
  floatEnds_of_setPc (h.trans (by rw [advance_eq, ht.nextPc])) ht

theorem floatEnds_of_finishFloatBy {write : FBits → State → State} (h : exec i s = finishFloatBy i write out t)
    (ho : out.Untaken) (ht : FloatFrame l s t) (hw : ∀ d u, FloatFrame l s u → FloatFrame l s (write d u)) : FloatEnds i l s := by
  cases out with
  | undefined => exact floatEnds_of_setPc (h.trans (by rw [← ht.nextPc]; rfl)) (hw t.anyDatum _ ht.anyFpBits)
  | done d occ => exact floatEnds_of_setPc (h.trans (by rw [← ht.nextPc]; rfl)) (hw d _ (ht.setAllOccurred occ ho))
  | taken => exact ho.elim

theorem floatEnds_of_finishFloat {r : Reg} (h : exec i s = finishFloat i f r out s) (ho : out.Untaken) :
    FloatEnds i (f.regsAt r) s :=
  floatEnds_of_finishFloatBy h ho .refl fun d _ hu => hu.writeDatum d (List.Subset.refl _)

/-- FREM, whether its registers are apart or not (U10). -/
theorem floatEnds_of_finishRem {x z : Reg} {r : RemOut} (h : exec i s = finishRem i f x z r s) (hr : r.Untaken) :
    FloatEnds i (x :: f.regsAt z) s := by
  have hx : x ∈ x :: f.regsAt z := List.mem_cons_self
  have hz : f.regsAt z ⊆ x :: f.regsAt z := List.subset_cons_self x _
  have hkeep : ∀ u, FloatFrame (x :: f.regsAt z) s u →
      FloatFrame (x :: f.regsAt z) s (if remOverlap f x z then u.anyRemRegs f x z else u) := fun u hu => by
    split
    · exact hu.anyRemRegs hx hz
    · exact hu
  cases r with
  | undefined => exact floatEnds_of_advance h (FloatFrame.refl.anyFpBits.anyRemRegs hx hz)
  | nothing => exact floatEnds_of_advance h (hkeep s .refl)
  | dest out =>
    exact floatEnds_of_finishFloatBy h hr (hkeep s .refl) fun d u hu => hkeep _ (hu.writeDatum d hz)
  | both q d => exact floatEnds_of_advance h (hkeep _ ((FloatFrame.refl.setReg q hx).writeDatum d hz))

end

/-! ### The instructions -/

theorem conversions_untaken : ∀ e ∈ conversions, ∃ op : FEnv → Word → FOut, (∀ env b, env.AllOff → (op env b).Untaken) ∧
    ∀ o s, exec (e.1 o) s = convertOp (e.1 o) e.2.1 e.2.2 op o s := by
  unfold conversions
  simp only [List.forall_mem_cons, List.not_mem_nil, false_imp_iff, implies_true, and_true]
  exact ⟨⟨fun env b => fconvert env .double .extended (wordDatum .double b), fun _ _ h => untaken_fconvert h _, fun _ _ => rfl⟩,
    ⟨fun env b => fconvert env .double .single (wordDatum .double b), fun _ _ h => untaken_fconvert h _, fun _ _ => rfl⟩,
    ⟨fun env b => fconvert env .single .double (wordDatum .single b), fun _ _ h => untaken_fconvert h _, fun _ _ => rfl⟩,
    ⟨fun env b => fconvert env .single .extended (wordDatum .single b), fun _ _ h => untaken_fconvert h _, fun _ _ => rfl⟩,
    ⟨fun env b => ofInteger env .double b.toInt, fun _ _ h => untaken_ofInteger h _, fun _ _ => rfl⟩,
    ⟨fun env b => ofInteger env .single b.toInt, fun _ _ h => untaken_ofInteger h _, fun _ _ => rfl⟩,
    ⟨fun env b => finp env .single (wordDatum .single b), fun _ _ h => untaken_finp h, fun _ _ => rfl⟩,
    ⟨fun env b => finp env .double (wordDatum .double b), fun _ _ h => untaken_finp h, fun _ _ => rfl⟩⟩

theorem pairConversions_untaken : ∀ e ∈ pairConversions, ∀ x y z, (e.2.1 = true → z ≠ 15) →
    (e.2.2 = .extended → x.toNat < 14) → s.fenv.AllOff →
    ∃ out, out.Untaken ∧ exec (e.1 x y z) s = finishFloat (e.1 x y z) e.2.2 x out s := by
  unfold pairConversions
  simp only [List.forall_mem_cons, List.not_mem_nil, false_imp_iff, implies_true, and_true]
  refine ⟨fun x y z hz _ h => ?_, fun x y z hz _ h => ?_, fun x y z _ hx h => ?_, fun x y z hz hx h => ?_⟩
  · exact ⟨_, untaken_fconvert h _, if_pos (pairSource_eq_true (hz trivial))⟩
  · exact ⟨_, untaken_fconvert h _, if_pos (pairSource_eq_true (hz trivial))⟩
  · exact ⟨_, untaken_ofInteger h _, if_pos (pairTarget_eq_true (hx trivial))⟩
  · exact ⟨_, untaken_finp h, if_pos (by rw [pairTarget_eq_true (hx trivial), pairSource_eq_true (hz trivial)]; rfl)⟩

theorem remainders_untaken : ∀ e ∈ remainders, ∀ x y z, (e.2 = .extended → z.toNat < 14 ∧ y ≠ 15) → s.fenv.AllOff →
    ∃ r, r.Untaken ∧ exec (e.1 x y z) s = finishRem (e.1 x y z) e.2 x z r s := by
  unfold remainders
  simp only [List.forall_mem_cons, List.not_mem_nil, false_imp_iff, implies_true, and_true]
  refine ⟨fun x y z _ h => ⟨_, untaken_frem h, rfl⟩, fun x y z _ h => ⟨_, untaken_frem h, rfl⟩, fun x y z hp h => ?_⟩
  obtain ⟨hz, hy⟩ := hp trivial
  exact ⟨_, untaken_frem h, if_pos (by rw [pairTarget_eq_true hz, pairSource_eq_true hy]; rfl)⟩

theorem floatOps_word : ∀ e ∈ floatOps, e.2.1 ≠ .extended := by
  unfold floatOps
  simp

/-- Settles O30. -/
theorem floatInstructionsComplete : Obligations.FloatInstructionsComplete := by
  refine ⟨fun s hoff => ⟨fun e he o b hv => ?_, fun e he x y z hx hy hz => ?_, fun e he x y z hp => ?_⟩,
    fun s hoff => ⟨fun e he o b hv hx => ?_, fun e he x y z hz hx => ?_⟩⟩
  · have hend := floatEnds_of_finishFloat ((floatOps_exec e he o s).trans (withLast_some hv)) (untaken_arithRun (fenv_allOff hoff) _)
    rwa [Fmt.regsAt, if_neg (floatOps_word e he)] at hend
  · exact floatEnds_of_finishFloat ((floatPairOps_exec e he x y z s).trans (floatPairOp_legal hx hy hz))
      (untaken_arithRun (fenv_allOff hoff) _)
  · obtain ⟨r, hr, hend⟩ := remainders_untaken e he x y z hp (fenv_allOff hoff)
    have hend := floatEnds_of_finishRem hend hr
    rwa [Fmt.regsAt, apply_ite (List.cons x)] at hend
  · obtain ⟨op, hop, hend⟩ := conversions_untaken e he
    exact floatEnds_of_finishFloat ((hend o s).trans (convertOp_legal hv hx)) (hop _ _ (fenv_allOff hoff))
  · obtain ⟨out, ho, hend⟩ := pairConversions_untaken e he x y z hz hx (fenv_allOff hoff)
    exact floatEnds_of_finishFloat hend ho

end Sys2Proof.Machine
